-- ==== Sys2Proof/Word.lean ====
section
/-! DEFINITION. The word types of the K24 and their plainest arithmetic. -/

namespace Sys2Proof

/-- A character of data on either serial path: 8 bits (R1, R152, chapter 12: "here called bytes"). -/
abbrev Byte := BitVec 8

/-- The CRC-16 register (R185). -/
abbrev Word16 := BitVec 16

/-- The nine data-and-parity bits of a probe-line character (R1): data in bits 0 to 7, parity in bit 8. -/
abbrev LineBits := BitVec 9

/-- The byte of a number (its low eight bits). -/
def byte (n : Nat) : Byte := BitVec.ofNat 8 n

end Sys2Proof
end

