-- ==== Sys2Proof/Config.lean ====
section
/-! DEFINITION. What the K24 fixes once for all: sizes of tables and queues, limits of counts, numbers
of events.  The spec leaves no value free that a step needs, so there is no free value here
(NOTES.md, assumption 2). -/

namespace Sys2Proof.Config

/-- Probe Table slots (section 3.1). -/
def probeSlots : Nat := 64
/-- Air Point Table entries (section 3.2). -/
def airEntries : Nat := 8
/-- Actuator Table entries (section 9.1). -/
def actuatorEntries : Nat := 12
/-- Species groups of the Calibration Table (section 5.1). -/
def speciesGroups : Nat := 8
/-- Step records of the Schedule Table (section 7.1). -/
def scheduleSteps : Nat := 24
/-- Pass-through List entries (R164). -/
def passEntries : Nat := 5
/-- Heating zones (section 8 of the overview, *Zone*). -/
def zones : Nat := 4
/-- Line addresses that are surveyed, 1 to 126 (R63). -/
def lineAddresses : Nat := 126
/-- Events (section 11.5). -/
def events : Nat := 25

/-- Most outcomes in a record's outcome window (R46). -/
def windowLength : Nat := 8
/-- Most outcomes in the line window (R57). -/
def lineWindowLength : Nat := 32
/-- Consecutive MISS outcomes that make a record LOST (R52). -/
def missLimit : Nat := 8
/-- Failure entries that make an ACTIVE record SUSPECT (R51). -/
def suspectFailures : Nat := 3
/-- Most records in the evaluation history (R91). -/
def historyLength : Nat := 8
/-- The character count at which a transaction jabbers (R14). -/
def jabberCount : Nat := 41
/-- Greatest payload length of a response (R11). -/
def maxResponsePayload : Nat := 30
/-- Greatest age in climate cycles of a fresh air temperature (R55). -/
def freshCycles : Nat := 2
/-- Greatest difference, in percentage points, of a matching echo (R147). -/
def echoTolerance : Nat := 5
/-- Least owed count (R32). -/
def owedLow : Int := -3
/-- Greatest owed count (R32). -/
def owedHigh : Int := 8
/-- Owed count from which a SET is URGENT (R22, R35). -/
def owedUrgent : Int := 4

/-- Sixteenths of a bit in a probe-line character of 11 bits (R1). -/
def charSixteenths : Nat := 176
/-- The least whole number of idle bit times that is more than 2 character times (R152).  A character time is that of
an 11-bit character at the line's rate, on the plant loop as on the probe line, though a character of the loop has
10 bits (00_scope.md, section 6). -/
def loopIdleBits : Nat := 23

/-- Places of the Repeat Queue (R157). -/
def repeatPlaces : Nat := 4
/-- Places of the Insert Queue (R158). -/
def insertPlaces : Nat := 16
/-- Places of the Insert Queue kept for REPLY and NOTICE frames (R158). -/
def reservedPlaces : Nat := 3
/-- Waiting COMMANDs of the Command Unit (R156). -/
def waitingPlaces : Nat := 4
/-- Repeated frames sent in a row while the Insert Queue holds frames (R159). -/
def repeatRun : Nat := 4
/-- Greatest payload of a loop frame (R153). -/
def maxLoopPayload : Nat := 120
/-- Characters of the longest well-formed loop frame (R152). -/
def maxLoopFrame : Nat := 127
/-- Fewest characters of a frame that is no fragment (R152). -/
def minLoopFrame : Nat := 7
/-- Greatest hop count (R154). -/
def maxHops : Nat := 31
/-- The broadcast station (R151). -/
def broadcast : Nat := 31
/-- The station address taken for an invalid strap (R151). -/
def invalidStrapStation : Nat := 30

/-- The dry bulb taken where none is held, 20.0 °C (R77, R102). -/
def roomDb : Nat := 200
/-- Least span of a computed drying rate, in minutes (R93). -/
def rateSpan : Nat := 30

/-- The station straps of the board that `State.reset` stands for.
DESIGN CHOICE (assumption 3, unsafe): straps are pins and the spec fixes no level for them. -/
def resetStation : Nat := 1

end Sys2Proof.Config
end

