-- ==== Sys2Proof/Syntax.lean ====
section
/-! DEFINITION. The operations and events of the K24: one constructor for each row of
spec/opcode_table.json. -/

namespace Sys2Proof

/-- What the probe line presents to the receiver in a CHARACTER_RECEIVED event. -/
inductive LineSignal where
  /-- A whole character on a line that was idle before it, as the receiver samples it: nine
  data-and-parity bits, and whether its stop bit was at the active level (a framing fault, R1). -/
  | char (bits : LineBits) (framing : Bool)
  /-- The raw line itself, one level for each sixteenth of a bit, going on from where the line was;
  `true` is the idle level.  The receiver that `State` holds passes it through the glitch filter (R2) and
  samples it (R1); the levels may hold no character, a part of one, or several. -/
  | raw (samples : List Bool)
  deriving DecidableEq, Repr

/-- The idle line around what a LOOP_FRAME_RECEIVED event brings (R152). -/
structure LoopArrival where
  /-- More than 2 character times of idle line stand before it. -/
  idleBefore : Bool
  /-- More than 2 character times of idle line follow it. -/
  idleAfter : Bool
  deriving DecidableEq, Repr

/-- One frame on its own, with the idle line before and after it that R152 asks for. -/
def LoopArrival.whole : LoopArrival := { idleBefore := true, idleAfter := true }

/-- What loop-in presents to the Plant Loop Port in a LOOP_FRAME_RECEIVED event. -/
inductive LoopSignal where
  /-- Characters as sampled, and whether one of them had a framing fault (R152).  Among themselves they follow
  one another without more than 2 character times of idle line. -/
  | chars (chars : List Byte) (framing : Bool)
  /-- The line itself, one level for each bit time, going on from where the line was; `true` is the idle
  level.  The port takes its characters from the levels, and measures the idle line between frames on them
  (R152; the form is the model's, assumption 47). -/
  | bits (levels : List Bool)
  deriving DecidableEq, Repr

/-- One constructor for each row of spec/opcode_table.json, in the table's order.

COMMAND rows carry the source station of the COMMAND (`src`), its tag and its argument bytes from
byte 2 of the payload (R182); the TABLE WRITE rows of one table carry the bytes after the table code.
What a command row stands for is said in assumption 4. -/
inductive Instr where
  /-- READ_STATUS, R171. -/
  | readStatus (src tag : Byte) (args : List Byte)
  /-- TABLE_WRITE, R168: a TABLE WRITE whose bytes from the table code on are `args`. -/
  | tableWrite (src tag : Byte) (args : List Byte)
  /-- TABLE_WRITE_PROBE, R40. -/
  | tableWriteProbe (src tag : Byte) (args : List Byte)
  /-- TABLE_WRITE_AIRPOINT, R42. -/
  | tableWriteAirpoint (src tag : Byte) (args : List Byte)
  /-- TABLE_WRITE_ACTUATOR, R142. -/
  | tableWriteActuator (src tag : Byte) (args : List Byte)
  /-- TABLE_WRITE_CALIBRATION, R70. -/
  | tableWriteCalibration (src tag : Byte) (args : List Byte)
  /-- TABLE_WRITE_SCHEDULE, R97. -/
  | tableWriteSchedule (src tag : Byte) (args : List Byte)
  /-- TABLE_WRITE_CHARGE_PARAMS, R99. -/
  | tableWriteChargeParams (src tag : Byte) (args : List Byte)
  /-- TABLE_WRITE_CLIMATE_PARAMS, R126. -/
  | tableWriteClimateParams (src tag : Byte) (args : List Byte)
  /-- TABLE_WRITE_LINE_PARAMS, R4. -/
  | tableWriteLineParams (src tag : Byte) (args : List Byte)
  /-- TABLE_WRITE_PASS_LIST, R164. -/
  | tableWritePassList (src tag : Byte) (args : List Byte)
  /-- TABLE_READ, R169. -/
  | tableRead (src tag : Byte) (args : List Byte)
  /-- START_CHARGE, R102. -/
  | startCharge (src tag : Byte) (args : List Byte)
  /-- HOLD, R112. -/
  | hold (src tag : Byte) (args : List Byte)
  /-- RESUME, R113. -/
  | resume (src tag : Byte) (args : List Byte)
  /-- ADVANCE, R114. -/
  | advance (src tag : Byte) (args : List Byte)
  /-- SET_STEP, R115. -/
  | setStep (src tag : Byte) (args : List Byte)
  /-- ABORT_CHARGE, R120. -/
  | abortCharge (src tag : Byte) (args : List Byte)
  /-- STEP_AMEND, R116. -/
  | stepAmend (src tag : Byte) (args : List Byte)
  /-- OVERRIDE, R144. -/
  | override (src tag : Byte) (args : List Byte)
  /-- WB_SELECT, R43. -/
  | wbSelect (src tag : Byte) (args : List Byte)
  /-- SURVEY_START, R62. -/
  | surveyStart (src tag : Byte) (args : List Byte)
  /-- SURVEY_ABORT, R67. -/
  | surveyAbort (src tag : Byte) (args : List Byte)
  /-- LINE_RESET, R173. -/
  | lineReset (src tag : Byte) (args : List Byte)
  /-- RESTART, R172. -/
  | restart (src tag : Byte) (args : List Byte)
  /-- CLEAR_EVENTS, R177. -/
  | clearEvents (src tag : Byte) (args : List Byte)
  /-- SET_EVENT_MASK, R176. -/
  | setEventMask (src tag : Byte) (args : List Byte)
  /-- SET_REPORT_MODE, R170. -/
  | setReportMode (src tag : Byte) (args : List Byte)
  /-- SET_STATUS_LINES, R178. -/
  | setStatusLines (src tag : Byte) (args : List Byte)
  /-- UNKNOWN_COMMAND, R167: a COMMAND whose whole payload is `payload` (R182 answers payloads of 0 and
  1 byte in the same way). -/
  | unknownCommand (src : Byte) (payload : List Byte)
  /-- RESTART_EFFECT, R172. -/
  | restartEffect
  /-- RESET_ASSERT, R174. -/
  | resetAssert
  /-- RESET_RELEASE, R174: the levels of the straps STN4..STN0, PRATE and LRATE at the release, `true` and
  a one being high.  That STN0 is the least significant bit of the strapped value and that a high strap
  counts as 1 are the model's (PRESUMED, assumption 43). -/
  | resetRelease (stn : BitVec 5) (prate lrate : Bool)
  /-- MINUTE_TICK, R103. -/
  | minuteTick
  /-- QUARANTINE_END, R53: of the record with this node number (R54). -/
  | quarantineEnd (node : Fin 72)
  /-- SWEEP_TIMER_EXPIRY, R25. -/
  | sweepTimerExpiry
  /-- CLIMATE_CYCLE_EXPIRY, R30. -/
  | climateCycleExpiry
  /-- REFRESH_TIMER_EXPIRY, R32: of the actuator with this table index. -/
  | refreshTimerExpiry (index : Fin 12)
  /-- REVERSAL_TIMER_EXPIRY, R135. -/
  | reversalTimerExpiry
  /-- COAST_TIMER_EXPIRY, R136. -/
  | coastTimerExpiry
  /-- STEP_PULSE_END, R178. -/
  | stepPulseEnd
  /-- LINE_SELECT, R22. -/
  | lineSelect
  /-- LEAD_END, R5. -/
  | leadEnd
  /-- POLL_SENT, R6. -/
  | pollSent
  /-- LAG_END, R5. -/
  | lagEnd
  /-- CHARACTER_RECEIVED, R11. -/
  | characterReceived (signal : LineSignal)
  /-- RESPONSE_TIMEOUT, R10. -/
  | responseTimeout
  /-- GAP_FAULT, R12. -/
  | gapFault
  /-- TRAILING_WATCH_END, R13: whether a character is still being received at the watch's end. -/
  | trailingWatchEnd (inProgress : Bool)
  /-- ABANDONMENT_COMPLETE, R18. -/
  | abandonmentComplete
  /-- LOOP_FRAME_RECEIVED, R154: characters on loop-in, or the levels they are made of, and the idle line around
  them (R152).  With `LoopArrival.whole` they are one frame; with less idle line they are a part of one, or go on
  from what the port holds. -/
  | loopFrameReceived (signal : LoopSignal) (how : LoopArrival)
  /-- LOOP_OUT_FRAME_SENT, R159. -/
  | loopOutFrameSent
  /-- LOOP_OUT_HANDOVER, R159. -/
  | loopOutHandover
  deriving DecidableEq, Repr

end Sys2Proof
end

