-- ==== Sys2Proof/Machine/State.lean ====
section
/-! DEFINITION. Every piece of state the spec gives the K24, as plain data, and the machine right
after reset.  A value that can be absent is an `Option`; `none` is "absent". -/

namespace Sys2Proof.Machine

/-! ## Named values -/

/-- A known polarity of a node (R48).  UNKNOWN is `none` where a record holds `Option Polarity`. -/
inductive Polarity where
  | normal | reversed
  deriving DecidableEq, Repr

/-- The single result that closes a probe-line transaction (section 1.8). -/
inductive LineOutcome where
  | good | bad | miss | jabber
  deriving DecidableEq, Repr

/-- The request kinds of a poll (R6). -/
inductive RequestKind where
  | read | set | ping
  deriving DecidableEq, Repr

/-- The response kinds (R11). -/
inductive ResponseKind where
  | reading | echo | ident | diagnostic
  deriving DecidableEq, Repr

/-- The check kinds (R8). -/
inductive CheckKind where
  | crc | lrc
  deriving DecidableEq, Repr

/-- The node kinds of IDENT responses and of the Pass-through List (R64, R164). -/
inductive NodeKind where
  | probe | air | actuator
  deriving DecidableEq, Repr

/-- The values of a fan actuator and of a present fan demand (R125, section 9.1). -/
inductive FanValue where
  | stop | forward | reverse
  deriving DecidableEq, Repr

/-- A safe value, FORCE value, commanded, acknowledged or echoed value (section 9.1): percent functions
hold percentages, the fan function holds fan states. -/
inductive ActValue where
  | percent (n : Nat)
  | fan (v : FanValue)
  deriving DecidableEq, Repr

/-- The record a transaction serves (R5). -/
inductive Owner where
  | probe (slot : Nat)
  | air (index : Nat)
  | actuator (index : Nat)
  | survey (address : Nat)
  deriving DecidableEq, Repr

/-! ## Chapter 1: the Probe Line Port -/

/-- PLP states (section 1.4).  The trailing watch (R13) runs exactly in TRAILING. -/
inductive PlpPhase where
  | idle | lead | sending | lag | await | receiving | trailing
  deriving DecidableEq, Repr

/-- The faults of the fault list (R15). -/
inductive LineFault where
  | parity | framing | check | address | length | unreadable | gap
  deriving DecidableEq, Repr

/-- A transaction request (R5). -/
structure Request where
  owner : Owner
  address : Nat
  kind : RequestKind
  /-- The commanded value; SET only. -/
  argument : Option ActValue
  polarity : Polarity
  deriving DecidableEq, Repr

/-- The four LINE_PARAMS values the PLP latches (R4). -/
structure LatchedParams where
  glitchWidth : Nat
  lead : Nat
  lag : Nat
  timeout : Nat
  deriving DecidableEq, Repr

/-- The glitch filter's memory: the filtered level (`true` is the idle level), and for how many sixteenths
the raw line has held the other one (R2). -/
structure FilterState where
  level : Bool
  held : Nat
  deriving DecidableEq, Repr

/-- The filter at the idle level (R19). -/
def FilterState.atIdle : FilterState := { level := true, held := 0 }

/-- What the receiver does with the filtered line (R1, R3, R19).  An age counts the sixteenths since the
filtered start edge. -/
inductive RxPhase where
  /-- The line has not been seen at the idle level since power-on, and is treated as idle (R19). -/
  | powerOn
  /-- Waiting for the line to return to the idle level (R1, R3). -/
  | waiting
  /-- Looking for a start bit. -/
  | hunting
  /-- A character is being received; the levels of the bits after its start bit, sampled so far. -/
  | character (age : Nat) (bits : List Bool)
  /-- A character that is not received is on the line (R3). -/
  | skipping (age : Nat)
  deriving DecidableEq, Repr

/-- The receiver of the probe line (R1, R2). -/
structure Receiver where
  filter : FilterState
  phase : RxPhase
  deriving DecidableEq, Repr

/-- The receiver at power-on (R19). -/
def Receiver.powerOn : Receiver := { filter := .atIdle, phase := .powerOn }

/-- The Probe Line Port's state (section 1.4, R19). -/
structure Plp where
  phase : PlpPhase
  /-- The request of the transaction in flight; absent with no transaction and during an abandonment. -/
  request : Option Request
  /-- The values latched at the transaction's start (R4, R5). -/
  latched : Option LatchedParams
  /-- The characters of the poll, in the transmit polarity (R6, R7); formed when SENDING is entered. -/
  poll : List LineBits
  /-- The number of the next poll character to send, counted from 1 (section 1.4). -/
  pollNext : Nat
  /-- How many sixteenths of a bit of that character have been sent (R1, R18). -/
  pollAge : Nat
  /-- The response timer: running with this many milliseconds, or stopped (R9). -/
  responseTimer : Option Nat
  /-- The transaction's character count, 0 to 41 (R14). -/
  count : Nat
  /-- The polarity of the sync character (R9). -/
  sync : Option Polarity
  /-- The characters after the sync, decoded in the sync polarity, oldest first (R11). -/
  fields : List Byte
  /-- The declared end as a count of the response's characters, the sync included (R11). -/
  declaredEnd : Option Nat
  /-- The fault list (R15). -/
  faults : List LineFault
  /-- The probe-rate strap's sampled level: true is 38,400 bit/s (R1). -/
  rateHigh : Bool
  /-- The receiver, which runs in every PLP state (R2, R3, R20). -/
  receiver : Receiver
  deriving DecidableEq, Repr

/-! ## Chapter 2: the Line Arbiter -/

/-- The line condition (section 2.1). -/
inductive LineCondition where
  | idle | busy | abandoning
  deriving DecidableEq, Repr

/-- A polarity search (R37). -/
structure Search where
  polarity : Polarity
  tally : Nat
  deriving DecidableEq, Repr

/-- A search state at its start (R37). -/
def Search.start : Search := { polarity := .normal, tally := 0 }

/-- The Line Arbiter's state (section 2.1).  The owed counts stand in the Actuator Table. -/
structure Arbiter where
  condition : LineCondition
  /-- Sweep condition IN_PROGRESS. -/
  sweeping : Bool
  sweepPending : Bool
  /-- Probe slot 0 to 64. -/
  sweepPosition : Nat
  /-- 32 bits, wrapping (R26). -/
  sweepNumber : Nat
  /-- Seconds remaining. -/
  sweepTimer : Nat
  /-- Seconds remaining. -/
  climateTimer : Nat
  pollDue : List Bool
  /-- Seconds remaining, or stopped; one for each actuator. -/
  refreshTimers : List (Option Nat)
  /-- Retry wait SET; one for each actuator (R34). -/
  retryWait : List Bool
  probeSearch : List Search
  airSearch : List Search
  deriving DecidableEq, Repr

/-! ## Chapter 3: the Node Tables -/

/-- Supervision states (section 3.4). -/
inductive NodeState where
  | empty | unseen | active | suspect | lost | isolated
  deriving DecidableEq, Repr

/-- The line address and the supervision fields that probes and air points share (sections 3.1, 3.2). -/
structure NodeRecord where
  address : Option Nat
  state : NodeState
  polarity : Option Polarity
  lastSequence : Option Nat
  /-- Oldest first, at most 8 (R46). -/
  window : List LineOutcome
  misses : Nat
  /-- Minutes; present in ISOLATED only. -/
  quarantine : Option Nat
  deriving DecidableEq, Repr

/-- Where a reading's wood temperature came from (R77). -/
inductive TempSource where
  | probe | zoneAir | setpoint
  deriving DecidableEq, Repr

/-- Clamp mark (R75). -/
inductive ClampMark where
  | none | wet | dry
  deriving DecidableEq, Repr

/-- The cause of an INVALID reading (R74). -/
inductive InvalidCause where
  | short | open | pinFault | noCurve
  deriving DecidableEq, Repr

/-- The fields of a VALID reading (section 5.3). -/
structure Converted where
  wood : Int
  source : TempSource
  mc20 : Nat
  mc : Nat
  clamp : ClampMark
  deriving DecidableEq, Repr

/-- Validity, with the fields that only a VALID reading has (section 5.3). -/
inductive Validity where
  | valid (c : Converted)
  | invalid (cause : InvalidCause)
  deriving DecidableEq, Repr

/-- The reading record (section 5.3). -/
structure Reading where
  lcode : Nat
  validity : Validity
  seqGap : Bool
  sweep : Nat
  age : Nat
  deriving DecidableEq, Repr

/-- A Probe Table slot (section 3.1). -/
structure ProbeRecord where
  node : NodeRecord
  group : Nat
  zone : Nat
  /-- Include YES. -/
  incl : Bool
  reading : Option Reading
  deriving DecidableEq, Repr

/-- Air point roles (section 3.2). -/
inductive AirRole where
  | zoneDb | wb | reference
  deriving DecidableEq, Repr

/-- An Air Point Table entry (section 3.2). -/
structure AirRecord where
  node : NodeRecord
  role : AirRole
  zone : Option Nat
  lastTemp : Option Int
  cycles : Nat
  deriving DecidableEq, Repr

/-- The WB selection (R43). -/
inductive WbSelection where
  | default
  | explicit (primary secondary : Nat)
  deriving DecidableEq, Repr

/-- States of the Line Health Monitor (section 3.7). -/
inductive LineHealth where
  | up | degraded | down
  deriving DecidableEq, Repr

/-- The Node Tables with the Line Health Monitor (chapter 3). -/
structure NodeTables where
  probes : List ProbeRecord
  airs : List AirRecord
  wb : WbSelection
  /-- The drop mark of the record whose READ is in flight (R45). -/
  dropMark : Bool
  health : LineHealth
  /-- The line window, oldest first, at most 32 (R57). -/
  lineWindow : List LineOutcome
  deriving DecidableEq, Repr

/-! ## Chapter 4: the Survey Engine -/

/-- Survey condition (section 4.1). -/
inductive SurveyCondition where
  | idle | running | stopping
  deriving DecidableEq, Repr

/-- A Survey Map entry (section 4.1). -/
inductive MapEntry where
  | notSurveyed | noAnswer | garbled
  | answered (kind : NodeKind) (check : CheckKind)
  deriving DecidableEq, Repr

/-- A present comparison result (R65, R66). -/
structure Comparison where
  mismatches : Nat
  unknowns : Nat
  first : Option Nat
  deriving DecidableEq, Repr

/-- The Survey Engine's state (section 4.1).  Place `i` of the map is line address `i + 1`. -/
structure Survey where
  condition : SurveyCondition
  next : Option Nat
  inFlight : Option Nat
  map : List MapEntry
  count : Nat
  comparison : Option Comparison
  deriving DecidableEq, Repr

/-! ## Chapter 5: the Calibration Table -/

/-- A species group (section 5.1).  The breakpoint count is the list's length. -/
structure SpeciesGroup where
  /-- (L, MC20) pairs in ascending L. -/
  points : List (Nat × Nat)
  slope : Nat
  deriving DecidableEq, Repr

/-! ## Chapter 6: the Charge Evaluator -/

/-- An evaluation record (R90). -/
structure EvalRecord where
  sweep : Nat
  minute : Nat
  n : Nat
  k : Nat
  controlling : Option Nat
  /-- Slot and MC. -/
  wettest : Option (Nat × Nat)
  /-- Slot and MC. -/
  driest : Option (Nat × Nat)
  /-- Wettest first. -/
  slots : List Nat
  blind : Bool
  rate : Option Int
  deriving DecidableEq, Repr

/-- The Charge Evaluator's state (section 6.1). -/
structure Evaluator where
  latest : Option EvalRecord
  /-- Oldest first, at most 8 (R91). -/
  history : List EvalRecord
  deriving DecidableEq, Repr

/-! ## Chapter 7: the Schedule Engine -/

/-- Phases of a step (section 7.1). -/
inductive Phase where
  | dry | equalize | condition
  deriving DecidableEq, Repr

/-- Criterion kinds (R98). -/
inductive Criterion where
  | ctrlBelow | wettestBelow | driestBelow | dwell
  deriving DecidableEq, Repr

/-- Overdue actions (section 7.1). -/
inductive OverdueAction where
  | alarm | advance
  deriving DecidableEq, Repr

/-- A step record (section 7.1). -/
structure StepRecord where
  phase : Phase
  criterion : Criterion
  value : Nat
  dbTarget : Nat
  depTarget : Nat
  minDwell : Nat
  maxDwell : Nat
  overdue : OverdueAction
  rateLimit : Nat
  rateTrim : Nat
  deriving DecidableEq, Repr

/-- CHARGE_PARAMS, in table order (R84, R99). -/
structure ChargeParams where
  w : Nat
  q : Nat
  stale : Nat
  stepCount : Option Nat
  c : Nat
  b : Nat
  warmBand : Nat
  warmMax : Nat
  dbRamp : Nat
  depRamp : Nat
  coolEnd : Nat
  coolMax : Nat
  coolVent : Nat
  deriving DecidableEq, Repr

/-- Charge states (section 7.3). -/
inductive ChargeState where
  | idle | warmup | running | hold | cooldown | complete
  deriving DecidableEq, Repr

/-- The return state of a hold (R100). -/
inductive ReturnState where
  | warmup | running
  deriving DecidableEq, Repr

/-- Completion and noted results (R100). -/
inductive ChargeResult where
  | finished | aborted
  deriving DecidableEq, Repr

/-- The set of hold causes (R100). -/
structure HoldCauses where
  operator : Bool
  blind : Bool
  deriving DecidableEq, Repr

/-- The setpoints and the WB target, present from START CHARGE onward (R100). -/
structure Setpoints where
  targetDb : Nat
  targetDep : Nat
  activeDb : Nat
  activeDep : Nat
  wbTarget : Nat
  deriving DecidableEq, Repr

/-- The charge record (R100). -/
structure Charge where
  number : Nat
  state : ChargeState
  returnState : Option ReturnState
  causes : HoldCauses
  step : Nat
  dwell : Nat
  minute : Nat
  warmMinutes : Nat
  coolMinutes : Nat
  confirmation : Nat
  blinds : Nat
  trim : Bool
  stepOverdue : Bool
  warmOverdue : Bool
  setpoints : Option Setpoints
  result : Option ChargeResult
  noted : Option ChargeResult
  /-- A step index with a step record. -/
  amendment : Option (Nat × StepRecord)
  deriving DecidableEq, Repr

/-- The Schedule Engine's state (chapter 7). -/
structure Schedule where
  /-- The Schedule Table; an unloaded record is `none`. -/
  steps : List (Option StepRecord)
  params : ChargeParams
  charge : Charge
  deriving DecidableEq, Repr

/-! ## Chapter 8: the Climate Unit -/

/-- Loop modes (R125). -/
inductive LoopMode where
  | tracking | holding | dropped
  deriving DecidableEq, Repr

/-- One zone's heat demand (`none` is NONE) and loop state (R125). -/
structure ZoneLoop where
  demand : Option Nat
  value : Nat
  mode : LoopMode
  stale : Nat
  measured : Option Int
  deriving DecidableEq, Repr

/-- Humidity sources (R125). -/
inductive HumiditySource where
  | primary | secondary | none
  deriving DecidableEq, Repr

/-- Fan states (R125). -/
inductive FanState where
  | stopped | forward | coastR | reverse | coastF
  deriving DecidableEq, Repr

/-- CLIMATE_PARAMS, in table order (R126). -/
structure ClimateParams where
  heatGain : Nat
  heatBias : Nat
  heatSlew : Nat
  staleHold : Nat
  deadband : Nat
  ventGain : Nat
  sprayGain : Nat
  reversal : Nat
  coast : Nat
  deriving DecidableEq, Repr

/-- The Climate Unit's state (R125).  The fan demand follows from the fan state (section 8.5). -/
structure Climate where
  /-- Zones 1 to 4, in order. -/
  zones : List ZoneLoop
  /-- `none` is the demand NONE. -/
  vent : Option Nat
  spray : Option Nat
  source : HumiditySource
  measuredWb : Option Int
  fan : FanState
  /-- Minutes remaining, or stopped. -/
  reversalTimer : Option Nat
  /-- Seconds remaining, or stopped. -/
  coastTimer : Option Nat
  params : ClimateParams
  deriving DecidableEq, Repr

/-! ## Chapter 9: the Actuator Output Unit -/

/-- Functions of an actuator (section 9.1). -/
inductive ActFunction where
  | heat (zone : Nat)
  | vent | spray | fan
  deriving DecidableEq, Repr

/-- Overrides (R144). -/
inductive Override where
  | none | hold
  | force (v : ActValue)
  deriving DecidableEq, Repr

/-- States of an actuator (section 9.1). -/
inductive ActuatorState where
  | unseen | active | lost
  deriving DecidableEq, Repr

/-- An Actuator Table entry (section 9.1). -/
structure Actuator where
  address : Option Nat
  function : ActFunction
  safe : ActValue
  override : Override
  commanded : ActValue
  acknowledged : Option ActValue
  echoed : Option ActValue
  /-- Kept by the Line Arbiter (R32). -/
  owed : Int
  state : ActuatorState
  mismatches : Nat
  failed : Nat
  deriving DecidableEq, Repr

/-- The Actuator Output Unit's state (chapter 9). -/
structure Outputs where
  entries : List Actuator
  /-- The drop mark of the entry whose SET is in flight (R146). -/
  dropMark : Bool
  /-- A write changed that entry's function between a percent function and FAN (R146). -/
  kindMark : Bool
  deriving DecidableEq, Repr

/-! ## Chapter 10: the Plant Loop Port -/

/-- A loop frame (R153, R182); its check is computed as it leaves (R153). -/
structure LoopFrame where
  dest : Byte
  source : Byte
  /-- The frame kind byte (R182). -/
  kind : Byte
  edh : Bool
  eda : Bool
  /-- 0 to 31. -/
  hops : Nat
  payload : List Byte
  deriving DecidableEq, Repr

/-- A frame of the Insert Queue, and whether it is the REPLY whose leaving starts RESTART (R172). -/
structure InsertEntry where
  frame : LoopFrame
  restartReply : Bool
  deriving DecidableEq, Repr

/-- Which queue the frame on loop-out holds a place in; `none` once RESTART has emptied it (R165). -/
inductive FrameOrigin where
  | repeated | inserted | none
  deriving DecidableEq, Repr

/-- Loop-out: idle, sending a frame, or keeping the idle time after one (R152, R159). -/
inductive LoopOut where
  | idle
  | sending (frame : LoopFrame) (origin : FrameOrigin)
  | spacing
  deriving DecidableEq, Repr

/-- What loop-in is doing (R152, R165). -/
inductive LoopIn where
  /-- Characters are discarded until more than 2 character times of idle line. -/
  | waiting
  /-- The idle line has been seen: the next character begins a frame. -/
  | ready
  /-- A frame is in reception: its characters so far, and whether one of them had a framing fault. -/
  | frame (chars : List Byte) (framing : Bool)
  deriving DecidableEq, Repr

/-- What the receiver of loop-in does with the line, one level for each bit time (R152). -/
inductive LoopRx where
  /-- Looking for a start bit: the bit times of idle line since the last character, counted up to more than
  2 character times. -/
  | hunting (idle : Nat)
  /-- A character is being received; the levels of its data bits so far. -/
  | character (bits : List Bool)
  /-- After a framing fault, waiting for the line to return to the idle level. -/
  | broken
  deriving DecidableEq, Repr

/-- Report modes (R160). -/
inductive ReportMode where
  | off | evaluation | full
  deriving DecidableEq, Repr

/-- The Plant Loop Port's state (chapter 10). -/
structure LoopPort where
  /-- The value the five station straps gave at power-on (R151). -/
  strap : Nat
  /-- The station address in force (R151). -/
  station : Nat
  /-- The loop-rate strap's sampled level: true is 230,400 bit/s (R151). -/
  rateHigh : Bool
  repeatQueue : List LoopFrame
  insertQueue : List InsertEntry
  /-- The repeat run, 0 to 4 (R159). -/
  run : Nat
  loopIn : LoopIn
  /-- The receiver of the characters on loop-in (R152). -/
  loopRx : LoopRx
  out : LoopOut
  mode : ReportMode
  /-- The state report interval N (R160). -/
  interval : Nat
  /-- The state report count (R160). -/
  reportCount : Nat
  reportGap : Bool
  passGap : Bool
  /-- The Pass-through List (R164). -/
  passList : List (Option (NodeKind × ResponseKind))
  deriving DecidableEq, Repr

/-! ## Chapter 11: the Command Unit and the Event Unit -/

/-- A COMMAND handed to the Command Unit: its source station and its payload (R156, R166). -/
structure LoopCommand where
  source : Byte
  payload : List Byte
  deriving DecidableEq, Repr

/-- The Command Unit's state (R156, R166, R172). -/
structure CommandUnit where
  /-- The COMMAND being carried out. -/
  current : Option LoopCommand
  /-- That COMMAND is RESTART, taken and not yet in effect (R172). -/
  restarting : Bool
  /-- The waiting COMMANDs, in order of arrival, at most 4. -/
  waiting : List LoopCommand
  deriving DecidableEq, Repr

/-- The 25 events, in the order of their numbers (section 11.5). -/
inductive Event where
  | lineDegraded | lineDown | probeSuspect | probeLost | nodeIsolated | polarityChange
  | sweepOverrun | surveyDone | surveyMismatch | actuatorStarved | actuatorMismatch
  | actuatorLost | blindEval | holdEntered | stepChanged | stepOverdue | warmupOverdue
  | rateExceeded | humidityBlind | zoneBlind | chargeComplete | loopCheckError
  | loopOverrun | reportLost | strapInvalid
  deriving DecidableEq, Repr

/-- One event's latched flag and detail (R175). -/
structure EventFlag where
  set : Bool
  detail : Option Nat
  deriving DecidableEq, Repr

/-- Sources of the STATUS lines (R178). -/
inductive StatusSource where
  | alarm | chargeActive | hold | lineDown | stepPulse | surveyRunning | fanCoasting | amendWait
  deriving DecidableEq, Repr

/-- The Event Unit's state (R175 to R179).  ALARM and the STATUS lines follow from it. -/
structure EventUnit where
  /-- By event number. -/
  flags : List EventFlag
  /-- Bit n is event n (R176). -/
  mask : BitVec 25
  /-- The step pulse is running (R178). -/
  stepPulse : Bool
  /-- The sources of STATUS 0 to 3 (R178). -/
  sources : List StatusSource
  deriving DecidableEq, Repr

/-! ## LINE_PARAMS -/

/-- LINE_PARAMS, in table order: R4, then R24, then R56. -/
structure LineParams where
  glitchWidth : Nat
  lead : Nat
  lag : Nat
  timeout : Nat
  sweepPeriod : Nat
  climateCycle : Nat
  refresh : Nat
  quarantine : Nat
  degrade : Nat
  /-- Auto-survey ENABLED. -/
  autoSurvey : Bool
  deriving DecidableEq, Repr

/-! ## The whole machine -/

/-- The K24, and the queue of the operations and events that are waiting. -/
structure State where
  /-- RESET is held low (R174). -/
  resetHeld : Bool
  plp : Plp
  line : Arbiter
  lineParams : LineParams
  nodes : NodeTables
  survey : Survey
  calibration : List SpeciesGroup
  evaluator : Evaluator
  schedule : Schedule
  climate : Climate
  outputs : Outputs
  loop : LoopPort
  command : CommandUnit
  events : EventUnit
  /-- The queue of operations and events, first in, first out. -/
  pending : List Instr
  deriving DecidableEq, Repr

/-- The spec names no condition that stops the K24 with a fault, so no step answers one. -/
inductive Fault where
  /-- Raised by no meaning.  The K24 has no fault that stops it; the constructor only keeps the type
  inhabited (safe). -/
  | none
  deriving DecidableEq, Repr

/-- Why a step has no meaning. -/
inductive Refusal where
  /-- Raised by `exec` for a row that has no meaning yet (safe: the run stops).  No row is left so. -/
  | notModelled (mnemonic : String)
  deriving DecidableEq, Repr

/-! ## Power-on values -/

/-- The supervision fields of an EMPTY record (section 3.1). -/
def NodeRecord.blank : NodeRecord :=
  { address := none, state := .empty, polarity := none, lastSequence := none, window := [],
    misses := 0, quarantine := none }

/-- A Probe Table slot at power-on (section 3.1). -/
def ProbeRecord.powerOn : ProbeRecord :=
  { node := .blank, group := 0, zone := 1, incl := true, reading := none }

/-- An Air Point Table entry at power-on (section 3.2). -/
def AirRecord.powerOn : AirRecord :=
  { node := .blank, role := .reference, zone := none, lastTemp := none, cycles := 255 }

/-- LINE_PARAMS at power-on (R4, R24, R56). -/
def LineParams.powerOn : LineParams :=
  { glitchWidth := 3, lead := 8, lag := 8, timeout := 20, sweepPeriod := 60, climateCycle := 10,
    refresh := 5, quarantine := 10, degrade := 8, autoSurvey := true }

/-- CHARGE_PARAMS at power-on (R84, R99). -/
def ChargeParams.powerOn : ChargeParams :=
  { w := 6, q := 4, stale := 2, stepCount := none, c := 2, b := 3, warmBand := 20, warmMax := 0,
    dbRamp := 5, depRamp := 2, coolEnd := 450, coolMax := 600, coolVent := 100 }

/-- CLIMATE_PARAMS at power-on (R126). -/
def ClimateParams.powerOn : ClimateParams :=
  { heatGain := 10, heatBias := 20, heatSlew := 10, staleHold := 6, deadband := 5, ventGain := 20,
    sprayGain := 10, reversal := 180, coast := 60 }

/-- The charge record at power-on (R100). -/
def Charge.powerOn : Charge :=
  { number := 0, state := .idle, returnState := none,
    causes := { operator := false, blind := false }, step := 0, dwell := 0, minute := 0,
    warmMinutes := 0, coolMinutes := 0, confirmation := 0, blinds := 0, trim := false,
    stepOverdue := false, warmOverdue := false, setpoints := none, result := none, noted := none,
    amendment := none }

/-- A zone in safe mode (R125, R128). -/
def ZoneLoop.safe : ZoneLoop :=
  { demand := none, value := 0, mode := .tracking, stale := 0, measured := none }

/-- The Climate Unit at power-on: safe mode, fans STOPPED (R140). -/
def Climate.powerOn : Climate :=
  { zones := List.replicate 4 .safe, vent := none, spray := none, source := .none,
    measuredWb := none, fan := .stopped, reversalTimer := none, coastTimer := none,
    params := .powerOn }

/-- An Actuator Table entry at power-on (section 9.1). -/
def Actuator.powerOn : Actuator :=
  { address := none, function := .heat 1, safe := .percent 0, override := .none,
    commanded := .percent 0, acknowledged := none, echoed := none, owed := 0, state := .unseen,
    mismatches := 0, failed := 0 }

/-- The Probe Line Port at power-on with the probe-rate strap low (R19). -/
def Plp.powerOn : Plp :=
  { phase := .idle, request := none, latched := none, poll := [], pollNext := 0, pollAge := 0,
    responseTimer := none, count := 0, sync := none, fields := [], declaredEnd := none,
    faults := [], rateHigh := false, receiver := .powerOn }

/-- The Line Arbiter at power-on (R39). -/
def Arbiter.powerOn : Arbiter :=
  { condition := .idle, sweeping := false, sweepPending := false, sweepPosition := 0,
    sweepNumber := 0, sweepTimer := 60, climateTimer := 10,
    pollDue := List.replicate 8 false, refreshTimers := List.replicate 12 none,
    retryWait := List.replicate 12 false, probeSearch := List.replicate 64 .start,
    airSearch := List.replicate 8 .start }

/-- The Node Tables at power-on (R60). -/
def NodeTables.powerOn : NodeTables :=
  { probes := List.replicate 64 .powerOn, airs := List.replicate 8 .powerOn, wb := .default,
    dropMark := false, health := .up, lineWindow := [] }

/-- The Survey Engine at power-on (section 4.1, R68). -/
def Survey.powerOn : Survey :=
  { condition := .idle, next := none, inFlight := none,
    map := List.replicate 126 .notSurveyed, count := 0, comparison := none }

/-- The Plant Loop Port at power-on (R165), for the straps of `Config.resetStation`. -/
def LoopPort.powerOn : LoopPort :=
  { strap := Config.resetStation, station := Config.resetStation, rateHigh := false,
    repeatQueue := [], insertQueue := [], run := 0, loopIn := .waiting, loopRx := .hunting 0,
    out := .idle, mode := .off, interval := 0, reportCount := 0, reportGap := false, passGap := false,
    passList := List.replicate 5 none }

/-- The Event Unit at power-on (R179). -/
def EventUnit.powerOn : EventUnit :=
  { flags := List.replicate 25 { set := false, detail := none }, mask := 0#25, stepPulse := false,
    sources := [.chargeActive, .hold, .lineDown, .stepPulse] }

/-- The machine right after reset: RESET has returned high, every block holds its power-on values
(R19, R39, R60, R68, R70, R95, R124, R140, R149, R165, R174, R179), and the straps are those of
`Config.resetStation` with both rate straps low (DESIGN CHOICE, assumption 3). -/
def State.reset : State :=
  { resetHeld := false, plp := .powerOn, line := .powerOn, lineParams := .powerOn,
    nodes := .powerOn, survey := .powerOn,
    calibration := List.replicate 8 { points := [], slope := 0 },
    evaluator := { latest := none, history := [] },
    schedule := { steps := List.replicate 24 none, params := .powerOn, charge := .powerOn },
    climate := .powerOn,
    outputs := { entries := List.replicate 12 .powerOn, dropMark := false, kindMark := false },
    loop := .powerOn,
    command := { current := none, restarting := false, waiting := [] },
    events := .powerOn, pending := [] }

end Sys2Proof.Machine
end

