-- ==== Sys2Proof/Machine/Checks.lean ====
section
/-! DEFINITION. Bits, characters, byte order and checks: R1, R7, R180, R185. -/

namespace Sys2Proof.Machine

/-! ## CRC-16 and LRC (R185) -/

/-- One message bit through the CRC register: shift left, and exclusive-OR the generator where the bit
shifted out differed from the message bit (R185). -/
def crcBit (r : Word16) (b : Bool) : Word16 :=
  if r.msb != b then (r <<< 1) ^^^ 0x1021#16 else r <<< 1

/-- The bits of a byte, most significant first. -/
def bitsMsbFirst (b : Byte) : List Bool :=
  [b.getLsbD 7, b.getLsbD 6, b.getLsbD 5, b.getLsbD 4, b.getLsbD 3, b.getLsbD 2, b.getLsbD 1,
    b.getLsbD 0]

/-- One covered byte, most significant bit first (R185). -/
def crcByte (r : Word16) (b : Byte) : Word16 := (bitsMsbFirst b).foldl crcBit r

/-- The CRC-16 over the covered bytes, from 0xFFFF, with no final inversion (R185). -/
def crc16 (covered : List Byte) : Word16 := covered.foldl crcByte 0xFFFF#16

/-- The two CRC characters as sent, more significant byte first (R180, R185). -/
def crcBytes (covered : List Byte) : List Byte :=
  [byte ((crc16 covered).toNat / 256), byte ((crc16 covered).toNat % 256)]

/-- The sum of the covered bytes, modulo 256. -/
def byteSum (covered : List Byte) : Byte := covered.foldl (fun a b => a + b) 0#8

/-- The LRC: it makes the sum with the covered bytes 0 modulo 256 (R185). -/
def lrcByte (covered : List Byte) : Byte := 0#8 - byteSum covered

/-- The check characters of a response (R8). -/
def checkBytes (k : CheckKind) (covered : List Byte) : List Byte :=
  match k with
  | .crc => crcBytes covered
  | .lrc => [lrcByte covered]

/-- How many characters the check has (R8, R11). -/
def checkLength (k : CheckKind) : Nat :=
  match k with
  | .crc => 2
  | .lrc => 1

/-! ## Probe-line characters (R1, R7, R181) -/

/-- Whether the number of ones among the nine bits is odd: a parity fault, once the bits are read in the
polarity in force (R1). -/
def oddOnes (c : LineBits) : Bool :=
  (c.getLsbD 0 ^^ c.getLsbD 1) ^^ (c.getLsbD 2 ^^ c.getLsbD 3) ^^
    (c.getLsbD 4 ^^ c.getLsbD 5) ^^ (c.getLsbD 6 ^^ c.getLsbD 7) ^^ c.getLsbD 8

/-- The data byte of the nine bits. -/
def dataOf (c : LineBits) : Byte := c.setWidth 8

/-- A byte with its even parity bit (R1). -/
def charOf (b : Byte) : LineBits :=
  if oddOnes (b.setWidth 9) then (b.setWidth 9) ||| 0x100#9 else b.setWidth 9

/-- The nine bits in a polarity: REVERSED complements all nine (R7, R11). -/
def inPolarity (p : Polarity) (c : LineBits) : LineBits :=
  match p with
  | .normal => c
  | .reversed => ~~~c

/-- The normal sync form, data 0xB5 with its even parity bit (R181). -/
def syncChar : LineBits := charOf 0xB5#8

/-- The polarity of a sync character, if the character is one (R9). -/
def syncPolarity (c : LineBits) (framing : Bool) : Option Polarity :=
  if framing then none
  else if c = syncChar then some .normal
  else if c = inPolarity .reversed syncChar then some .reversed
  else none

/-- The levels of a character on the probe line, one for each bit: an active start bit, the nine
data-and-parity bits, least significant first, and an idle stop bit (R1).  A one is the idle level (PRESUMED,
assumption 9). -/
def charLevels (c : LineBits) : List Bool := [false] ++ (List.range 9).map c.getLsbD ++ [true]

/-! ## The receiver's glitch filter and sampling (R1, R2) -/

/-- One sixteenth of a bit through the glitch filter: the filtered level takes a new value when the raw
line has held it for the full width (R2). -/
def filterStep (width : Nat) (f : FilterState) (raw : Bool) : FilterState :=
  if raw = f.level then { level := f.level, held := 0 }
  else if width ≤ f.held + 1 then { level := raw, held := 0 }
  else { level := f.level, held := f.held + 1 }

/-- The filtered level after each sixteenth. -/
def filtered (width : Nat) : FilterState → List Bool → List Bool
  | _, [] => []
  | f, raw :: rest => (filterStep width f raw).level :: filtered width (filterStep width f raw) rest

/-- The number whose bits these are, least significant first; a one is the idle level. -/
def lsbFirst (bits : List Bool) : Nat := bits.foldr (fun b acc => 2 * acc + b.toNat) 0

/-- Nine sampled levels as data-and-parity bits, least significant first (R1).  A one is the idle level
(PRESUMED, assumption 9). -/
def bitsToChar (bits : List Bool) : LineBits := BitVec.ofNat 9 (lsbFirst bits)

/-- The age at which the stop bit is sampled: eight sixteenths into the eleventh bit (R1). -/
def stopAge : Nat := 168

/-- A data or parity bit is sampled at this age: eight sixteenths into its bit (R1). -/
def samplesAt (age : Nat) : Bool := decide (16 ≤ age) && age % 16 == 8

/-- The receiver once a stop bit has been sampled: after an active one it waits for the line to return to
the idle level before it looks for a start bit (R1, R3). -/
def afterStop (level : Bool) : RxPhase := if level then .hunting else .waiting

/-- One sixteenth at a filtered level: what the receiver does next, and the character it has received, as
its nine bits and whether its stop bit was active.  With DE high (`muted`) a start bit begins a character
that is not received (R3). -/
def RxPhase.next (level muted : Bool) : RxPhase → RxPhase × Option (LineBits × Bool)
  | .powerOn => (.powerOn, none)
  | .waiting => (afterStop level, none)
  | .hunting =>
    (if level then .hunting else if muted then .skipping 0 else .character 0 [], none)
  | .character age bits =>
    if age + 1 = stopAge then (afterStop level, some (bitsToChar bits, !level))
    else (.character (age + 1) (if samplesAt (age + 1) then bits ++ [level] else bits), none)
  | .skipping age =>
    (if age + 1 = stopAge then afterStop level else .skipping (age + 1), none)

/-- One sixteenth of the raw line through the receiver (R1, R2).  Until the line has been seen at the idle
level after power-on it is treated as idle (R19; that one sixteenth at idle is enough is the model's
reading, assumption 37). -/
def Receiver.step (width : Nat) (muted raw : Bool) (r : Receiver) :
    Receiver × Option (LineBits × Bool) :=
  match r.phase with
  | .powerOn => (if raw then { filter := .atIdle, phase := .hunting } else r, none)
  | phase =>
    let filter := filterStep width r.filter raw
    let next := phase.next filter.level muted
    ({ filter := filter, phase := next.1 }, next.2)

/-- DE rises: a character that is being received is on the line, and is not received (R3, R20; the model's
reading, assumption 37). -/
def Receiver.mute (r : Receiver) : Receiver :=
  match r.phase with
  | .character age _ => { r with phase := .skipping age }
  | _ => r

/-- The receiver after a whole character on an idle line (R1). -/
def Receiver.afterChar (framing : Bool) : Receiver :=
  { filter := { level := !framing, held := 0 }, phase := afterStop (!framing) }

/-- A start bit has been accepted, and the stop bit has not been reached (R13).  The stop bit is reached
where the receiver samples it, in its middle (`stopAge`), not where it begins (DESIGN CHOICE,
assumption 42). -/
def Receiver.inCharacter (r : Receiver) : Bool :=
  match r.phase with
  | .character _ _ => true
  | .powerOn | .waiting | .hunting | .skipping _ => false

/-! ## The 10-bit characters of the plant loop (R152) -/

/-- The levels of a character on the plant loop, one for each bit: a start bit, the eight data bits, least
significant first, and a stop bit (R152).  A one and the stop bit are the idle level (PRESUMED,
assumption 46). -/
def loopLevels (b : Byte) : List Bool := [false] ++ (List.range 8).map b.getLsbD ++ [true]

/-- Eight sampled levels as a byte, least significant bit first (R152). -/
def bitsToByte (bits : List Bool) : Byte := BitVec.ofNat 8 (lsbFirst bits)

/-- What one bit time of loop-in amounts to. -/
inductive LoopHeard where
  | nothing
  /-- The line has been idle for more than 2 character times. -/
  | idle
  /-- A character has been received, as sampled, with or without a framing fault. -/
  | char (b : Byte) (framing : Bool)
  deriving DecidableEq, Repr

/-- One bit time at a level: the receiver of loop-in after it, and what it has heard (R152).  A framing fault is
a stop bit at the active level (PRESUMED, assumption 46), after which the line must return to the idle level
before a start bit is looked for (as R1 has it for the probe line; DESIGN CHOICE, assumption 47). -/
def LoopRx.step (level : Bool) : LoopRx → LoopRx × LoopHeard
  | .hunting idle =>
    if level then
      if idle + 1 < Config.loopIdleBits then (.hunting (idle + 1), .nothing)
      else (.hunting Config.loopIdleBits, .idle)
    else (.character [], .nothing)
  | .character bits =>
    if bits.length < 8 then (.character (bits ++ [level]), .nothing)
    else (if level then .hunting 0 else .broken, .char (bitsToByte bits) (!level))
  | .broken => (if level then .hunting 1 else .broken, .nothing)

/-- A character is being received on loop-in. -/
def LoopRx.inCharacter : LoopRx → Bool
  | .character _ => true
  | .hunting _ | .broken => false

/-- The receiver of loop-in after whole characters, by the idle line around them (R152). -/
def LoopRx.afterChars (chars : List Byte) (how : LoopArrival) (r : LoopRx) : LoopRx :=
  if how.idleAfter || (how.idleBefore && chars.isEmpty) then .hunting Config.loopIdleBits
  else if chars.isEmpty then r
  else .hunting 0

/-! ## Byte order and absent values (R180) -/

/-- Two bytes, least significant first (R180). -/
def le16 (n : Nat) : List Byte := [byte (n % 256), byte (n / 256)]

/-- Three bytes, least significant first (R180). -/
def le24 (n : Nat) : List Byte := [byte (n % 256), byte (n / 256), byte (n / 65536)]

/-- Four bytes, least significant first (R180). -/
def le32 (n : Nat) : List Byte :=
  [byte (n % 256), byte (n / 256), byte (n / 65536), byte (n / 16777216)]

/-- A signed field of two bytes, two's complement (R180). -/
def leSigned (i : Int) : List Byte := le16 (BitVec.ofInt 16 i).toNat

/-- The number of two received bytes (R180). -/
def fromLe (lo hi : Byte) : Nat := lo.toNat + 256 * hi.toNat

/-- The signed number of two received bytes (R180). -/
def fromLeSigned (lo hi : Byte) : Int := (BitVec.ofNat 16 (fromLe lo hi)).toInt

/-- A mark: YES, set and ENABLED are 1 (R180). -/
def markByte (b : Bool) : Byte := if b then 1#8 else 0#8

/-- A one-byte field; absent reads 0xFF (R180). -/
def optByte (o : Option Nat) : Byte := (o.map byte).getD 0xFF#8

/-- An unsigned two-byte field; absent reads 0xFFFF (R180). -/
def opt16 (o : Option Nat) : List Byte := (o.map le16).getD [0xFF#8, 0xFF#8]

/-- A signed two-byte field; absent reads 0x8000 (R180). -/
def optSigned (o : Option Int) : List Byte := (o.map leSigned).getD [0x00#8, 0x80#8]

/-- A line address; absent reads 0 (R180). -/
def addressByte (o : Option Nat) : Byte := (o.map byte).getD 0#8

/-- An absent record: 0xFF in every byte (R180). -/
def absentRecord (size : Nat) : List Byte := List.replicate size 0xFF#8

end Sys2Proof.Machine
end

