-- ==== Sys2Proof/Machine/Ops.lean ====
section
/-! DEFINITION. The shared operations: rounding and clamping (section 5 of the overview), table access,
air freshness, and the entry of frames into the two queues of the Plant Loop Port. -/

namespace Sys2Proof.Machine

/-! ## Numbers (section 5 of the overview) -/

/-- Round half up: add one half of the divisor to the dividend, divide, discard the fraction. -/
def roundHalfUp (dividend divisor : Nat) : Nat := (2 * dividend + divisor) / (2 * divisor)

/-- Round half away from zero: round the magnitude half up and keep the sign. -/
def roundHalfAway (dividend : Int) (divisor : Nat) : Int :=
  if dividend < 0 then -(roundHalfUp dividend.natAbs divisor : Int)
  else (roundHalfUp dividend.natAbs divisor : Int)

/-- A natural number clamped to low..high. -/
def clampNat (low high n : Nat) : Nat := max low (min high n)

/-- An integer clamped to low..high. -/
def clampInt (low high i : Int) : Int := max low (min high i)

/-- An integer clamped to 0..high, as a natural number. -/
def clampToNat (high : Nat) (i : Int) : Nat := (clampInt 0 high i).toNat

/-- A saturating count one higher. -/
def satSucc (limit n : Nat) : Nat := min limit (n + 1)

/-- `value` moved toward `target` by at most `step` (R103, R130). -/
def moveToward (step value target : Nat) : Nat :=
  if target ≤ value + step ∧ value ≤ target + step then target
  else if value < target then value + step else value - step

/-! ## Tables -/

/-- The entries with their indices, counted from `start`. -/
def indexed {α : Type} (start : Nat) : List α → List (Nat × α)
  | [] => []
  | a :: rest => (start, a) :: indexed (start + 1) rest

/-- The first index, counted from `start`, whose entry satisfies `p`. -/
def firstIndex {α : Type} (p : Nat → α → Bool) (start : Nat) : List α → Option Nat
  | [] => none
  | a :: rest => if p start a then some start else firstIndex p (start + 1) rest

/-- The last `n` entries of a list. -/
def lastN {α : Type} (n : Nat) (l : List α) : List α := l.drop (l.length - n)

/-- The bytes at a place, 0 beyond the end. -/
def byteAt (bytes : List Byte) (i : Nat) : Byte := bytes.getD i 0#8

/-- The unsigned two-byte field at a place (R180). -/
def field16 (bytes : List Byte) (i : Nat) : Nat := fromLe (byteAt bytes i) (byteAt bytes (i + 1))

/-- The signed two-byte field at a place (R180). -/
def fieldSigned (bytes : List Byte) (i : Nat) : Int :=
  fromLeSigned (byteAt bytes i) (byteAt bytes (i + 1))

/-! ## Air points (R43, R55) -/

/-- A record is pollable: neither EMPTY nor ISOLATED (R22). -/
def NodeRecord.pollable (n : NodeRecord) : Bool :=
  n.state != .empty && n.state != .isolated

/-- An air point's temperature, if it is fresh (R55). -/
def AirRecord.freshTemp (a : AirRecord) : Option Int :=
  if a.cycles ≤ Config.freshCycles then a.lastTemp else none

/-- The entry is configured as the ZONE_DB point of zone `z` (R42). -/
def AirRecord.isZoneDb (a : AirRecord) (z : Nat) : Bool :=
  a.node.address.isSome && a.role == .zoneDb && a.zone == some z

/-- The entry is configured with role WB (R43). -/
def AirRecord.isWb (a : AirRecord) : Bool := a.node.address.isSome && a.role == .wb

/-- The zone's configured ZONE_DB entry; there is at most one (R42). -/
def NodeTables.zoneDb (t : NodeTables) (z : Nat) : Option AirRecord :=
  t.airs.find? fun a => a.isZoneDb z

/-- The fresh temperatures of the configured ZONE_DB entries (R102, R104, R119). -/
def NodeTables.freshZones (t : NodeTables) : List Int :=
  t.airs.filterMap fun a =>
    if a.node.address.isSome && a.role == .zoneDb then a.freshTemp else none

/-- The primary and secondary WB points that the selection gives (R43). -/
def NodeTables.wbPoints (t : NodeTables) : Option Nat × Option Nat :=
  match t.wb with
  | .explicit p s => (some p, some s)
  | .default =>
    let wbs := (indexed 0 t.airs).filterMap fun p => if p.2.isWb then some p.1 else none
    (wbs[0]?, wbs[1]?)

/-- The fresh temperature of the entry an index names, if there is one (R133). -/
def NodeTables.freshAt (t : NodeTables) (i : Option Nat) : Option Int :=
  match i with
  | none => none
  | some i =>
    match t.airs[i]? with
    | none => none
    | some a => a.freshTemp

/-! ## Kinds of values (section 9.1) -/

/-- The function is the fan function. -/
def ActFunction.isFan : ActFunction → Bool
  | .fan => true
  | _ => false

/-- The value is a fan state. -/
def ActValue.isFan : ActValue → Bool
  | .fan _ => true
  | .percent _ => false

/-! ## Frames into the Insert Queue (R153, R158, R163) -/

/-- The frame kind bytes (R182). -/
def kindCommand : Byte := 0#8
/-- REPLY. -/
def kindReply : Byte := 1#8
/-- REPORT. -/
def kindReport : Byte := 2#8
/-- NOTICE. -/
def kindNotice : Byte := 3#8
/-- PASS-THROUGH. -/
def kindPass : Byte := 4#8

/-- A frame that this K24 originates: its own address as source, marks clear, hop count 0 (R153). -/
def LoopPort.originate (p : LoopPort) (dest kind : Byte) (payload : List Byte) : LoopFrame :=
  { dest := dest, source := byte p.station, kind := kind, edh := false, eda := false, hops := 0,
    payload := payload }

/-- A REPLY or NOTICE can enter: at least 1 place is free (R158). -/
def LoopPort.roomForReply (p : LoopPort) : Bool :=
  p.insertQueue.length + 1 ≤ Config.insertPlaces

/-- A REPORT or PASS-THROUGH can enter: at least 3 places are free after it (R158). -/
def LoopPort.roomForReport (p : LoopPort) : Bool :=
  p.insertQueue.length + 1 + Config.reservedPlaces ≤ Config.insertPlaces

/-- The port with a frame at the end of its Insert Queue. -/
def LoopPort.insert (p : LoopPort) (f : LoopFrame) (restartReply : Bool) : LoopPort :=
  { p with insertQueue := p.insertQueue ++ [{ frame := f, restartReply := restartReply }] }

/-- A REPLY or NOTICE offered to the Insert Queue (R158): it enters, or it is not sent. -/
def LoopPort.offer (p : LoopPort) (f : LoopFrame) (restartReply : Bool) : LoopPort :=
  if p.roomForReply then p.insert f restartReply else p

end Sys2Proof.Machine
end

