-- ==== Sys2Proof/Machine/Flags.lean ====
section
/-! DEFINITION. The Event Unit: latched flags, NOTICE frames, the ALARM line, the STATUS lines and the
step pulse (R175 to R179), and the offering of REPORT and PASS-THROUGH frames, whose loss is an event
(R158, R163). -/

namespace Sys2Proof.Machine

/-- The number of an event (section 11.5). -/
def Event.number : Event → Nat
  | .lineDegraded => 0
  | .lineDown => 1
  | .probeSuspect => 2
  | .probeLost => 3
  | .nodeIsolated => 4
  | .polarityChange => 5
  | .sweepOverrun => 6
  | .surveyDone => 7
  | .surveyMismatch => 8
  | .actuatorStarved => 9
  | .actuatorMismatch => 10
  | .actuatorLost => 11
  | .blindEval => 12
  | .holdEntered => 13
  | .stepChanged => 14
  | .stepOverdue => 15
  | .warmupOverdue => 16
  | .rateExceeded => 17
  | .humidityBlind => 18
  | .zoneBlind => 19
  | .chargeComplete => 20
  | .loopCheckError => 21
  | .loopOverrun => 22
  | .reportLost => 23
  | .strapInvalid => 24

/-- An event raised, with its detail (R175). -/
abbrev Raise := Event × Option Nat

/-- The flag of an event is set. -/
def EventUnit.latched (u : EventUnit) (n : Nat) : Bool :=
  match u.flags[n]? with
  | some f => f.set
  | none => false

/-- The event mask selects an event (R176). -/
def EventUnit.selects (u : EventUnit) (n : Nat) : Bool := u.mask.getLsbD n

/-- A raise latches a clear flag with its detail, and leaves a set flag as it is (R175). -/
def EventUnit.latch (u : EventUnit) (r : Raise) : EventUnit :=
  { u with
    flags := u.flags.modify r.1.number fun f =>
      if f.set then f else { set := true, detail := r.2 } }

/-- The raise would newly latch its event (R175). -/
def EventUnit.newlyLatches (u : EventUnit) (r : Raise) : Bool := !u.latched r.1.number

/-- The set of latched events as a number, bit n for event n (R180). -/
def EventUnit.latchedSet (u : EventUnit) : Nat :=
  u.flags.foldr (fun f acc => 2 * acc + f.set.toNat) 0

/-- The payload of a NOTICE: event number, detail, and the latched set after this latch (R176, R184). -/
def noticePayload (r : Raise) (after : EventUnit) : List Byte :=
  [byte r.1.number, optByte r.2] ++ le32 after.latchedSet

/-- The port after a raise: a newly latched event that the mask selects offers one NOTICE to station 0
(R176). -/
def LoopPort.notify (p : LoopPort) (u : EventUnit) (r : Raise) : LoopPort :=
  if u.newlyLatches r && u.selects r.1.number then
    p.offer (p.originate 0#8 kindNotice (noticePayload r (u.latch r))) false
  else p

/-- A block raises an event (R175, R176). -/
def raise (r : Raise) (s : State) : State :=
  { s with events := s.events.latch r, loop := s.loop.notify s.events r }

/-- Several raises, taken in list order. -/
def raiseAll (rs : List Raise) (s : State) : State := rs.foldl (fun s r => raise r s) s

/-- The ALARM line is high while an event is both latched and selected; it is low while RESET is low
(R174, R176). -/
def State.alarm (s : State) : Bool :=
  !s.resetHeld && (List.range Config.events).any fun n => s.events.latched n && s.events.selects n

/-- The charge is in WARMUP, RUNNING, HOLD or COOLDOWN (R123). -/
def ChargeState.active : ChargeState → Bool
  | .warmup | .running | .hold | .cooldown => true
  | .idle | .complete => false

/-- The level of a STATUS source (R178). -/
def State.sourceLevel (s : State) : StatusSource → Bool
  | .alarm => s.alarm
  | .chargeActive => s.schedule.charge.state.active
  | .hold => s.schedule.charge.state == .hold
  | .lineDown => s.nodes.health == .down
  | .stepPulse => s.events.stepPulse
  | .surveyRunning => s.survey.condition != .idle
  | .fanCoasting => s.climate.fan == .coastR || s.climate.fan == .coastF
  | .amendWait => s.schedule.charge.amendment.isSome

/-- The level of STATUS line `i`; low while RESET is low (R174, R178). -/
def State.statusLine (s : State) (i : Nat) : Bool :=
  !s.resetHeld &&
    match s.events.sources[i]? with
    | some src => s.sourceLevel src
    | none => false

/-- The driver enable output: high in LEAD, SENDING and LAG, low in every other PLP state (R3, R174). -/
def State.de (s : State) : Bool :=
  !s.resetHeld && (s.plp.phase == .lead || s.plp.phase == .sending || s.plp.phase == .lag)

/-- The characters of the frame on loop-out, its check computed over the frame as it leaves (R153,
R182).  Bit 7 of the loop status is sent clear. -/
def LoopFrame.chars (f : LoopFrame) : List Byte :=
  let covered :=
    [f.dest, f.source, f.kind, byte f.payload.length,
      byte (f.hops + 32 * f.eda.toNat + 64 * f.edh.toNat)] ++ f.payload
  covered ++ crcBytes covered

/-- The characters leaving loop-out; none while loop-out is idle or RESET is low (R159, R174). -/
def State.loopOutChars (s : State) : List Byte :=
  if s.resetHeld then []
  else match s.loop.out with
    | .sending f _ => f.chars
    | .idle | .spacing => []

/-- The levels leaving loop-out, one for each bit: the characters of the frame, back to back (R152). -/
def State.loopOutLevels (s : State) : List Bool := s.loopOutChars.flatMap loopLevels

/-- A transition signalled by the Schedule Engine starts the step pulse, or starts it again (R178). -/
def startPulse (s : State) : State := { s with events := { s.events with stepPulse := true } }

/-! ## REPORT and PASS-THROUGH frames (R158, R163) -/

/-- A REPORT built with `body` after its report type and gap mark: it enters carrying the report gap
mark, which then becomes clear; or it is lost, the mark becomes set and REPORT_LOST is raised
(R158, R163). -/
def offerReport (reportType : Byte) (body : List Byte) (s : State) : State :=
  if s.loop.roomForReport then
    { s with
      loop :=
        { s.loop.insert
            (s.loop.originate 0#8 kindReport ([reportType, markByte s.loop.reportGap] ++ body))
            false with reportGap := false } }
  else
    raise (.reportLost, none) { s with loop := { s.loop with reportGap := true } }

/-- A PASS-THROUGH built with `body` after its gap mark, with the pass-through gap mark in the same way
(R158, R163, R164). -/
def offerPass (body : List Byte) (s : State) : State :=
  if s.loop.roomForReport then
    { s with
      loop :=
        { s.loop.insert (s.loop.originate 0#8 kindPass ([markByte s.loop.passGap] ++ body))
            false with passGap := false } }
  else
    raise (.reportLost, none) { s with loop := { s.loop with passGap := true } }

end Sys2Proof.Machine
end

