-- ==== Sys2Proof/Machine/Operands.lean ====
section
/-! DEFINITION. Every operand form: the codes of named values (R180), the layouts of table records for
reading and for writing (R183), and the judging and clamping of written records by their owning blocks
(R40, R42, R70, R84, R97, R99, R126, R142, R164, R167). -/

namespace Sys2Proof.Machine

/-! ## Codes of named values (R180, R182, R183) -/

/-- Polarity code: UNKNOWN 0, NORMAL 1, REVERSED 2. -/
def polarityCode : Option Polarity → Byte
  | none => 0#8
  | some .normal => 1#8
  | some .reversed => 2#8

/-- Outcome code: GOOD 0 to JABBER 3. -/
def outcomeCode : LineOutcome → Byte
  | .good => 0#8
  | .bad => 1#8
  | .miss => 2#8
  | .jabber => 3#8

/-- Request kind code (R181). -/
def requestCode : RequestKind → Byte
  | .read => 0#8
  | .set => 1#8
  | .ping => 2#8

/-- Response kind code (R181). -/
def responseCode : ResponseKind → Byte
  | .reading => 0#8
  | .echo => 1#8
  | .ident => 2#8
  | .diagnostic => 3#8

/-- The response kind of a code. -/
def responseOf (b : Byte) : Option ResponseKind :=
  match b.toNat with
  | 0 => some .reading
  | 1 => some .echo
  | 2 => some .ident
  | 3 => some .diagnostic
  | _ => none

/-- The response kind and check kind of a response kind byte; any of bits 4 to 6 set, or a value of 4
to 15 in bits 0 to 3, names none (R181). -/
def responseKindByte (b : Byte) : Option (ResponseKind × CheckKind) :=
  (responseOf (b &&& 0x7F#8)).map fun k => (k, if b.getLsbD 7 then .lrc else .crc)

/-- Check kind code. -/
def checkCode : CheckKind → Byte
  | .crc => 0#8
  | .lrc => 1#8

/-- The check kind of a code (R181, IDENT). -/
def checkOf (b : Byte) : Option CheckKind :=
  match b.toNat with
  | 0 => some .crc
  | 1 => some .lrc
  | _ => none

/-- Node kind code. -/
def nodeKindCode : NodeKind → Byte
  | .probe => 0#8
  | .air => 1#8
  | .actuator => 2#8

/-- The node kind of a code. -/
def nodeKindOf (b : Byte) : Option NodeKind :=
  match b.toNat with
  | 0 => some .probe
  | 1 => some .air
  | 2 => some .actuator
  | _ => none

/-- Fan states in a one-byte value field (R180). -/
def fanCode : FanValue → Byte
  | .stop => 0xF0#8
  | .forward => 0xF1#8
  | .reverse => 0xF2#8

/-- The fan state of a one-byte value field. -/
def fanOf (b : Byte) : Option FanValue :=
  match b.toNat with
  | 0xF0 => some .stop
  | 0xF1 => some .forward
  | 0xF2 => some .reverse
  | _ => none

/-- A value field: a percentage or a fan code (R180). -/
def valueCode : ActValue → Byte
  | .percent n => byte n
  | .fan v => fanCode v

/-- Supervision state code. -/
def nodeStateCode : NodeState → Byte
  | .empty => 0#8
  | .unseen => 1#8
  | .active => 2#8
  | .suspect => 3#8
  | .lost => 4#8
  | .isolated => 5#8

/-- Role code. -/
def roleCode : AirRole → Byte
  | .zoneDb => 0#8
  | .wb => 1#8
  | .reference => 2#8

/-- The role of a code. -/
def roleOf (b : Byte) : Option AirRole :=
  match b.toNat with
  | 0 => some .zoneDb
  | 1 => some .wb
  | 2 => some .reference
  | _ => none

/-- Function code: HEAT 0, VENT 1, SPRAY 2, FAN 3. -/
def functionCode : ActFunction → Byte
  | .heat _ => 0#8
  | .vent => 1#8
  | .spray => 2#8
  | .fan => 3#8

/-- Override mode code: NONE 0, HOLD 1, FORCE 2. -/
def overrideCode : Override → Byte
  | .none => 0#8
  | .hold => 1#8
  | .force _ => 2#8

/-- Actuator state code. -/
def actuatorStateCode : ActuatorState → Byte
  | .unseen => 0#8
  | .active => 1#8
  | .lost => 2#8

/-- Phase code. -/
def phaseCode : Phase → Byte
  | .dry => 0#8
  | .equalize => 1#8
  | .condition => 2#8

/-- The phase of a code. -/
def phaseOf (b : Byte) : Option Phase :=
  match b.toNat with
  | 0 => some .dry
  | 1 => some .equalize
  | 2 => some .condition
  | _ => none

/-- Criterion kind code, in the order of section 7.1. -/
def criterionCode : Criterion → Byte
  | .ctrlBelow => 0#8
  | .wettestBelow => 1#8
  | .driestBelow => 2#8
  | .dwell => 3#8

/-- The criterion kind of a code. -/
def criterionOf (b : Byte) : Option Criterion :=
  match b.toNat with
  | 0 => some .ctrlBelow
  | 1 => some .wettestBelow
  | 2 => some .driestBelow
  | 3 => some .dwell
  | _ => none

/-- Overdue action code. -/
def overdueCode : OverdueAction → Byte
  | .alarm => 0#8
  | .advance => 1#8

/-- The overdue action of a code. -/
def overdueOf (b : Byte) : Option OverdueAction :=
  match b.toNat with
  | 0 => some .alarm
  | 1 => some .advance
  | _ => none

/-- Charge state code: IDLE 0 to COMPLETE 5. -/
def chargeStateCode : ChargeState → Byte
  | .idle => 0#8
  | .warmup => 1#8
  | .running => 2#8
  | .hold => 3#8
  | .cooldown => 4#8
  | .complete => 5#8

/-- Return state code: WARMUP 0, RUNNING 1, in the order of the field's own values (R100, R180;
DEDUCED, assumption 12). -/
def returnStateByte : Option ReturnState → Byte
  | none => 0xFF#8
  | some .warmup => 0#8
  | some .running => 1#8

/-- Completion result code. -/
def resultByte : Option ChargeResult → Byte
  | none => 0xFF#8
  | some .finished => 0#8
  | some .aborted => 1#8

/-- Hold causes: OPERATOR in bit 0, BLIND in bit 1 (R180). -/
def causesByte (c : HoldCauses) : Byte := byte (c.operator.toNat + 2 * c.blind.toNat)

/-- Fan state code of the Climate Unit (R125). -/
def fanStateCode : FanState → Byte
  | .stopped => 0#8
  | .forward => 1#8
  | .coastR => 2#8
  | .reverse => 3#8
  | .coastF => 4#8

/-- Humidity source code (R125). -/
def sourceCode : HumiditySource → Byte
  | .primary => 0#8
  | .secondary => 1#8
  | .none => 2#8

/-- Loop mode as a number of two bits (R125, R184). -/
def modeNumber : LoopMode → Nat
  | .tracking => 0
  | .holding => 1
  | .dropped => 2

/-- Line health code. -/
def healthCode : LineHealth → Byte
  | .up => 0#8
  | .degraded => 1#8
  | .down => 2#8

/-- Survey condition code. -/
def surveyCode : SurveyCondition → Byte
  | .idle => 0#8
  | .running => 1#8
  | .stopping => 2#8

/-- Report mode code. -/
def reportModeCode : ReportMode → Byte
  | .off => 0#8
  | .evaluation => 1#8
  | .full => 2#8

/-- The report mode of a code. -/
def reportModeOf (b : Byte) : Option ReportMode :=
  match b.toNat with
  | 0 => some .off
  | 1 => some .evaluation
  | 2 => some .full
  | _ => none

/-- STATUS source code, in the order of the table of R178. -/
def statusSourceCode : StatusSource → Byte
  | .alarm => 0#8
  | .chargeActive => 1#8
  | .hold => 2#8
  | .lineDown => 3#8
  | .stepPulse => 4#8
  | .surveyRunning => 5#8
  | .fanCoasting => 6#8
  | .amendWait => 7#8

/-- The STATUS source of a code. -/
def statusSourceOf (b : Byte) : Option StatusSource :=
  match b.toNat with
  | 0 => some .alarm
  | 1 => some .chargeActive
  | 2 => some .hold
  | 3 => some .lineDown
  | 4 => some .stepPulse
  | 5 => some .surveyRunning
  | 6 => some .fanCoasting
  | 7 => some .amendWait
  | _ => none

/-- Clamp mark as a number. -/
def clampNumber : ClampMark → Nat
  | .none => 0
  | .wet => 1
  | .dry => 2

/-- Temperature source as a number. -/
def tempSourceNumber : TempSource → Nat
  | .probe => 0
  | .zoneAir => 1
  | .setpoint => 2

/-- Validity as a number: VALID 0, SHORT 1, OPEN 2, PIN_FAULT 3, NO_CURVE 4 (R183). -/
def validityNumber : Validity → Nat
  | .valid _ => 0
  | .invalid .short => 1
  | .invalid .open => 2
  | .invalid .pinFault => 3
  | .invalid .noCurve => 4

/-! ## Records as TABLE READ returns them (R183) -/

/-- The reading record, 17 bytes (R183). -/
def readingBytes (r : Reading) : List Byte :=
  le16 r.lcode ++ [byte (validityNumber r.validity)] ++
    (match r.validity with
      | .valid c =>
        leSigned c.wood ++ [byte (tempSourceNumber c.source)] ++ le16 c.mc20 ++ le16 c.mc ++
          [byte (clampNumber c.clamp)]
      | .invalid _ => optSigned none ++ [0xFF#8] ++ opt16 none ++ opt16 none ++ [0xFF#8]) ++
    [markByte r.seqGap] ++ le32 r.sweep ++ [byte r.age]

/-- A reading field: absent is 0xFF in every byte. -/
def readingField (r : Option Reading) : List Byte := (r.map readingBytes).getD (absentRecord 17)

/-- Eight window positions, oldest first, unused 0xFF (R183). -/
def windowBytes (w : List LineOutcome) : List Byte :=
  w.map outcomeCode ++ List.replicate (Config.windowLength - w.length) 0xFF#8

/-- State, polarity, last sequence, window length, window, miss count and quarantine (R183). -/
def supervisionBytes (n : NodeRecord) : List Byte :=
  [nodeStateCode n.state, polarityCode n.polarity, optByte n.lastSequence, byte n.window.length] ++
    windowBytes n.window ++ [byte n.misses, optByte n.quarantine]

/-- A PROBE record, 35 bytes. -/
def probeBytes (p : ProbeRecord) : List Byte :=
  [addressByte p.node.address, byte p.group, byte p.zone, markByte p.incl] ++
    supervisionBytes p.node ++ readingField p.reading

/-- An AIRPOINT record, 20 bytes. -/
def airBytes (a : AirRecord) : List Byte :=
  [addressByte a.node.address, roleCode a.role, optByte a.zone] ++ supervisionBytes a.node ++
    optSigned a.lastTemp ++ [byte a.cycles]

/-- A value field that can be absent. -/
def optValue (v : Option ActValue) : Byte := (v.map valueCode).getD 0xFF#8

/-- An ACTUATOR record, 13 bytes. -/
def actuatorBytes (a : Actuator) : List Byte :=
  [addressByte a.address, functionCode a.function,
    (match a.function with
      | .heat z => byte z
      | _ => 0xFF#8),
    valueCode a.safe, overrideCode a.override,
    (match a.override with
      | .force v => valueCode v
      | _ => 0xFF#8),
    valueCode a.commanded, optValue a.acknowledged, optValue a.echoed, BitVec.ofInt 8 a.owed,
    actuatorStateCode a.state, byte a.mismatches, byte a.failed]

/-- A CALIBRATION record, 50 bytes. -/
def groupBytes (g : SpeciesGroup) : List Byte :=
  [byte g.points.length] ++ g.points.flatMap (fun p => le16 p.1 ++ le16 p.2) ++
    List.replicate (4 * (12 - g.points.length)) 0xFF#8 ++ [byte g.slope]

/-- A SCHEDULE record, 15 bytes. -/
def stepBytes (r : StepRecord) : List Byte :=
  [phaseCode r.phase, criterionCode r.criterion] ++ le16 r.value ++ le16 r.dbTarget ++
    le16 r.depTarget ++ le16 r.minDwell ++ le16 r.maxDwell ++
    [overdueCode r.overdue, byte r.rateLimit, byte r.rateTrim]

/-- An evaluation record, 37 bytes. -/
def evalBytes (e : EvalRecord) : List Byte :=
  le32 e.sweep ++ le32 e.minute ++ [byte e.n, byte e.k] ++ opt16 e.controlling ++
    [optByte (e.wettest.map Prod.fst)] ++ opt16 (e.wettest.map Prod.snd) ++
    [optByte (e.driest.map Prod.fst)] ++ opt16 (e.driest.map Prod.snd) ++
    (e.slots.map byte ++ List.replicate (16 - e.slots.length) 0xFF#8) ++
    [markByte e.blind] ++ optSigned e.rate

/-- A SURVEY_MAP record, 3 bytes. -/
def mapBytes : MapEntry → List Byte
  | .notSurveyed => [0#8, 0xFF#8, 0xFF#8]
  | .noAnswer => [1#8, 0xFF#8, 0xFF#8]
  | .garbled => [2#8, 0xFF#8, 0xFF#8]
  | .answered k c => [3#8, nodeKindCode k, checkCode c]

/-- An EVENTS record, 2 bytes. -/
def flagBytes (f : EventFlag) : List Byte := [markByte f.set, optByte f.detail]

/-- A PASS_LIST record, 2 bytes. -/
def passBytes (e : Option (NodeKind × ResponseKind)) : List Byte :=
  match e with
  | some (k, r) => [nodeKindCode k, responseCode r]
  | none => absentRecord 2

/-- The thirteen CHARGE_PARAMS values in table order; the step count can be absent (R84, R99). -/
def ChargeParams.values (p : ChargeParams) : List (Option Nat) :=
  [some p.w, some p.q, some p.stale, p.stepCount, some p.c, some p.b, some p.warmBand,
    some p.warmMax, some p.dbRamp, some p.depRamp, some p.coolEnd, some p.coolMax, some p.coolVent]

/-- The nine CLIMATE_PARAMS values in table order (R126). -/
def ClimateParams.values (p : ClimateParams) : List Nat :=
  [p.heatGain, p.heatBias, p.heatSlew, p.staleHold, p.deadband, p.ventGain, p.sprayGain,
    p.reversal, p.coast]

/-- The ten LINE_PARAMS values in table order (R4, R24, R56). -/
def LineParams.values (p : LineParams) : List Nat :=
  [p.glitchWidth, p.lead, p.lag, p.timeout, p.sweepPeriod, p.climateCycle, p.refresh, p.quarantine,
    p.degrade, p.autoSurvey.toNat]

/-! ## Written records

A parse answers `none` for a structural fault (reply BAD_ARGUMENT); otherwise the value, with every
numeric field clamped, and whether one was (reply ADJUSTED) (R167). -/

/-- A numeric field clamped to its range, and whether it lay outside. -/
def clampField (low high n : Nat) : Nat × Bool :=
  (clampNat low high n, n != clampNat low high n)

/-- A line address field: 0 is absent; 1 to 126 is present; any other is a structural fault (R40). -/
def parseAddress (b : Byte) : Option (Option Nat) :=
  if b.toNat = 0 then some none
  else if b.toNat ≤ Config.lineAddresses then some (some b.toNat)
  else none

/-- A mark field: a code other than 0 and 1 names no value (R167, R180). -/
def parseMark (b : Byte) : Option Bool :=
  match b.toNat with
  | 0 => some false
  | 1 => some true
  | _ => none

/-- The configuration fields of a PROBE record (section 3.1). -/
structure ProbeConfig where
  address : Option Nat
  group : Nat
  zone : Nat
  incl : Bool
  deriving DecidableEq, Repr

/-- A PROBE record judged (R40): a line address outside 1..126 and an Include code that names no value
are structural, group and zone are clamped. -/
def parseProbe (bytes : List Byte) : Option (ProbeConfig × Bool) :=
  match parseAddress (byteAt bytes 0), parseMark (byteAt bytes 3) with
  | some address, some incl =>
    let group := clampField 0 7 (byteAt bytes 1).toNat
    let zone := clampField 1 4 (byteAt bytes 2).toNat
    some ({ address := address, group := group.1, zone := zone.1, incl := incl },
      group.2 || zone.2)
  | _, _ => none

/-- The configuration fields of an AIRPOINT record (section 3.2). -/
structure AirConfig where
  address : Option Nat
  role : AirRole
  zone : Option Nat
  deriving DecidableEq, Repr

/-- An AIRPOINT record judged (R42): ZONE_DB must carry a zone 1..4, the other roles carry none. -/
def parseAir (bytes : List Byte) : Option (AirConfig × Bool) :=
  match parseAddress (byteAt bytes 0), roleOf (byteAt bytes 1) with
  | some address, some .zoneDb =>
    let z := (byteAt bytes 2).toNat
    if 1 ≤ z ∧ z ≤ Config.zones then
      some ({ address := address, role := .zoneDb, zone := some z }, false)
    else none
  | some address, some role => some ({ address := address, role := role, zone := none }, false)
  | _, _ => none

/-- A safe or FORCE value for a function: for FAN a fan state; for a percent function a percentage,
clamped to 100, a fan code being of the wrong kind (R142, R144). -/
def parseValue (f : ActFunction) (b : Byte) : Option (ActValue × Bool) :=
  match f.isFan, fanOf b with
  | true, some v => some (.fan v, false)
  | true, none => none
  | false, some _ => none
  | false, none => some (.percent (clampField 0 100 b.toNat).1, (clampField 0 100 b.toNat).2)

/-- An override for a function from its mode and value fields; the value is read for FORCE only
(R142, R144, R182). -/
def parseOverride (f : ActFunction) (mode value : Byte) : Option (Override × Bool) :=
  match mode.toNat with
  | 0 => some (.none, false)
  | 1 => some (.hold, false)
  | 2 => (parseValue f value).map fun v => (.force v.1, v.2)
  | _ => none

/-- A function field with its HEAT zone, clamped to 1..4 (R142). -/
def parseFunction (code zone : Byte) : Option (ActFunction × Bool) :=
  match code.toNat with
  | 0 => some (.heat (clampField 1 4 zone.toNat).1, (clampField 1 4 zone.toNat).2)
  | 1 => some (.vent, false)
  | 2 => some (.spray, false)
  | 3 => some (.fan, false)
  | _ => none

/-- The configuration fields of an ACTUATOR record (section 9.1). -/
structure ActuatorConfig where
  address : Option Nat
  function : ActFunction
  safe : ActValue
  override : Override
  deriving DecidableEq, Repr

/-- An ACTUATOR record judged against the entry it is written to (R142). -/
def parseActuator (present : Actuator) (bytes : List Byte) : Option (ActuatorConfig × Bool) :=
  match parseAddress (byteAt bytes 0), parseFunction (byteAt bytes 1) (byteAt bytes 2) with
  | some address, some (function, adj1) =>
    match parseValue function (byteAt bytes 3),
      parseOverride function (byteAt bytes 4) (byteAt bytes 5) with
    | some (safe, adj2), some (override, adj3) =>
      if override = .hold ∧ function.isFan ≠ present.function.isFan then none
      else some ({ address := address, function := function, safe := safe, override := override },
        adj1 || adj2 || adj3)
    | _, _ => none
  | _, _ => none

/-- The twelve breakpoint positions of a CALIBRATION record; an unused one is 0xFFFF in both halves
(R183). -/
def breakpointPositions (bytes : List Byte) : List (Option (Nat × Nat)) :=
  (List.range 12).map fun i =>
    let l := field16 bytes (1 + 4 * i)
    let m := field16 bytes (3 + 4 * i)
    if l = 0xFFFF ∧ m = 0xFFFF then none else some (l, m)

/-- No breakpoint is carried after an unused position (R70). -/
def noGap : List (Option (Nat × Nat)) → Bool
  | [] => true
  | some _ :: rest => noGap rest
  | none :: rest => rest.all fun p => p.isNone

/-- L strictly ascending and MC20 not rising from each breakpoint to the next (R70). -/
def curveOrdered : List (Nat × Nat) → Bool
  | [] => true
  | [_] => true
  | p :: q :: rest => decide (p.1 < q.1) && decide (q.2 ≤ p.2) && curveOrdered (q :: rest)

/-- A CALIBRATION record judged (R70). -/
def parseGroup (bytes : List Byte) : Option (SpeciesGroup × Bool) :=
  let count := (byteAt bytes 0).toNat
  let positions := breakpointPositions bytes
  let points := positions.filterMap id
  let slope := clampField 0 15 (byteAt bytes 49).toNat
  if count = 1 ∨ 12 < count then none
  else if points.length ≠ count then none
  else if noGap positions = false then none
  else if points.all (fun p => decide (1 ≤ p.1 ∧ p.1 ≤ 4094 ∧ p.2 ≤ 999)) = false then none
  else if curveOrdered points = false then none
  else some ({ points := points, slope := slope.1 }, slope.2)

/-- The criterion kinds a phase allows (R98). -/
def Phase.allows : Phase → Criterion → Bool
  | _, .dwell => true
  | .dry, .ctrlBelow => true
  | .dry, .driestBelow => true
  | .equalize, .wettestBelow => true
  | _, _ => false

/-- A step record judged, less the state test (R97, R98, R116).  The written DB and depression targets are read
unsigned, so 0x8000 and above clamp to the top of their ranges (DESIGN CHOICE, assumption 45). -/
def parseStep (bytes : List Byte) : Option (StepRecord × Bool) :=
  match phaseOf (byteAt bytes 0), criterionOf (byteAt bytes 1), overdueOf (byteAt bytes 12) with
  | some phase, some criterion, some overdue =>
    if phase.allows criterion then
      let value :=
        match criterion with
        | .dwell => clampField 1 9999 (field16 bytes 2)
        | _ => clampField 0 999 (field16 bytes 2)
      let db := clampField 0 1200 (field16 bytes 4)
      let dep := clampField 0 400 (field16 bytes 6)
      let minD := clampField 0 9999 (field16 bytes 8)
      let maxD := clampField 0 9999 (field16 bytes 10)
      let limit := clampField 0 200 (byteAt bytes 13).toNat
      let trim := clampField 0 100 (byteAt bytes 14).toNat
      some ({ phase := phase, criterion := criterion, value := value.1, dbTarget := db.1,
              depTarget := dep.1, minDwell := minD.1, maxDwell := maxD.1, overdue := overdue,
              rateLimit := limit.1, rateTrim := trim.1 },
        value.2 || db.2 || dep.2 || minD.2 || maxD.2 || limit.2 || trim.2)
    else none
  | _, _, _ => none

/-- A PASS_LIST record judged: 0xFF in both bytes is an absent entry (R164, R180). -/
def parsePass (bytes : List Byte) : Option (Option (NodeKind × ResponseKind) × Bool) :=
  if byteAt bytes 0 = 0xFF#8 ∧ byteAt bytes 1 = 0xFF#8 then some (none, false)
  else
    match nodeKindOf (byteAt bytes 0), responseOf (byteAt bytes 1) with
    | some k, some r => some (some (k, r), false)
    | _, _ => none

/-- The range of each CHARGE_PARAMS parameter, by index (R84, R99). -/
def chargeRange : Nat → Nat × Nat
  | 0 => (1, 16)
  | 1 => (1, 64)
  | 2 => (1, 8)
  | 3 => (1, 24)
  | 4 => (1, 8)
  | 5 => (1, 8)
  | 6 => (0, 100)
  | 7 => (0, 9999)
  | 8 => (1, 50)
  | 9 => (1, 50)
  | 10 => (0, 1200)
  | 11 => (1, 9999)
  | _ => (0, 100)

/-- CHARGE_PARAMS with the parameter of an index replaced. -/
def ChargeParams.set (p : ChargeParams) (i v : Nat) : ChargeParams :=
  match i with
  | 0 => { p with w := v }
  | 1 => { p with q := v }
  | 2 => { p with stale := v }
  | 3 => { p with stepCount := some v }
  | 4 => { p with c := v }
  | 5 => { p with b := v }
  | 6 => { p with warmBand := v }
  | 7 => { p with warmMax := v }
  | 8 => { p with dbRamp := v }
  | 9 => { p with depRamp := v }
  | 10 => { p with coolEnd := v }
  | 11 => { p with coolMax := v }
  | 12 => { p with coolVent := v }
  | _ => p

/-- The clamped value of a CLIMATE_PARAMS parameter, by index; a reversal interval of 1..29 becomes 30
(R126). -/
def climateClamp : Nat → Nat → Nat
  | 0, v => clampNat 1 100 v
  | 1, v => clampNat 0 100 v
  | 2, v => clampNat 1 100 v
  | 3, v => clampNat 1 30 v
  | 4, v => clampNat 0 50 v
  | 5, v => clampNat 1 100 v
  | 6, v => clampNat 1 100 v
  | 7, v => if v = 0 then 0 else clampNat 30 720 v
  | _, v => clampNat 10 300 v

/-- CLIMATE_PARAMS with the parameter of an index replaced. -/
def ClimateParams.set (p : ClimateParams) (i v : Nat) : ClimateParams :=
  match i with
  | 0 => { p with heatGain := v }
  | 1 => { p with heatBias := v }
  | 2 => { p with heatSlew := v }
  | 3 => { p with staleHold := v }
  | 4 => { p with deadband := v }
  | 5 => { p with ventGain := v }
  | 6 => { p with sprayGain := v }
  | 7 => { p with reversal := v }
  | 8 => { p with coast := v }
  | _ => p

/-- The range of each numeric LINE_PARAMS parameter, by index (R4, R24, R56). -/
def lineRange : Nat → Nat × Nat
  | 0 => (1, 8)
  | 1 => (0, 31)
  | 2 => (0, 31)
  | 3 => (5, 100)
  | 4 => (10, 900)
  | 5 => (2, 60)
  | 6 => (1, 60)
  | 7 => (1, 60)
  | _ => (4, 24)

/-- A LINE_PARAMS record judged: auto-survey (index 9) is a named value, the others are numeric (R4,
R24, R56, R167; assumption 14). -/
def parseLineParam (i v : Nat) : Option (Nat × Bool) :=
  if i = 9 then (if v ≤ 1 then some (v, false) else none)
  else some (clampField (lineRange i).1 (lineRange i).2 v)

/-- LINE_PARAMS with the parameter of an index replaced. -/
def LineParams.set (p : LineParams) (i v : Nat) : LineParams :=
  match i with
  | 0 => { p with glitchWidth := v }
  | 1 => { p with lead := v }
  | 2 => { p with lag := v }
  | 3 => { p with timeout := v }
  | 4 => { p with sweepPeriod := v }
  | 5 => { p with climateCycle := v }
  | 6 => { p with refresh := v }
  | 7 => { p with quarantine := v }
  | 8 => { p with degrade := v }
  | 9 => { p with autoSurvey := v != 0 }
  | _ => p

/-- The records of a TABLE WRITE after its first index and count: exactly `count` records of `size`
bytes (R168; assumption 13). -/
def splitRecords (size : Nat) : Nat → List Byte → Option (List (List Byte))
  | 0, [] => some []
  | 0, _ :: _ => none
  | count + 1, bytes =>
    if bytes.length < size then none
    else (splitRecords size count (bytes.drop size)).map fun rest => bytes.take size :: rest

/-- The records of a TABLE WRITE to a table of `entries` records of `size` bytes, each with its index,
from the bytes after the table code; `none` is a structural fault of R168. -/
def writtenRecords (entries size : Nat) (args : List Byte) : Option (List (Nat × List Byte)) :=
  match args with
  | first :: count :: rest =>
    if count.toNat = 0 ∨ entries < first.toNat + count.toNat then none
    else (splitRecords size count.toNat rest).map (indexed first.toNat)
  | _ => none

/-- Every record judged: all values with their indices, and whether any was clamped; `none` when any
record has a structural fault (R167). -/
def judgeAll {α β : Type} (parse : Nat → α → Option (β × Bool)) :
    List (Nat × α) → Option (List (Nat × β) × Bool)
  | [] => some ([], false)
  | (i, a) :: rest =>
    match parse i a, judgeAll parse rest with
    | some (b, adj), some (bs, adjs) => some ((i, b) :: bs, adj || adjs)
    | _, _ => none

/-- The parameter value of a two-byte record (R183). -/
def paramValue (bytes : List Byte) : Nat := field16 bytes 0

/-- A received event set of 4 bytes; bits 25 to 31 name events above 24 (R176, R180). -/
def parseEventSet (args : List Byte) : Option (BitVec 25) :=
  match args with
  | b0 :: b1 :: b2 :: b3 :: _ =>
    let n := b0.toNat + 256 * b1.toNat + 65536 * b2.toNat + 16777216 * b3.toNat
    if n < 2 ^ 25 then some (BitVec.ofNat 25 n) else none
  | _ => none

end Sys2Proof.Machine
end

