-- ==== Sys2Proof/Machine/Moisture.lean ====
section
/-! DEFINITION. The Moisture Converter: the payload of a probe READING, the four conversion stages, and
the ageing of readings (R72 to R81). -/

namespace Sys2Proof.Machine

/-- The fields of a probe's READING payload (R72). -/
structure ProbePayload where
  lcode : Nat
  pinFault : Bool
  wood : Option Int
  tempFault : Bool
  deriving DecidableEq, Repr

/-- A probe READING payload read by its layout; `none` is a malformed payload (R72, R181). -/
def parseProbePayload (p : List Byte) : Option ProbePayload :=
  if p.length < 3 then none
  else if 4095 < field16 p 0 then none
  else
    let marks := byteAt p 2
    if marks.getLsbD 1 then
      if p.length < 5 then none
      else some { lcode := field16 p 0, pinFault := marks.getLsbD 0,
                  wood := some (fieldSigned p 3), tempFault := marks.getLsbD 2 }
    else some { lcode := field16 p 0, pinFault := marks.getLsbD 0, wood := none,
                tempFault := marks.getLsbD 2 }

/-- The MC20 between two breakpoints, the drop rounded half up (R76). -/
def interpolate (a b : Nat × Nat) (l : Nat) : Nat :=
  a.2 - roundHalfUp ((l - a.1) * (a.2 - b.2)) (b.1 - a.1)

/-- The curve from breakpoint `a` on, for an L not below `a` (R75). -/
def curveFrom (l : Nat) (a : Nat × Nat) : List (Nat × Nat) → Nat × ClampMark
  | [] => if l = a.1 then (a.2, .none) else (a.2, .dry)
  | b :: rest =>
    if l = a.1 then (a.2, .none)
    else if l < b.1 then (interpolate a b l, .none)
    else curveFrom l b rest

/-- Stage 2: MC20 and clamp mark (R75).  An empty curve does not reach this stage (R74). -/
def readCurve (points : List (Nat × Nat)) (l : Nat) : Nat × ClampMark :=
  match points with
  | [] => (0, .none)
  | a :: rest => if l < a.1 then (a.2, .wet) else curveFrom l a rest

/-- Stage 3: the wood temperature and its source (R77). -/
def woodTemperature (p : ProbePayload) (zoneAir : Option Int) (activeDb : Option Nat) :
    Int × TempSource :=
  match p.wood, p.tempFault with
  | some t, false => (clampInt (-200) 1200 t, .probe)
  | _, _ =>
    match zoneAir with
    | some t => (clampInt (-200) 1200 t, .zoneAir)
    | none => ((activeDb.getD Config.roomDb : Nat), .setpoint)

/-- The correction factor: 1000 less a tenth of slope times temperature difference, rounded half away
from zero, clamped to 250..1250 (R78, steps 1 to 4). -/
def correctionFactor (slope : Nat) (t : Int) : Nat :=
  (clampInt 250 1250 (1000 - roundHalfAway ((slope : Int) * (t - 200)) 10)).toNat

/-- Stage 4: MC20 corrected for temperature (R78). -/
def correctedMc (mc20 slope : Nat) (t : Int) : Nat :=
  clampNat 0 999 (roundHalfUp (mc20 * correctionFactor slope t) 1000)

/-- The validity of stage 1 and, for a VALID reading, stages 2 to 4 (R74 to R78). -/
def convertStages (g : SpeciesGroup) (zoneAir : Option Int) (activeDb : Option Nat)
    (p : ProbePayload) : Validity :=
  if p.lcode = 0 then .invalid .short
  else if p.lcode = 4095 then .invalid .open
  else if p.pinFault then .invalid .pinFault
  else if g.points.isEmpty then .invalid .noCurve
  else
    let curve := readCurve g.points p.lcode
    let wood := woodTemperature p zoneAir activeDb
    .valid { wood := wood.1, source := wood.2, mc20 := curve.1,
             mc := correctedMc curve.1 g.slope wood.1, clamp := curve.2 }

/-- The species group of a number; a number with no group is a group that is not loaded. -/
def groupOf (table : List SpeciesGroup) (i : Nat) : SpeciesGroup :=
  table.getD i { points := [], slope := 0 }

/-- A conversion for a slot, from the state it reads (R73, R79); `none` for a malformed payload, which
writes nothing (R72). -/
def convert (table : List SpeciesGroup) (nodes : NodeTables) (activeDb : Option Nat)
    (slot : ProbeRecord) (sweep : Nat) (gap : Bool) (payload : List Byte) : Option Reading :=
  (parseProbePayload payload).map fun p =>
    { lcode := p.lcode,
      validity :=
        convertStages (groupOf table slot.group)
          ((nodes.zoneDb slot.zone).bind AirRecord.freshTemp) activeDb p,
      seqGap := gap, sweep := sweep, age := 0 }

/-- A reading at the completion of a sweep: one from another sweep ages by 1, saturating at 255
(R80). -/
def ageReading (sweep : Nat) (r : Reading) : Reading :=
  if r.sweep = sweep then r else { r with age := satSucc 255 r.age }

/-- Every reading aged at a sweep completion (R80). -/
def ageReadings (sweep : Nat) (probes : List ProbeRecord) : List ProbeRecord :=
  probes.map fun p => { p with reading := p.reading.map (ageReading sweep) }

end Sys2Proof.Machine
end

