-- ==== Sys2Proof/Machine/Supervision.lean ====
section
/-! DEFINITION. The Node Tables: taking in an outcome, the supervision states, quarantines, and the Line
Health Monitor (R45 to R61). -/

namespace Sys2Proof.Machine

/-- A failure entry of a window (R46, R57). -/
def LineOutcome.failed : LineOutcome → Bool
  | .good => false
  | .bad | .miss | .jabber => true

/-- The failure entries of a window. -/
def failures (w : List LineOutcome) : Nat := (w.filter LineOutcome.failed).length

/-- What the PLP delivers with a GOOD outcome (R16). -/
structure GoodResponse where
  sync : Polarity
  kind : ResponseKind
  check : CheckKind
  sequence : Nat
  payload : List Byte
  deriving DecidableEq, Repr

/-- An outcome record (R16): the fields after the outcome are present for GOOD only. -/
structure OutcomeRecord where
  request : Request
  outcome : LineOutcome
  response : Option GoodResponse
  deriving DecidableEq, Repr

/-- Sequence judgments (R47). -/
inductive SequenceJudgment where
  | normal | repeated | gap
  deriving DecidableEq, Repr

/-- The judgment of a received sequence number (R47). -/
def judgeSequence (last : Option Nat) (received : Nat) : SequenceJudgment :=
  match last with
  | none => .normal
  | some s =>
    if received = (s + 1) % 16 then .normal else if received = s then .repeated else .gap

/-- The window and the consecutive-miss count after an applied outcome (R46). -/
def NodeRecord.join (n : NodeRecord) (o : LineOutcome) : NodeRecord :=
  { n with
    window := lastN Config.windowLength (n.window ++ [o]),
    misses := if o = .miss then satSucc Config.missLimit n.misses else 0 }

/-- The sequence number and the polarity after an applied GOOD (R47, R48). -/
def NodeRecord.learn (n : NodeRecord) (g : GoodResponse) : NodeRecord :=
  { n with lastSequence := some g.sequence, polarity := some g.sync }

/-- A GOOD flips a known polarity (R48). -/
def NodeRecord.flips (n : NodeRecord) (g : GoodResponse) : Bool :=
  match n.polarity with
  | none => false
  | some p => p != g.sync

/-- Entry into ISOLATED with the quarantine time held (R53). -/
def NodeRecord.isolate (n : NodeRecord) (quarantine : Nat) : NodeRecord :=
  { n with state := .isolated, quarantine := some quarantine }

/-- The state changes that an outcome causes, once the window and the count have been updated; with the
event of the entry, if there is one (R50 to R53). -/
def NodeRecord.judge (n : NodeRecord) (o : LineOutcome) (quarantine : Nat) :
    NodeRecord × Option Event :=
  match n.state, o with
  | .unseen, .jabber | .active, .jabber | .suspect, .jabber | .lost, .jabber =>
    (n.isolate quarantine, some .nodeIsolated)
  | .unseen, .good => ({ n with state := .active, window := [.good] }, none)
  | .unseen, .miss =>
    if n.misses = Config.missLimit then ({ n with state := .lost }, some .probeLost) else (n, none)
  | .unseen, .bad => (n, none)
  | .active, _ =>
    if o = .miss ∧ n.misses = Config.missLimit then ({ n with state := .lost }, some .probeLost)
    else if Config.suspectFailures ≤ failures n.window then
      ({ n with state := .suspect }, some .probeSuspect)
    else (n, none)
  | .suspect, _ =>
    if o = .miss ∧ n.misses = Config.missLimit then ({ n with state := .lost }, some .probeLost)
    else if n.window.length = Config.windowLength ∧ failures n.window = 0 then
      ({ n with state := .active }, none)
    else (n, none)
  | .lost, .good => ({ n with state := .suspect }, some .probeSuspect)
  | .lost, .miss | .lost, .bad => (n, none)
  | .isolated, _ | .empty, _ => (n, none)

/-- An outcome applied to a record with this node number: the record after it and the events raised, that
of a state change (R46) before POLARITY_CHANGE (R48), the order of the steps that R45 names (R46 to R54).  No
outcome is applied to an EMPTY or ISOLATED record, which is not polled. -/
def NodeRecord.take (n : NodeRecord) (number quarantine : Nat) (o : OutcomeRecord) :
    NodeRecord × List Raise :=
  if n.pollable then
    let joined := n.join o.outcome
    let learned := match o.response with
      | some g => joined.learn g
      | none => joined
    let judged := learned.judge o.outcome quarantine
    let flip := match o.response with
      | some g => if n.flips g then [(Event.polarityChange, some number)] else []
      | none => []
    (judged.1, (judged.2.map fun e => (e, some number)).toList ++ flip)
  else (n, [])

/-- The reading of a slot after an applied outcome: a READING not judged REPEAT, and not malformed, is
converted (R47, R49, R72). -/
def readingAfter (table : List SpeciesGroup) (nodes : NodeTables) (activeDb : Option Nat)
    (slot : ProbeRecord) (sweep : Nat) (o : OutcomeRecord) : Option Reading :=
  match o.response with
  | none => slot.reading
  | some g =>
    match g.kind, judgeSequence slot.node.lastSequence g.sequence with
    | .reading, .normal =>
      (convert table nodes activeDb slot sweep false g.payload).orElse fun _ => slot.reading
    | .reading, .gap =>
      (convert table nodes activeDb slot sweep true g.payload).orElse fun _ => slot.reading
    | _, _ => slot.reading

/-- The temperature of an air READING payload, if it is taken (R49, R181). -/
def airTemperature (p : List Byte) : Option Int :=
  if p.length < 3 then none
  else if (byteAt p 2).getLsbD 0 then none
  else if -400 ≤ fieldSigned p 0 ∧ fieldSigned p 0 ≤ 1500 then some (fieldSigned p 0)
  else none

/-- The temperature an applied outcome brings an air point (R47, R49). -/
def temperatureBrought (a : AirRecord) (o : OutcomeRecord) : Option Int :=
  match o.response with
  | none => none
  | some g =>
    match g.kind, judgeSequence a.node.lastSequence g.sequence with
    | .reading, .repeated => none
    | .reading, _ => airTemperature g.payload
    | _, _ => none

/-- A probe slot after an applied outcome, with the events raised. -/
def takeProbe (s : State) (slot : Nat) (p : ProbeRecord) (o : OutcomeRecord) :
    ProbeRecord × List Raise :=
  let taken := p.node.take slot s.lineParams.quarantine o
  ({ p with
      node := taken.1,
      reading :=
        if p.node.pollable then
          readingAfter s.calibration s.nodes (s.schedule.charge.setpoints.map (·.activeDb)) p
            s.line.sweepNumber o
        else p.reading },
    taken.2)

/-- An air point after an applied outcome, with the events raised (R49, R54: its node number is its
index plus 64). -/
def takeAir (s : State) (index : Nat) (a : AirRecord) (o : OutcomeRecord) :
    AirRecord × List Raise :=
  let taken := a.node.take (index + 64) s.lineParams.quarantine o
  match (if a.node.pollable then temperatureBrought a o else none) with
  | some t => ({ a with node := taken.1, lastTemp := some t, cycles := 0 }, taken.2)
  | none => ({ a with node := taken.1 }, taken.2)

/-- The owner's handling of a probe's outcome: dropped under the drop mark, applied otherwise (R45). -/
def ownerProbe (slot : Nat) (o : OutcomeRecord) (s : State) : State :=
  if s.nodes.dropMark then s
  else
    match s.nodes.probes[slot]? with
    | none => s
    | some p =>
      raiseAll (takeProbe s slot p o).2
        { s with
          nodes :=
            { s.nodes with probes := s.nodes.probes.set slot (takeProbe s slot p o).1 } }

/-- The owner's handling of an air point's outcome (R45). -/
def ownerAir (index : Nat) (o : OutcomeRecord) (s : State) : State :=
  if s.nodes.dropMark then s
  else
    match s.nodes.airs[index]? with
    | none => s
    | some a =>
      raiseAll (takeAir s index a o).2
        { s with nodes := { s.nodes with airs := s.nodes.airs.set index (takeAir s index a o).1 } }

/-! ## Resetting and releasing records -/

/-- The supervision fields cleared on a new address, with the state and the address given (R40). -/
def NodeRecord.fresh (state : NodeState) (address : Option Nat) : NodeRecord :=
  { NodeRecord.blank with address := address, state := state }

/-- A record under a reset command: a configured record becomes UNSEEN with its supervision cleared;
an EMPTY one stays EMPTY (R60, R61). -/
def NodeRecord.renew (n : NodeRecord) : NodeRecord :=
  match n.address with
  | some a => .fresh .unseen (some a)
  | none => n

/-- The end of a quarantine: the record becomes UNSEEN, its polarity kept (R53). -/
def NodeRecord.release (n : NodeRecord) : NodeRecord :=
  if n.state = .isolated then
    { n with state := .unseen, window := [], misses := 0, lastSequence := none, quarantine := none }
  else n

/-- A minute tick on a quarantine: the remaining time decreases by 1, and at 0 the quarantine ends
(R53). -/
def NodeRecord.quarantineTick (n : NodeRecord) : NodeRecord :=
  match n.state, n.quarantine with
  | .isolated, some q => if q ≤ 1 then n.release else { n with quarantine := some (q - 1) }
  | _, _ => n

/-- Every quarantine at a minute tick (R53). -/
def NodeTables.quarantineTick (t : NodeTables) : NodeTables :=
  { t with
    probes := t.probes.map fun p => { p with node := p.node.quarantineTick },
    airs := t.airs.map fun a => { a with node := a.node.quarantineTick } }

/-- The end of one record's quarantine, by node number (R53, R54). -/
def NodeTables.releaseNode (t : NodeTables) (number : Nat) : NodeTables :=
  if number < Config.probeSlots then
    { t with probes := t.probes.modify number fun p => { p with node := p.node.release } }
  else
    { t with
      airs := t.airs.modify (number - Config.probeSlots) fun a => { a with node := a.node.release } }

/-- Every air point aged at a climate cycle expiry; an EMPTY entry's count stays (R55). -/
def NodeTables.ageAirs (t : NodeTables) : NodeTables :=
  { t with
    airs := t.airs.map fun a =>
      if a.node.address.isSome then { a with cycles := satSucc 255 a.cycles } else a }

/-! ## The Line Health Monitor (R57 to R59) -/

/-- The state after an outcome has joined, from the window as it then is (R58). -/
def nextHealth (h : LineHealth) (window : List LineOutcome) (o : LineOutcome) (threshold : Nat) :
    LineHealth :=
  match h with
  | .up => if threshold ≤ failures window then .degraded else .up
  | .degraded =>
    if window.length = Config.lineWindowLength ∧ failures window = Config.lineWindowLength then
      .down
    else if failures window ≤ 2 then .up
    else .degraded
  | .down => if o = .good then .degraded else .down

/-- The line window after an outcome (R57). -/
def lineWindowAfter (w : List LineOutcome) (o : LineOutcome) : List LineOutcome :=
  lastN Config.lineWindowLength (w ++ [o])

/-- The event of an entry into a state of the Monitor (R58). -/
def healthRaise (before after : LineHealth) : List Raise :=
  match before, after with
  | .up, .degraded | .down, .degraded => [(.lineDegraded, none)]
  | .degraded, .down => [(.lineDown, none)]
  | _, _ => []

/-- A survey started: every entry NOT SURVEYED, no comparison, next address 1, RUNNING (R62). -/
def Survey.start (v : Survey) : Survey :=
  { v with
    map := v.map.map fun _ => .notSurveyed, comparison := none, next := some 1, inFlight := none,
    condition := .running }

/-- The Survey Engine on a start request from the Monitor (R59, R62). -/
def Survey.startRequest (v : Survey) : Survey :=
  if v.condition = .idle then v.start else v

/-- The Line Health Monitor takes in an outcome (R57 to R59). -/
def monitor (o : LineOutcome) (s : State) : State :=
  let window := lineWindowAfter s.nodes.lineWindow o
  let health := nextHealth s.nodes.health window o s.lineParams.degrade
  let down := s.nodes.health == .degraded && health == .down
  raiseAll (healthRaise s.nodes.health health)
    { s with
      nodes := { s.nodes with lineWindow := window, health := health },
      survey :=
        if down && s.lineParams.autoSurvey then s.survey.startRequest else s.survey }

end Sys2Proof.Machine
end

