-- ==== Sys2Proof/Machine/Evaluation.lean ====
section
/-! DEFINITION. The Charge Evaluator: usable probes, quorum, controlling set, drying rate and history
(R83 to R93). -/

namespace Sys2Proof.Machine

/-- The MC of a VALID reading. -/
def Reading.mc (r : Reading) : Option Nat :=
  match r.validity with
  | .valid c => some c.mc
  | .invalid _ => none

/-- The MC a slot contributes, if it is usable (R85). -/
def ProbeRecord.usableMc (p : ProbeRecord) (stale : Nat) : Option Nat :=
  match p.reading with
  | none => none
  | some r => if p.incl && p.node.state == .active && decide (r.age ≤ stale) then r.mc else none

/-- The usable slots with their MC, in slot order (R85). -/
def usableSlots (probes : List ProbeRecord) (stale : Nat) : List (Nat × Nat) :=
  (indexed 0 probes).filterMap fun p => (p.2.usableMc stale).map fun mc => (p.1, mc)

/-- Slot `a` ranks before slot `b`: higher MC, or equal MC and lower slot (R87). -/
def ranksBefore (a b : Nat × Nat) : Bool :=
  decide (b.2 < a.2) || (a.2 == b.2 && decide (a.1 < b.1))

/-- A slot put in its place in a ranking. -/
def rankInsert (a : Nat × Nat) : List (Nat × Nat) → List (Nat × Nat)
  | [] => [a]
  | b :: rest => if ranksBefore a b then a :: b :: rest else b :: rankInsert a rest

/-- The usable slots in ranked order, wettest first (R87). -/
def ranking (usable : List (Nat × Nat)) : List (Nat × Nat) :=
  usable.foldr rankInsert []

/-- The driest of two slots: lower MC, or equal MC and lower slot (R89). -/
def drier (a b : Nat × Nat) : Nat × Nat :=
  if a.2 < b.2 ∨ (a.2 = b.2 ∧ a.1 ≤ b.1) then a else b

/-- The driest usable slot (R89). -/
def driestOf : List (Nat × Nat) → Option (Nat × Nat)
  | [] => none
  | a :: rest => some (rest.foldl drier a)

/-- The sum of the MC values of some slots. -/
def mcSum (slots : List (Nat × Nat)) : Nat := slots.foldl (fun acc p => acc + p.2) 0

/-- The charge minute an evaluation record carries: 0 in IDLE and COMPLETE (R90). -/
def recordMinute (c : Charge) : Nat := if c.state.active then c.minute else 0

/-- The drying rate of a non-blind evaluation against the oldest record of the history (R93). -/
def dryingRate (history : List EvalRecord) (minute mc : Nat) : Option Int :=
  match history with
  | [] => none
  | old :: _ =>
    let span := (minute : Int) - (old.minute : Int)
    if span < Config.rateSpan then none
    else some (clampInt (-999) 999 ((((old.controlling.getD 0 : Nat) : Int) - (mc : Int)) * 60 |>.tdiv span))

/-- The history an evaluation that joins is judged against: emptied when its sweep number is not above
the newest record's (R91). -/
def historyBefore (history : List EvalRecord) (sweep : Nat) : List EvalRecord :=
  match history.getLast? with
  | none => []
  | some newest => if newest.sweep < sweep then history else []

/-- The evaluation record of a sweep completion (R86 to R90, R93). -/
def evaluate (probes : List ProbeRecord) (p : ChargeParams) (c : Charge)
    (history : List EvalRecord) (sweep : Nat) : EvalRecord :=
  let usable := usableSlots probes p.stale
  let ranked := ranking usable
  let n := usable.length
  let base : EvalRecord :=
    { sweep := sweep, minute := recordMinute c, n := n, k := 0, controlling := none,
      wettest := ranked.head?, driest := driestOf usable, slots := [], blind := true, rate := none }
  if n = 0 ∨ n < p.q then base
  else
    let k := min p.w n
    let set := ranked.take k
    let mc := roundHalfUp (mcSum set) k
    { base with
      k := k, controlling := some mc, slots := set.map Prod.fst, blind := false,
      rate :=
        if c.state.active then dryingRate (historyBefore history sweep) (recordMinute c) mc
        else none }

/-- The history after an evaluation: a non-blind one made during a charge joins, and the oldest is
removed beyond 8 (R91). -/
def joinHistory (history : List EvalRecord) (c : Charge) (e : EvalRecord) : List EvalRecord :=
  if e.blind = false ∧ c.state.active then
    lastN Config.historyLength (historyBefore history e.sweep ++ [e])
  else history

end Sys2Proof.Machine
end

