-- ==== Sys2Proof/Machine/ClimateControl.lean ====
section
/-! DEFINITION. The Climate Unit (R125 to R141) and the forming of commanded values (R143 to R145). -/

namespace Sys2Proof.Machine

/-- The fan demand of a fan state; `none` is NONE (section 8.5). -/
def FanState.demand : FanState → Option FanValue
  | .stopped => none
  | .forward => some .forward
  | .reverse => some .reverse
  | .coastR | .coastF => some .stop

/-- The fans are coasting (R136). -/
def FanState.coasting : FanState → Bool
  | .coastR | .coastF => true
  | .stopped | .forward | .reverse => false

/-- The fans are running in a direction. -/
def FanState.running : FanState → Bool
  | .forward | .reverse => true
  | .stopped | .coastR | .coastF => false

/-! ## Forming commanded values (R143, R144) -/

/-- The heat demand of a zone 1..4. -/
def Climate.heatDemand (c : Climate) (zone : Nat) : Option Nat :=
  match c.zones[zone - 1]? with
  | some z => z.demand
  | none => none

/-- The demand a function follows (R143). -/
def Climate.demandOf (c : Climate) : ActFunction → Option ActValue
  | .heat z => (c.heatDemand z).map .percent
  | .vent => c.vent.map .percent
  | .spray => c.spray.map .percent
  | .fan => c.fan.demand.map .fan

/-- The commanded value of an entry: from its override, its demand or its safe value (R143, R144). -/
def Actuator.form (c : Climate) (a : Actuator) : Actuator :=
  { a with
    commanded :=
      match a.override with
      | .hold => a.commanded
      | .force v => v
      | .none => (c.demandOf a.function).getD a.safe }

/-- Every entry's commanded value formed again (R145). -/
def formAll (s : State) : State :=
  { s with outputs := { s.outputs with entries := s.outputs.entries.map (Actuator.form s.climate) } }

/-! ## Safe mode, start, cooldown and coast -/

/-- Safe mode with the fans STOPPED; the parameters stay (R128, R135, R140). -/
def Climate.safeMode (c : Climate) : Climate := { Climate.powerOn with params := c.params }

/-- The reversal timer at a start: the interval held, or stopped when it is 0 (R135). -/
def ClimateParams.reversalStart (p : ClimateParams) : Option Nat :=
  if p.reversal = 0 then none else some p.reversal

/-- A zone's heat demand made present at 0 where the zone has a configured ZONE_DB entry, NONE
otherwise (R129, R138). -/
def presentZero (nodes : NodeTables) (zone : Nat) : Option Nat :=
  if (nodes.zoneDb zone).isSome then some 0 else none

/-- The zone loops with their zone numbers 1..4. -/
def Climate.eachZone (c : Climate) (f : Nat → ZoneLoop → ZoneLoop) : List ZoneLoop :=
  (indexed 1 c.zones).map fun p => f p.1 p.2

/-- START CHARGE: the Climate Unit leaves safe mode (R129). -/
def Climate.startCharge (c : Climate) (nodes : NodeTables) : Climate :=
  { c with
    zones := c.eachZone fun z l =>
      { l with demand := presentZero nodes z, value := 0, mode := .tracking, stale := 0 },
    vent := some 0, spray := some 0, fan := .forward, reversalTimer := c.params.reversalStart,
    coastTimer := none }

/-- A demand that is present, at 0; NONE stays NONE. -/
def zeroIfPresent (d : Option Nat) : Option Nat := d.map fun _ => 0

/-- Entry into COOLDOWN: the fixed demands, with the vent at 0 while the fans coast (R138). -/
def Climate.enterCooldown (c : Climate) (vent : Nat) : Climate :=
  { c with
    zones := c.zones.map fun l =>
      { l with demand := zeroIfPresent l.demand, value := 0, mode := .tracking, stale := 0 },
    spray := some 0, vent := some (if c.fan.coasting then 0 else vent) }

/-- The cooldown demands set again at a climate cycle expiry; a zone that gained or lost its ZONE_DB
entry changes between 0 and NONE (R132, R138). -/
def Climate.cooldownCycle (c : Climate) (nodes : NodeTables) (vent : Nat) : Climate :=
  { c with
    zones := c.eachZone fun z l =>
      { l with demand := presentZero nodes z, value := 0, mode := .tracking, stale := 0 },
    spray := some 0, vent := some vent }

/-- A coast begins: FAN STOP, every present heat demand and vent and spray at 0, loop state kept
(R136). -/
def Climate.startCoast (c : Climate) (next : FanState) : Climate :=
  { c with
    fan := next, reversalTimer := none, coastTimer := some c.params.coast,
    zones := c.zones.map fun l => { l with demand := zeroIfPresent l.demand },
    vent := some 0, spray := some 0 }

/-- A coast ends in a direction (R135, R136). -/
def Climate.endCoast (c : Climate) (next : FanState) : Climate :=
  { c with fan := next, coastTimer := none, reversalTimer := c.params.reversalStart }

/-! ## The loops (R130 to R134) -/

/-- The raw value of a heat loop (R130, steps 1 to 3). -/
def rawHeat (p : ClimateParams) (activeDb : Nat) (measured : Int) : Nat :=
  clampToNat 100
    ((p.heatBias : Int) + roundHalfAway (((activeDb : Int) - measured) * p.heatGain) 10)

/-- A heat loop with a fresh temperature (R130). -/
def ZoneLoop.track (l : ZoneLoop) (p : ClimateParams) (activeDb : Nat) (measured : Int) : ZoneLoop :=
  let v := moveToward p.heatSlew l.value (rawHeat p activeDb measured)
  { demand := some v, value := v, mode := .tracking, stale := 0, measured := some measured }

/-- The zone is dropped at this stale expiry (R131). -/
def ZoneLoop.dropsNow (l : ZoneLoop) (p : ClimateParams) : Bool :=
  l.mode != .dropped && decide (p.staleHold < satSucc 31 l.stale)

/-- A heat loop whose configured ZONE_DB entry has no fresh temperature (R131). -/
def ZoneLoop.goStale (l : ZoneLoop) (p : ClimateParams) : ZoneLoop :=
  if l.mode = .dropped ∨ p.staleHold < satSucc 31 l.stale then
    { demand := some 0, value := 0, mode := .dropped, stale := satSucc 31 l.stale, measured := none }
  else
    { demand := some l.value, value := l.value, mode := .holding, stale := satSucc 31 l.stale,
      measured := none }

/-- One zone's heat loop at an expiry (R130 to R132). -/
def ZoneLoop.run (l : ZoneLoop) (nodes : NodeTables) (p : ClimateParams) (activeDb zone : Nat) :
    ZoneLoop :=
  match nodes.zoneDb zone with
  | none => .safe
  | some a =>
    match a.freshTemp with
    | some t => l.track p activeDb t
    | none => l.goStale p

/-- ZONE_BLIND for a zone that is dropped at this expiry (R131). -/
def ZoneLoop.blindRaise (l : ZoneLoop) (nodes : NodeTables) (p : ClimateParams) (zone : Nat) :
    List Raise :=
  match nodes.zoneDb zone with
  | none => []
  | some a =>
    if a.freshTemp.isNone && l.dropsNow p then [(.zoneBlind, some zone)] else []

/-- The measured WB and its source (R133). -/
def wetBulb (nodes : NodeTables) : HumiditySource × Option Int :=
  match nodes.freshAt nodes.wbPoints.1 with
  | some t => (.primary, some t)
  | none =>
    match nodes.freshAt nodes.wbPoints.2 with
    | some t => (.secondary, some t)
    | none => (.none, none)

/-- A vent or spray demand for an excess over the deadband (R134). -/
def humidityDemand (excess : Int) (gain : Nat) : Nat :=
  clampToNat 100 (roundHalfAway (excess * gain) 10)

/-- The vent and spray demands for the error `h` (R134). -/
def ventSpray (p : ClimateParams) (h : Int) : Nat × Nat :=
  if (p.deadband : Int) < h then (humidityDemand (h - p.deadband) p.ventGain, 0)
  else if h < -(p.deadband : Int) then (0, humidityDemand (-h - p.deadband) p.sprayGain)
  else (0, 0)

/-- The heat loops and the humidity loop at an expiry (R127, R130 to R134). -/
def Climate.runLoops (c : Climate) (nodes : NodeTables) (sp : Setpoints) : Climate :=
  let wb := wetBulb nodes
  let vs := match wb.2 with
    | some t => ventSpray c.params (t - sp.wbTarget)
    | none => (0, 0)
  { c with
    zones := c.eachZone fun z l => l.run nodes c.params sp.activeDb z,
    vent := some vs.1, spray := some vs.2, source := wb.1, measuredWb := wb.2 }

/-- The events of an expiry at which the loops run (R131, R133). -/
def Climate.loopRaises (c : Climate) (nodes : NodeTables) : List Raise :=
  ((indexed 1 c.zones).flatMap fun p => p.2.blindRaise nodes c.params p.1) ++
    (if (wetBulb nodes).2.isNone then [(.humidityBlind, none)] else [])

/-- The Climate Unit at a climate cycle expiry, by charge state and fan state (R127); commanded values
are formed again where the demand set was set (R145). -/
def climateCycle (s : State) : State :=
  if s.climate.fan.running then
    match s.schedule.charge.state, s.schedule.charge.setpoints with
    | .cooldown, _ =>
      formAll
        { s with climate := s.climate.cooldownCycle s.nodes s.schedule.params.coolVent }
    | .warmup, some sp | .running, some sp | .hold, some sp =>
      raiseAll (s.climate.loopRaises s.nodes)
        (formAll { s with climate := s.climate.runLoops s.nodes sp })
    | _, _ => s
  else s

/-- The fan timers after a write of CLIMATE_PARAMS that includes the reversal interval (R137). -/
def Climate.writeReversal (c : Climate) (interval : Nat) : Option Nat :=
  if c.fan.running then
    if interval = 0 then none
    else
      match c.reversalTimer with
      | none => some interval
      | some left => some left
  else c.reversalTimer

end Sys2Proof.Machine
end

