-- ==== Sys2Proof/Machine/ScheduleEngine.lean ====
section
/-! DEFINITION. The Schedule Engine: starting, ramps, warm-up, evaluations, advance, transitions,
amendments and the end of a charge (R97 to R124). -/

namespace Sys2Proof.Machine

/-! ## Reading the schedule -/

/-- The loaded step record of an index. -/
def Schedule.stepAt (e : Schedule) (i : Nat) : Option StepRecord := (e.steps[i]?).join

/-- The record of the current step. -/
def Schedule.current (e : Schedule) : Option StepRecord := e.stepAt e.charge.step

/-- The steps below an index are all loaded. -/
def Schedule.loadedBelow (e : Schedule) (n : Nat) : Bool :=
  (List.range n).all fun i => (e.stepAt i).isSome

/-- The place of a phase in the order DRY, EQUALIZE, CONDITION (R101). -/
def Phase.order : Phase → Nat
  | .dry => 0
  | .equalize => 1
  | .condition => 2

/-- No phase goes backward (R101). -/
def phasesOrdered : List StepRecord → Bool
  | [] => true
  | [_] => true
  | a :: b :: rest => decide (a.phase.order ≤ b.phase.order) && phasesOrdered (b :: rest)

/-- The schedule is consistent (R101). -/
def Schedule.consistent (e : Schedule) : Bool :=
  match e.params.stepCount with
  | none => false
  | some n => e.loadedBelow n && phasesOrdered ((List.range n).filterMap e.stepAt)

/-! ## Setpoints (R100, R103) -/

/-- The WB target recomputed from the active values (R100). -/
def Setpoints.withWb (p : Setpoints) : Setpoints := { p with wbTarget := p.activeDb - p.activeDep }

/-- The targets of a step; unchanged where the step is not loaded. -/
def Setpoints.target (p : Setpoints) (r : Option StepRecord) : Setpoints :=
  match r with
  | some r => { p with targetDb := r.dbTarget, targetDep := r.depTarget }
  | none => p

/-- The effective depression target (R103). -/
def Schedule.effectiveDep (e : Schedule) (p : Setpoints) : Nat :=
  if e.charge.trim then p.targetDep - (e.current.map (·.rateTrim)).getD 0 else p.targetDep

/-- One tick's ramp (R103). -/
def Schedule.ramp (e : Schedule) (p : Setpoints) : Setpoints :=
  Setpoints.withWb
    { p with
      activeDb := moveToward e.params.dbRamp p.activeDb p.targetDb,
      activeDep := moveToward e.params.depRamp p.activeDep (e.effectiveDep p) }

/-! ## Amendments (R117, R118) -/

/-- A pending amendment written to its step, and then absent (R118). -/
def Schedule.writeAmendment (e : Schedule) : Schedule :=
  match e.charge.amendment with
  | none => e
  | some (i, r) =>
    { e with steps := e.steps.set i (some r), charge := { e.charge with amendment := none } }

/-- A pending amendment applied at an evaluation (R117). -/
def Schedule.applyAmendment (e : Schedule) : Schedule :=
  match e.charge.amendment with
  | none => e
  | some (i, r) =>
    { e with
      steps := e.steps.set i (some r),
      charge :=
        { e.charge with
          amendment := none, confirmation := 0, stepOverdue := false,
          setpoints := e.charge.setpoints.map (·.target (some r)) } }

/-! ## Starting a charge (R102) -/

/-- The mean of the fresh zone temperatures, each clamped to 0..1200, rounded half up; 200 where no
zone is fresh (R102). -/
def startDb (fresh : List Int) : Nat :=
  match fresh with
  | [] => Config.roomDb
  | _ => roundHalfUp ((fresh.map (clampToNat 1200)).foldl (· + ·) 0) fresh.length

/-- The charge record of an accepted START CHARGE (R102). -/
def Schedule.startCharge (e : Schedule) (fresh : List Int) : Schedule :=
  let sp : Setpoints :=
    { targetDb := 0, targetDep := 0, activeDb := startDb fresh, activeDep := 0,
      wbTarget := startDb fresh }
  { e with
    charge :=
      { e.charge with
        number := (e.charge.number + 1) % 65536, state := .warmup, returnState := none,
        causes := { operator := false, blind := false }, result := none, step := 0, dwell := 0,
        minute := 0, warmMinutes := 0, coolMinutes := 0, confirmation := 0, blinds := 0,
        trim := false, stepOverdue := false, warmOverdue := false,
        setpoints := some (sp.target (e.stepAt 0)) } }

/-! ## Ending a charge (R119, R120) -/

/-- The charge record at entry into COOLDOWN (R119). -/
def Charge.enterCooldown (c : Charge) (r : ChargeResult) : Charge :=
  { c with
    state := .cooldown, coolMinutes := 0, causes := { operator := false, blind := false },
    returnState := none, trim := false, noted := some r }

/-- Entry into COOLDOWN, with the cooldown demands at once (R119, R138). -/
def enterCooldown (r : ChargeResult) (s : State) : State :=
  formAll
    { s with
      schedule := { s.schedule with charge := s.schedule.charge.enterCooldown r },
      climate := s.climate.enterCooldown s.schedule.params.coolVent }

/-- The Schedule Engine on reaching COMPLETE with a result (R119, R120). -/
def Schedule.complete (e : Schedule) (r : Option ChargeResult) : Schedule :=
  let e := e.writeAmendment
  { e with charge := { e.charge with state := .complete, result := r, noted := none } }

/-- The charge reaches COMPLETE: CHARGE_COMPLETE, and safe mode at once (R119, R128). -/
def completeCharge (r : Option ChargeResult) (s : State) : State :=
  raise (.chargeComplete, none)
    (formAll
      { s with schedule := s.schedule.complete r, climate := s.climate.safeMode })

/-! ## Transitions (R111) -/

/-- What every transition resets (R111). -/
def Charge.leaveStep (c : Charge) : Charge :=
  { c with dwell := 0, confirmation := 0, trim := false, stepOverdue := false }

/-- The Schedule Engine at step `k`, its targets taken from it (R111, R115). -/
def Schedule.goTo (e : Schedule) (k : Nat) : Schedule :=
  { e with
    charge :=
      { e.charge with
        step := k, setpoints := e.charge.setpoints.map (·.target (e.stepAt k)) } }

/-- The step after the current one is in the schedule (R111). -/
def Schedule.hasNext (e : Schedule) : Bool :=
  match e.params.stepCount with
  | some n => decide (e.charge.step + 1 < n)
  | none => false

/-- The pending amendment written, and the leaving of the step. -/
def Schedule.leave (e : Schedule) : Schedule :=
  let e := e.writeAmendment
  { e with charge := e.charge.leaveStep }

/-- A transition leaves the current step, for the next step or for COOLDOWN (R111). -/
def transition (s : State) : State :=
  let left : State := startPulse { s with schedule := s.schedule.leave }
  if s.schedule.hasNext then
    raise (.stepChanged, some (s.schedule.charge.step + 1))
      { left with schedule := left.schedule.goTo (s.schedule.charge.step + 1) }
  else enterCooldown .finished left

/-! ## The minute tick (R103, R104, R109, R110, R119) -/

/-- Step 1 of a minute tick: the counts (R103). -/
def Charge.countMinute (c : Charge) : Charge :=
  match c.state with
  | .warmup =>
    { c with minute := satSucc 16777215 c.minute, warmMinutes := satSucc 65535 c.warmMinutes }
  | .running => { c with minute := satSucc 16777215 c.minute, dwell := satSucc 65535 c.dwell }
  | .hold => { c with minute := satSucc 16777215 c.minute }
  | .cooldown =>
    { c with minute := satSucc 16777215 c.minute, coolMinutes := satSucc 65535 c.coolMinutes }
  | .idle | .complete => c

/-- The state is one in which ramps run (R103). -/
def ChargeState.ramps : ChargeState → Bool
  | .warmup | .running | .hold => true
  | .idle | .cooldown | .complete => false

/-- Steps 1 and 2 of a minute tick: counts and ramps (R103). -/
def Schedule.countAndRamp (e : Schedule) : Schedule :=
  if e.charge.state.ramps then
    { e with
      charge :=
        { e.charge.countMinute with setpoints := e.charge.setpoints.map e.ramp } }
  else { e with charge := e.charge.countMinute }

/-- A zone temperature lies within the warm-up band of the target (R104). -/
def withinBand (band target : Nat) (t : Int) : Bool :=
  decide ((target : Int) - band ≤ t ∧ t ≤ (target : Int) + band)

/-- Warm-up ends (R104). -/
def warmupEnds (e : Schedule) (fresh : List Int) : Bool :=
  match e.charge.setpoints with
  | none => false
  | some sp =>
    sp.activeDb == sp.targetDb && !fresh.isEmpty &&
      fresh.all (withinBand e.params.warmBand sp.targetDb)

/-- Warm-up is overdue and has not been said to be (R104). -/
def warmupOverdue (e : Schedule) : Bool :=
  e.params.warmMax != 0 && decide (e.params.warmMax ≤ e.charge.warmMinutes) &&
    !e.charge.warmOverdue

/-- The tests of a minute tick in WARMUP (R104). -/
def warmupTests (s : State) : State :=
  if warmupEnds s.schedule s.nodes.freshZones then
    { s with
      schedule :=
        { s.schedule with charge := { s.schedule.charge with state := .running, dwell := 0 } } }
  else if warmupOverdue s.schedule then
    raise (.warmupOverdue, none)
      { s with
        schedule :=
          { s.schedule with charge := { s.schedule.charge with warmOverdue := true } } }
  else s

/-- The current step advances at this tick (R109). -/
def Schedule.advances (e : Schedule) : Bool :=
  match e.current with
  | none => false
  | some r =>
    match r.criterion with
    | .dwell => decide (r.value ≤ e.charge.dwell)
    | _ => e.charge.confirmation == e.params.c && decide (r.minDwell ≤ e.charge.dwell)

/-- The current step is overdue and has not been said to be (R110). -/
def Schedule.overdue (e : Schedule) : Bool :=
  match e.current with
  | none => false
  | some r =>
    r.maxDwell != 0 && decide (r.maxDwell ≤ e.charge.dwell) && !e.charge.stepOverdue

/-- The current step's overdue action is ADVANCE. -/
def Schedule.overdueAdvances (e : Schedule) : Bool :=
  (e.current.map (·.overdue)) == some OverdueAction.advance

/-- The tests of a minute tick in RUNNING (R109, R110). -/
def runningTests (s : State) : State :=
  if s.schedule.advances then transition s
  else if s.schedule.overdue then
    let marked :=
      raise (.stepOverdue, some s.schedule.charge.step)
        { s with
          schedule :=
            { s.schedule with charge := { s.schedule.charge with stepOverdue := true } } }
    if s.schedule.overdueAdvances then transition marked else marked
  else s

/-- The cooldown ends at this tick (R119). -/
def cooldownEnds (e : Schedule) (fresh : List Int) : Bool :=
  (!fresh.isEmpty && fresh.all fun t => decide (t ≤ (e.params.coolEnd : Int))) ||
    decide (e.params.coolMax ≤ e.charge.coolMinutes)

/-- The test of a minute tick in COOLDOWN (R119). -/
def cooldownTest (s : State) : State :=
  if cooldownEnds s.schedule s.nodes.freshZones then
    completeCharge s.schedule.charge.noted s
  else s

/-- The Schedule Engine's handling of a minute tick (R103). -/
def scheduleMinute (s : State) : State :=
  let counted : State := { s with schedule := s.schedule.countAndRamp }
  match s.schedule.charge.state with
  | .warmup => warmupTests counted
  | .running => runningTests counted
  | .cooldown => cooldownTest counted
  | .idle | .hold | .complete => counted

/-! ## Evaluations (R105 to R107, R117) -/

/-- The criterion is satisfied by a non-blind evaluation; a DWELL criterion is not tested (R98). -/
def StepRecord.satisfied (r : StepRecord) (e : EvalRecord) : Option Bool :=
  match r.criterion with
  | .ctrlBelow => e.controlling.map fun m => decide (m ≤ r.value)
  | .driestBelow => e.driest.map fun d => decide (d.2 ≤ r.value)
  | .wettestBelow => e.wettest.map fun w => decide (w.2 ≤ r.value)
  | .dwell => none

/-- The confirmation counter after a non-blind evaluation (R105). -/
def confirmationAfter (e : Schedule) (ev : EvalRecord) : Nat :=
  match e.current.bind (·.satisfied ev) with
  | some true => satSucc e.params.c e.charge.confirmation
  | some false => 0
  | none => e.charge.confirmation

/-- A rate guard applies: a DRY step with a rate limit (R106). -/
def StepRecord.guarded (r : StepRecord) : Bool := r.phase == .dry && r.rateLimit != 0

/-- Trim after a non-blind evaluation (R106). -/
def trimAfter (e : Schedule) (ev : EvalRecord) : Bool :=
  match e.current with
  | none => e.charge.trim
  | some r =>
    if r.guarded then
      match ev.rate with
      | some rate => decide ((r.rateLimit : Int) < rate)
      | none => e.charge.trim
    else false

/-- RATE_EXCEEDED (R106). -/
def rateRaise (e : Schedule) (ev : EvalRecord) : List Raise :=
  match e.current, ev.rate with
  | some r, some rate =>
    if r.guarded && decide ((r.rateLimit : Int) < rate) then
      [(.rateExceeded, some e.charge.step)]
    else []
  | _, _ => []

/-- The return that follows once the hold causes are empty (R113). -/
def Charge.returnIfFree (c : Charge) : Charge :=
  if c.state = .hold ∧ c.causes.operator = false ∧ c.causes.blind = false then
    { c with
      state := match c.returnState with
        | some .warmup => .warmup
        | _ => .running,
      returnState := none }
  else c

/-- The counters, trim and hold after a non-blind evaluation (R105 to R107). -/
def Schedule.sighted (e : Schedule) (ev : EvalRecord) : Schedule :=
  let counted : Charge :=
    { e.charge with
      confirmation := confirmationAfter e ev, blinds := 0, trim := trimAfter e ev }
  { e with
    charge :=
      if counted.state = .hold then
        Charge.returnIfFree { counted with causes := { counted.causes with blind := false } }
      else counted }

/-- The blind counter after a blind evaluation (R107). -/
def blindsAfter (e : Schedule) : Nat := satSucc e.params.b e.charge.blinds

/-- The counters and hold after a blind evaluation (R107). -/
def Schedule.blinded (e : Schedule) : Schedule :=
  let c : Charge := { e.charge with blinds := blindsAfter e }
  if blindsAfter e = e.params.b then
    match c.state with
    | .running =>
      { e with
        charge :=
          { c with
            causes := { operator := false, blind := true }, returnState := some .running,
            state := .hold } }
    | _ => { e with charge := { c with causes := { c.causes with blind := true } } }
  else { e with charge := c }

/-- HOLD_ENTERED at a blind evaluation (R107). -/
def blindRaise (e : Schedule) : List Raise :=
  if e.charge.state = .running ∧ blindsAfter e = e.params.b then
    [(.holdEntered, some e.charge.step)]
  else []

/-- Evaluations act on the counters, trim and hold: RUNNING, or HOLD with return state RUNNING
(section 7.7). -/
def Charge.judged (c : Charge) : Bool :=
  c.state == .running || (c.state == .hold && c.returnState == some .running)

/-- An evaluation applied to the charge (R105 to R107, R117). -/
def applyEvaluation (ev : EvalRecord) (s : State) : State :=
  let e := s.schedule
  let judged := if e.charge.judged then (if ev.blind then e.blinded else e.sighted ev) else e
  let raises :=
    if e.charge.judged then (if ev.blind then blindRaise e else rateRaise e ev) else []
  raiseAll raises
    { s with
      schedule := if e.charge.state.ramps then judged.applyAmendment else judged }

end Sys2Proof.Machine
end

