-- ==== Sys2Proof/Machine/Reports.lean ====
section
/-! DEFINITION. Reports, the READ STATUS block and pass-through (R160 to R164, R171, R184). -/

namespace Sys2Proof.Machine

/-! ## EVALUATION and READINGS reports (R161, R184) -/

/-- The body of an EVALUATION REPORT, after type and gap mark (R161, R184). -/
def evaluationBody (c : Charge) (e : EvalRecord) : List Byte :=
  le16 c.number ++ [chargeStateCode c.state, byte c.step] ++ evalBytes e

/-- The 72 bits of a READINGS REPORT entry as one number (R184). -/
def entryNumber (sweep slot : Nat) (r : Reading) : Nat :=
  let behind := min 127 ((sweep + 2 ^ 32 - r.sweep % 2 ^ 32) % 2 ^ 32)
  let c := match r.validity with
    | .valid c => some c
    | .invalid _ => none
  slot + 2 ^ 6 * r.lcode + 2 ^ 18 * validityNumber r.validity +
    2 ^ 21 * (c.map fun c => clampNumber c.clamp).getD 3 + 2 ^ 23 * r.seqGap.toNat +
    2 ^ 24 * (c.map fun c => tempSourceNumber c.source).getD 3 +
    2 ^ 26 * (c.map fun c => (c.wood + 200).toNat).getD 2047 +
    2 ^ 37 * (c.map fun c => c.mc20).getD 1023 + 2 ^ 47 * (c.map fun c => c.mc).getD 1023 +
    2 ^ 57 * behind + 2 ^ 64 * r.age

/-- A number as `n` bytes, least significant first. -/
def leBytes : Nat → Nat → List Byte
  | 0, _ => []
  | n + 1, v => byte (v % 256) :: leBytes n (v / 256)

/-- A READINGS REPORT entry, 9 bytes (R184). -/
def entryBytes (sweep : Nat) (p : Nat × Reading) : List Byte := leBytes 9 (entryNumber sweep p.1 p.2)

/-- The slots that hold a reading record, with it, in ascending slot order (R161). -/
def heldReadings (probes : List ProbeRecord) : List (Nat × Reading) :=
  (indexed 0 probes).filterMap fun p => p.2.reading.map fun r => (p.1, r)

/-- A list cut into parts of at most `size`, at most `fuel` parts. -/
def partsOf {α : Type} (size : Nat) : Nat → List α → List (List α)
  | 0, _ => []
  | _ + 1, [] => []
  | fuel + 1, a :: rest => (a :: rest).take size :: partsOf size fuel ((a :: rest).drop size)

/-- The bodies of the READINGS REPORT frames of an evaluation, 12 entries to a frame (R161, R184). -/
def readingsBodies (sweep : Nat) (probes : List ProbeRecord) : List (List Byte) :=
  let parts := partsOf 12 6 (heldReadings probes)
  (indexed 1 parts).map fun p =>
    le32 sweep ++ [byte p.1, byte parts.length, byte p.2.length] ++
      p.2.flatMap (entryBytes sweep)

/-- The reports of an evaluation, by report mode (R160, R161). -/
def reportEvaluation (c : Charge) (e : EvalRecord) (s : State) : State :=
  match s.loop.mode with
  | .off => s
  | .evaluation => offerReport 0#8 (evaluationBody c e) s
  | .full =>
    (readingsBodies e.sweep s.nodes.probes).foldl (fun s b => offerReport 1#8 b s)
      (offerReport 0#8 (evaluationBody c e) s)

/-! ## STATE reports and the demand set as shown (R125, R162, R184) -/

/-- Bytes 16 to 23 of a STATE REPORT: heat of zones 1 to 4, vent, spray, fan, and the NONE marks; a NONE
demand is shown at its safe-mode value (R125, R184).  Bit 7 of the marks, which R184 assigns to nothing, is sent as 0
(DESIGN CHOICE, assumption 48). -/
def demandBytes (c : Climate) : List Byte :=
  let percents := c.zones.map (·.demand) ++ [c.vent, c.spray]
  let fan := match c.fan.demand with
    | some v => fanCode v
    | none => fanCode .stop
  let marks := (percents.map Option.isNone ++ [c.fan.demand.isNone]).foldr
    (fun b acc => 2 * acc + b.toNat) 0
  percents.map (fun d => byte (d.getD 0)) ++ [fan, byte marks]

/-- Active DB, active depression, target DB, target depression and WB target, 2 bytes each (R184).  Absent ones
read 0xFFFF, as unsigned fields do (R180): a setpoint is a plain integer, though R180 counts temperatures among
the signed fields (DESIGN CHOICE, assumption 44). -/
def setpointBytes (o : Option Setpoints) : List Byte :=
  opt16 (o.map (·.activeDb)) ++ opt16 (o.map (·.activeDep)) ++ opt16 (o.map (·.targetDb)) ++
    opt16 (o.map (·.targetDep)) ++ opt16 (o.map (·.wbTarget))

/-- Measured DB of zones 1 to 4 and measured WB, 2 bytes each, then the humidity source (R184). -/
def measuredBytes (c : Climate) : List Byte :=
  c.zones.flatMap (fun z => optSigned z.measured) ++ optSigned c.measuredWb ++ [sourceCode c.source]

/-- An air entry of a STATE REPORT: role in bits 0 and 1 with fresh in bit 7, then the temperature
(R162, R184).  Bits 2 to 6, which R184 assigns to nothing, are sent as 0 (DESIGN CHOICE, assumption 48). -/
def airReportBytes (a : AirRecord) : List Byte :=
  [roleCode a.role ||| (if a.freshTemp.isSome then 0x80#8 else 0#8)] ++ optSigned a.lastTemp

/-- The body of a STATE REPORT, after type and gap mark (R162, R184). -/
def stateBody (s : State) : List Byte :=
  let c := s.schedule.charge
  [chargeStateCode c.state, returnStateByte c.returnState, causesByte c.causes, byte c.step] ++
    setpointBytes c.setpoints ++ demandBytes s.climate ++ [fanStateCode s.climate.fan] ++
    measuredBytes s.climate ++ s.nodes.airs.flatMap airReportBytes ++ [healthCode s.nodes.health]

/-- The state report count after an expiry (R160; with N at 0 it stays at 0, assumption 18). -/
def nextReportCount (p : LoopPort) : Nat :=
  if p.interval = 0 then 0
  else if p.interval ≤ satSucc 255 p.reportCount then 0
  else satSucc 255 p.reportCount

/-- A STATE REPORT is due at this expiry (R160). -/
def stateReportDue (p : LoopPort) : Bool :=
  p.interval != 0 && decide (p.interval ≤ satSucc 255 p.reportCount) && p.mode != .off

/-- The Plant Loop Port at a climate cycle expiry (R160). -/
def countStateReport (s : State) : State :=
  let counted : State := { s with loop := { s.loop with reportCount := nextReportCount s.loop } }
  if stateReportDue s.loop then offerReport 2#8 (stateBody counted) counted else counted

/-! ## The READ STATUS block (R171, R184) -/

/-- The charge record in the READ STATUS block; in COOLDOWN the result is the noted one (R121). -/
def chargeStatusBytes (c : Charge) : List Byte :=
  le16 c.number ++
    [chargeStateCode c.state, returnStateByte c.returnState, causesByte c.causes, byte c.step] ++
    le16 c.dwell ++ le24 c.minute ++ [byte c.confirmation, byte c.blinds, markByte c.trim] ++
    setpointBytes c.setpoints ++
    [resultByte (if c.state = .cooldown then c.noted else c.result),
      optByte (c.amendment.map Prod.fst)]

/-- Loop modes, 2 bits for each zone, zone 1 in bits 0 and 1 (R184). -/
def modesByte (c : Climate) : Byte :=
  byte (c.zones.foldr (fun z acc => 4 * acc + modeNumber z.mode) 0)

/-- The WB selection: mode, primary, secondary (R43, R171; assumption 15). -/
def wbStatusBytes (t : NodeTables) : List Byte :=
  [(match t.wb with
      | .default => 0#8
      | .explicit _ _ => 1#8),
    optByte t.wbPoints.1, optByte t.wbPoints.2]

/-- The comparison result: mismatch count, unknown count, first mismatching address (R171, R184). -/
def comparisonBytes (o : Option Comparison) : List Byte :=
  [optByte (o.map (·.mismatches)), optByte (o.map (·.unknowns)),
    addressByte (o.bind (·.first))]

/-- ALARM in bit 0 and STATUS 0 to 3 in bits 1 to 4 (R184).  Bits 5 to 7, which R184 assigns to nothing, are sent as
0 (DESIGN CHOICE, assumption 48). -/
def levelsByte (s : State) : Byte :=
  byte (s.alarm.toNat + 2 * (s.statusLine 0).toNat + 4 * (s.statusLine 1).toNat +
    8 * (s.statusLine 2).toNat + 16 * (s.statusLine 3).toNat)

/-- The READ STATUS block, 112 bytes (R171, R184). -/
def statusBlock (s : State) : List Byte :=
  [byte s.loop.station, byte s.loop.repeatQueue.length, byte s.loop.insertQueue.length] ++
    chargeStatusBytes s.schedule.charge ++
    ((s.evaluator.latest.map evalBytes).getD (absentRecord 37)) ++
    demandBytes s.climate ++ [fanStateCode s.climate.fan] ++ measuredBytes s.climate ++
    [modesByte s.climate] ++ [healthCode s.nodes.health, byte (failures s.nodes.lineWindow)] ++
    [surveyCode s.survey.condition, byte s.survey.count] ++ comparisonBytes s.survey.comparison ++
    wbStatusBytes s.nodes ++ le32 s.events.latchedSet ++ le32 s.events.mask.toNat ++
    [levelsByte s] ++ s.events.sources.map statusSourceCode ++
    [reportModeCode s.loop.mode, byte s.loop.interval]

/-! ## Pass-through (R164) -/

/-- The node kind and check kind that an IDENT payload names (R64, R181). -/
def identOf (payload : List Byte) : Option (NodeKind × CheckKind) :=
  match payload with
  | k :: c :: _ =>
    match nodeKindOf k, checkOf c with
    | some k, some c => some (k, c)
    | _, _ => none
  | _ => none

/-- The node kind of a GOOD outcome for the pass-through check (R164). -/
def passNodeKind (owner : Owner) (g : GoodResponse) : Option NodeKind :=
  match owner with
  | .probe _ => some .probe
  | .air _ => some .air
  | .actuator _ => some .actuator
  | .survey _ =>
    match g.kind, g.payload with
    | .ident, k :: _ => nodeKindOf k
    | _, _ => none

/-- The body of a PASS-THROUGH frame, after its gap mark (R164, R184). -/
def passBody (o : OutcomeRecord) (kind : NodeKind) (g : GoodResponse) : List Byte :=
  [byte o.request.address, nodeKindCode kind, responseCode g.kind, byte g.sequence,
    checkCode g.check, byte g.payload.length] ++ g.payload

/-- The pass-through check of a delivered outcome (R164). -/
def passThrough (o : OutcomeRecord) (s : State) : State :=
  match o.response with
  | none => s
  | some g =>
    match passNodeKind o.request.owner g with
    | none => s
    | some k =>
      if s.loop.passList.contains (some (k, g.kind)) then offerPass (passBody o k g) s else s

/-! ## A sweep's evaluation (R80, R83, R94) -/

/-- The evaluation at a sweep completion, and its handing on (R80, R83, R94): the readings age, the
record is built, joins the history and becomes the latest; the reports are offered with the charge as
it stood before the Schedule Engine acts; BLIND_EVAL is raised; and the Schedule Engine applies the
record.  The order among the hand-offs is the model's (assumption 20). -/
def runEvaluation (sweep : Nat) (s : State) : State :=
  let aged : State := { s with nodes := { s.nodes with probes := ageReadings sweep s.nodes.probes } }
  let e := evaluate aged.nodes.probes s.schedule.params s.schedule.charge s.evaluator.history sweep
  let kept : State :=
    { aged with
      evaluator :=
        { latest := some e, history := joinHistory s.evaluator.history s.schedule.charge e } }
  let told := reportEvaluation s.schedule.charge e kept
  applyEvaluation e (raiseAll (if e.blind then [(.blindEval, none)] else []) told)

end Sys2Proof.Machine
end

