-- ==== Sys2Proof/Machine/SurveyEngine.lean ====
section
/-! DEFINITION. The Survey Engine: map entries, completion, comparison and abort (R62 to R68). -/

namespace Sys2Proof.Machine

/-- The map entry of a PING outcome (R64). -/
def entryOf (o : OutcomeRecord) : MapEntry :=
  match o.outcome with
  | .miss => .noAnswer
  | .bad | .jabber => .garbled
  | .good =>
    match o.response with
    | none => .garbled
    | some g =>
      match g.kind, identOf g.payload with
      | .ident, some (k, c) => .answered k c
      | _, _ => .garbled

/-- The Survey Map entry of a line address. -/
def Survey.entryAt (v : Survey) (address : Nat) : MapEntry :=
  v.map.getD (address - 1) .notSurveyed

/-- A configured record's address and kind, in the three tables (R41, R66). -/
def configuredRecords (probes : List ProbeRecord) (airs : List AirRecord) (acts : List Actuator) :
    List (Nat × NodeKind) :=
  probes.filterMap (fun p => p.node.address.map fun a => (a, NodeKind.probe)) ++
    airs.filterMap (fun r => r.node.address.map fun a => (a, NodeKind.air)) ++
    acts.filterMap (fun r => r.address.map fun a => (a, NodeKind.actuator))

/-- A configured record matches its map entry: ANSWERED with the record's kind (R66). -/
def matchesEntry (kind : NodeKind) : MapEntry → Bool
  | .answered k _ => k == kind
  | .notSurveyed | .noAnswer | .garbled => false

/-- The entry is ANSWERED. -/
def isAnswered : MapEntry → Bool
  | .answered _ _ => true
  | .notSurveyed | .noAnswer | .garbled => false

/-- The lowest of some numbers. -/
def lowest : List Nat → Option Nat
  | [] => none
  | a :: rest => some (rest.foldl min a)

/-- The addresses judged a mismatch, in table order (R66). -/
def mismatching (v : Survey) (records : List (Nat × NodeKind)) : List Nat :=
  (records.filter fun r => !matchesEntry r.2 (v.entryAt r.1)).map Prod.fst

/-- The ANSWERED addresses that no configured record holds, ascending (R66). -/
def unknownNodes (v : Survey) (records : List (Nat × NodeKind)) : List Nat :=
  (indexed 1 v.map).filterMap fun p =>
    if isAnswered p.2 && !(records.map Prod.fst).contains p.1 then some p.1 else none

/-- The comparison of the map with the node tables (R66). -/
def compare (v : Survey) (records : List (Nat × NodeKind)) : Comparison :=
  { mismatches := (mismatching v records).length, unknowns := (unknownNodes v records).length,
    first := lowest (mismatching v records) }

/-- The events of a completed survey (R65). -/
def surveyRaises (c : Comparison) (unknown : Option Nat) : List Raise :=
  [(.surveyDone, none)] ++
    (if c.mismatches = 0 ∧ c.unknowns = 0 then []
     else if c.mismatches = 0 then [(.surveyMismatch, unknown)]
     else [(.surveyMismatch, c.first)])

/-- The survey ended: IDLE with no next address (R65, R67). -/
def Survey.end (v : Survey) : Survey :=
  { v with condition := .idle, next := none, inFlight := none }

/-- A PING outcome entered in the map, and the ping no longer in flight (R63, R64). -/
def Survey.enter (v : Survey) (address : Nat) (o : OutcomeRecord) : Survey :=
  { v with map := v.map.set (address - 1) (entryOf o), inFlight := none }

/-- The configured records of the whole machine. -/
def State.records (s : State) : List (Nat × NodeKind) :=
  configuredRecords s.nodes.probes s.nodes.airs s.outputs.entries

/-- The survey completes with the map as entered (R65). -/
def completeSurvey (s : State) : State :=
  let c := compare s.survey s.records
  raiseAll (surveyRaises c (lowest (unknownNodes s.survey s.records)))
    { s with
      survey :=
        { s.survey.end with count := (s.survey.count + 1) % 256, comparison := some c } }

/-- The Survey Engine takes a PING outcome (R63 to R65, R67). -/
def ownerSurvey (address : Nat) (o : OutcomeRecord) (s : State) : State :=
  let entered : State := { s with survey := s.survey.enter address o }
  match s.survey.condition with
  | .running =>
    if address < Config.lineAddresses then
      { entered with survey := { entered.survey with next := some (address + 1) } }
    else completeSurvey entered
  | .stopping => { entered with survey := entered.survey.end }
  | .idle => entered

/-- LINE RESET and RESTART end a running or stopping survey; no survey event is raised (R68). -/
def Survey.cut (v : Survey) : Survey := if v.condition = .idle then v else v.end

end Sys2Proof.Machine
end

