-- ==== Sys2Proof/Machine/ActuatorOutputs.lean ====
section
/-! DEFINITION. The Actuator Output Unit's part of a SET outcome: acknowledgement, echo check, failed
SETs (R146 to R148). -/

namespace Sys2Proof.Machine

/-- The echoed position of an ECHO payload, of the kind of the value sent (R147, R181). -/
def echoPosition (sent : ActValue) (payload : List Byte) : Option ActValue :=
  match payload with
  | [] => none
  | b :: _ =>
    match sent with
    | .percent _ => if b.toNat ≤ 100 then some (.percent b.toNat) else none
    | .fan _ => (fanOf b).map .fan

/-- The echoed position matches the value sent (R147). -/
def echoMatches (sent : ActValue) (position : Option ActValue) : Bool :=
  match sent, position with
  | .percent v, some (.percent p) =>
    decide (p ≤ v + Config.echoTolerance ∧ v ≤ p + Config.echoTolerance)
  | .fan v, some (.fan p) => v == p
  | _, _ => false

/-- The echo check (R147). -/
def Actuator.checkEcho (a : Actuator) (sent : ActValue) (payload : List Byte) : Actuator :=
  let position := echoPosition sent payload
  { a with
    echoed := position,
    mismatches := if echoMatches sent position then 0 else satSucc 3 a.mismatches }

/-- ACTUATOR_MISMATCH: a mismatching echo at a count of 3 (R147). -/
def echoRaise (a : Actuator) (index : Nat) (sent : ActValue) (payload : List Byte) : List Raise :=
  if (a.checkEcho sent payload).mismatches = 3 ∧
      echoMatches sent (echoPosition sent payload) = false then
    [(.actuatorMismatch, some index)]
  else []

/-- What an acknowledgement always does (R146). -/
def Actuator.acknowledge (a : Actuator) : Actuator := { a with failed := 0, state := .active }

/-- A GOOD outcome of a SET that carried `sent`: under the kind mark the acknowledged value, the echoed
position and the mismatch count stay as the write set them (R146, R147). -/
def Actuator.takeGood (a : Actuator) (index : Nat) (kindMark : Bool) (sent : ActValue)
    (g : GoodResponse) : Actuator × List Raise :=
  if kindMark then (a.acknowledge, [])
  else
    let acked := { a.acknowledge with acknowledged := some sent }
    match g.kind with
    | .echo => (acked.checkEcho sent g.payload, echoRaise acked index sent g.payload)
    | .reading | .ident | .diagnostic => (acked, [])

/-- A failed SET (R148). -/
def Actuator.takeFailed (a : Actuator) (index : Nat) : Actuator × List Raise :=
  let failed := satSucc 4 a.failed
  if failed = 4 ∧ a.state ≠ .lost then
    ({ a with failed := failed, state := .lost }, [(.actuatorLost, some index)])
  else ({ a with failed := failed }, [])

/-- An applied SET outcome (R146 to R148). -/
def Actuator.take (a : Actuator) (index : Nat) (kindMark : Bool) (o : OutcomeRecord) :
    Actuator × List Raise :=
  match o.response, o.request.argument with
  | some g, some sent => a.takeGood index kindMark sent g
  | some _, none => (a.acknowledge, [])
  | none, _ => a.takeFailed index

/-- The owner's handling of a SET outcome: dropped under the drop mark, applied otherwise (R146). -/
def ownerActuator (index : Nat) (o : OutcomeRecord) (s : State) : State :=
  if s.outputs.dropMark then s
  else
    match s.outputs.entries[index]? with
    | none => s
    | some a =>
      raiseAll (a.take index s.outputs.kindMark o).2
        { s with
          outputs :=
            { s.outputs with
              entries := s.outputs.entries.set index (a.take index s.outputs.kindMark o).1 } }

end Sys2Proof.Machine
end

