-- ==== Sys2Proof/Machine/LineArbiter.lean ====
section
/-! DEFINITION. The Line Arbiter: sweeps, selection of the next transaction, owed counts, polarity search,
and the delivery of an outcome (R17, R21 to R39). -/

namespace Sys2Proof.Machine

/-! ## Sweeps (R25 to R28) -/

/-- A READ of the sweep is in flight (R27). -/
def State.sweepReadInFlight (s : State) : Bool :=
  s.line.condition == .busy &&
    match s.plp.request with
    | some r =>
      match r.owner with
      | .probe _ => true
      | .air _ | .actuator _ | .survey _ => false
    | none => false

/-- The lowest pollable slot at or above a position (R22, R26). -/
def NodeTables.nextSlot (t : NodeTables) (position : Nat) : Option Nat :=
  firstIndex (fun i p => decide (position ≤ i) && p.node.pollable) 0 t.probes

/-- The sweep in progress completes now (R27). -/
def State.sweepDone (s : State) : Bool :=
  s.line.sweeping && !s.sweepReadInFlight && (s.nodes.nextSlot s.line.sweepPosition).isNone

/-- The sweep in progress completes: its evaluation, then sweep condition NONE (R27). -/
def completeSweep (s : State) : State :=
  let evaluated := runEvaluation s.line.sweepNumber s
  { evaluated with line := { evaluated.line with sweeping := false } }

/-- A sweep starts, and completes as it starts where no slot is pollable (R26, R27). -/
def startSweep (s : State) : State :=
  let started : State :=
    { s with
      line :=
        { s.line with
          sweepNumber := (s.line.sweepNumber + 1) % 2 ^ 32, sweeping := true,
          sweepPosition := 0 } }
  if started.sweepDone then completeSweep started else started

/-- The completion test of a sweep; a pending sweep starts at once after the completion (R27). -/
def testSweep (s : State) : State :=
  if s.sweepDone then
    let done := completeSweep s
    if done.line.sweepPending then
      startSweep { done with line := { done.line with sweepPending := false } }
    else done
  else s

/-- A sweep timer expiry: the timer restarts with the period held, and a sweep starts, is made pending,
or SWEEP_OVERRUN is latched (R24, R25, R28). -/
def sweepExpiry (s : State) : State :=
  let restarted : State := { s with line := { s.line with sweepTimer := s.lineParams.sweepPeriod } }
  if s.line.sweeping then
    if s.line.sweepPending then raise (.sweepOverrun, none) restarted
    else { restarted with line := { restarted.line with sweepPending := true } }
  else startSweep restarted

/-! ## Selection (R22, R23, R35) -/

/-- The commanded value differs from the last acknowledged one; an absent one differs (R22). -/
def Actuator.changed (a : Actuator) : Bool := a.acknowledged != some a.commanded

/-- Class 1: configured, owed count 4 or more, retry wait CLEAR (R22). -/
def urgent (a : Actuator) (retry : Bool) : Bool :=
  a.address.isSome && !retry && decide (Config.owedUrgent ≤ a.owed)

/-- Class 2: configured, retry wait CLEAR, and a refresh owed or a changed value (R22, R35). -/
def setDue (a : Actuator) (retry : Bool) : Bool :=
  a.address.isSome && !retry && (decide (1 ≤ a.owed) || a.changed)

/-- The retry wait of an actuator. -/
def Arbiter.retryOf (l : Arbiter) (i : Nat) : Bool := l.retryWait.getD i false

/-- The poll-due mark of an air point. -/
def Arbiter.dueOf (l : Arbiter) (i : Nat) : Bool := l.pollDue.getD i false

/-- The transmit polarity of a record's READ: its polarity, or its search polarity while UNKNOWN
(R23, R37). -/
def readPolarity (known : Option Polarity) (search : Option Search) : Polarity :=
  match known, search with
  | some p, _ => p
  | none, some q => q.polarity
  | none, none => .normal

/-- The known polarity of a probe or air record that holds an address (R23, class 4). -/
def NodeTables.polarityAt (t : NodeTables) (address : Nat) : Option Polarity :=
  match (t.probes.map (·.node) ++ t.airs.map (·.node)).find? fun n => n.address == some address with
  | some n => n.polarity
  | none => none

/-- The request for an actuator's SET (R23). -/
def setRequest (s : State) (i : Nat) : Option Request :=
  match s.outputs.entries[i]? with
  | none => none
  | some a =>
    a.address.map fun address =>
      { owner := .actuator i, address := address, kind := .set, argument := some a.commanded,
        polarity := .normal }

/-- The request for an air point's climate poll (R23). -/
def airRequest (s : State) (i : Nat) : Option Request :=
  match s.nodes.airs[i]? with
  | none => none
  | some a =>
    a.node.address.map fun address =>
      { owner := .air i, address := address, kind := .read, argument := none,
        polarity := readPolarity a.node.polarity s.line.airSearch[i]? }

/-- The request for a survey PING (R23). -/
def pingRequest (s : State) (address : Nat) : Request :=
  { owner := .survey address, address := address, kind := .ping, argument := none,
    polarity := (s.nodes.polarityAt address).getD .normal }

/-- The request for a probe poll (R23). -/
def probeRequest (s : State) (i : Nat) : Option Request :=
  match s.nodes.probes[i]? with
  | none => none
  | some p =>
    p.node.address.map fun address =>
      { owner := .probe i, address := address, kind := .read, argument := none,
        polarity := readPolarity p.node.polarity s.line.probeSearch[i]? }

/-- The class 1 item of lowest index. -/
def State.urgentItem (s : State) : Option Nat :=
  firstIndex (fun i a => urgent a (s.line.retryOf i)) 0 s.outputs.entries

/-- The class 2 item of lowest index. -/
def State.setItem (s : State) : Option Nat :=
  firstIndex (fun i a => setDue a (s.line.retryOf i)) 0 s.outputs.entries

/-- The class 3 item of lowest index. -/
def State.airItem (s : State) : Option Nat :=
  firstIndex (fun i a => s.line.dueOf i && a.node.pollable) 0 s.nodes.airs

/-- The class 4 item: the address the Survey Engine names (R63). -/
def State.pingItem (s : State) : Option Nat :=
  if s.survey.condition = .running ∧ s.survey.inFlight = none then s.survey.next else none

/-- The class 5 item: no survey runs and a sweep is in progress (R22, R28). -/
def State.probeItem (s : State) : Option Nat :=
  if s.line.sweeping ∧ s.survey.condition = .idle then s.nodes.nextSlot s.line.sweepPosition
  else none

/-- The request of the first class with eligible work, lowest index first within a class (R22). -/
def State.choose (s : State) : Option Request :=
  match s.urgentItem with
  | some i => setRequest s i
  | none =>
    match s.setItem with
    | some i => setRequest s i
    | none =>
      match s.airItem with
      | some i => airRequest s i
      | none =>
        match s.pingItem with
        | some a => some (pingRequest s a)
        | none =>
          match s.probeItem with
          | some i => probeRequest s i
          | none => none

/-- The four LINE_PARAMS values latched at a transaction's start (R4, R5). -/
def LineParams.latch (p : LineParams) : LatchedParams :=
  { glitchWidth := p.glitchWidth, lead := p.lead, lag := p.lag, timeout := p.timeout }

/-- The PLP takes a request: parameters latched, count 0, fault list clear, DE high, LEAD (R5). -/
def Plp.takeRequest (p : Plp) (params : LineParams) (r : Request) : Plp :=
  { p with
    phase := .lead, request := some r, latched := some params.latch, poll := [], pollNext := 0,
    pollAge := 0, responseTimer := none, count := 0, sync := none, fields := [], declaredEnd := none,
    faults := [], receiver := p.receiver.mute }

/-- The Line Arbiter's own part of issuing a request (R21, R26, R31). -/
def Arbiter.issue (l : Arbiter) (owner : Owner) : Arbiter :=
  match owner with
  | .actuator _ => { l with condition := .busy }
  | .air i => { l with condition := .busy, pollDue := l.pollDue.set i false }
  | .survey _ => { l with condition := .busy }
  | .probe i => { l with condition := .busy, sweepPosition := i + 1 }

/-- A READ issued clears the Node Tables' drop mark (R45). -/
def NodeTables.issue (t : NodeTables) (owner : Owner) : NodeTables :=
  match owner with
  | .probe _ | .air _ => { t with dropMark := false }
  | .actuator _ | .survey _ => t

/-- A SET issued clears the Actuator Output Unit's marks (R146). -/
def Outputs.issue (u : Outputs) (owner : Owner) : Outputs :=
  match owner with
  | .actuator _ => { u with dropMark := false, kindMark := false }
  | .probe _ | .air _ | .survey _ => u

/-- A PING issued is recorded as in flight, and no next address is named (R63). -/
def Survey.issue (v : Survey) (owner : Owner) : Survey :=
  match owner with
  | .survey a => { v with inFlight := some a, next := none }
  | .probe _ | .air _ | .actuator _ => v

/-- A request issued to the Probe Line Port (R5, R21, R26, R31, R45, R63, R146). -/
def issue (r : Request) (s : State) : State :=
  { s with
    plp := s.plp.takeRequest s.lineParams r,
    line := s.line.issue r.owner,
    nodes := s.nodes.issue r.owner,
    outputs := s.outputs.issue r.owner,
    survey := s.survey.issue r.owner }

/-- A selection on an idle line: the sweep's completion test, then the first class with eligible work
(R21, R22, R27). -/
def select (s : State) : State :=
  if s.line.condition = .idle then
    let tested := testSweep s
    match tested.choose with
    | some r => issue r tested
    | none => tested
  else s

/-! ## What an outcome changes in the Line Arbiter (R33, R37) -/

/-- The search state after an applied READ outcome of a record whose polarity is UNKNOWN (R37). -/
def Search.after (q : Search) (o : LineOutcome) : Search :=
  match o with
  | .miss =>
    if q.tally = 0 then { q with tally := 1 }
    else
      { polarity := (match q.polarity with
          | .normal => .reversed
          | .reversed => .normal),
        tally := 0 }
  | .bad | .jabber => { q with tally := 0 }
  | .good => .start

/-- The owed count after an applied SET outcome (R33). -/
def owedAfter (owed : Int) (o : LineOutcome) : Int :=
  match o with
  | .good => max Config.owedLow (owed - 1)
  | .bad | .miss | .jabber => owed

/-- The Line Arbiter's credit for a SET outcome: nothing for a dropped one (R33, R34). -/
def creditSet (index : Nat) (o : LineOutcome) (s : State) : State :=
  if s.outputs.dropMark then s
  else
    { s with
      outputs :=
        { s.outputs with
          entries := s.outputs.entries.modify index fun a => { a with owed := owedAfter a.owed o } },
      line :=
        { s.line with
          retryWait := if o.failed then s.line.retryWait.set index true else s.line.retryWait } }

/-- The polarity search after a probe's READ outcome: nothing for a dropped one, or for a known
polarity (R37). -/
def searchProbe (before : NodeTables) (slot : Nat) (o : LineOutcome) (l : Arbiter) : Arbiter :=
  match before.probes[slot]? with
  | some p =>
    if before.dropMark = false ∧ p.node.polarity = none then
      { l with probeSearch := l.probeSearch.modify slot fun q => q.after o }
    else l
  | none => l

/-- The polarity search after an air point's READ outcome (R37). -/
def searchAir (before : NodeTables) (index : Nat) (o : LineOutcome) (l : Arbiter) : Arbiter :=
  match before.airs[index]? with
  | some a =>
    if before.dropMark = false ∧ a.node.polarity = none then
      { l with airSearch := l.airSearch.modify index fun q => q.after o }
    else l
  | none => l

/-- The owner takes the outcome (R17). -/
def deliverToOwner (o : OutcomeRecord) (s : State) : State :=
  match o.request.owner with
  | .probe i => ownerProbe i o s
  | .air i => ownerAir i o s
  | .actuator i => ownerActuator i o s
  | .survey a => ownerSurvey a o s

/-- The Line Arbiter takes the outcome for its own items: credit, search, and the sweep's completion
test at each READ of the sweep (R27, R33, R37). -/
def arbiterTake (before : NodeTables) (o : OutcomeRecord) (s : State) : State :=
  match o.request.owner with
  | .probe i => testSweep { s with line := searchProbe before i o.outcome s.line }
  | .air i => { s with line := searchAir before i o.outcome s.line }
  | .actuator i => creditSet i o.outcome s
  | .survey _ => s

/-- The PLP in IDLE with no transaction; the count and the fault list stay until the next transaction
(R14, R17). -/
def Plp.toIdle (p : Plp) : Plp :=
  { p with
    phase := .idle, request := none, latched := none, poll := [], pollNext := 0,
    pollAge := 0, responseTimer := none, sync := none, fields := [], declaredEnd := none }

/-- The delivery of an outcome: the PLP returns to IDLE and the line is idle; the Line Health Monitor, the
owner and the Plant Loop Port take the outcome, and then the Line Arbiter (R17, R21).  The Monitor comes
first so that a start request it makes at the last PING of a survey finds that survey running and is
ignored (R69); the order of the rest is the model's (assumption 21). -/
def deliver (o : OutcomeRecord) (s : State) : State :=
  let freed : State :=
    { s with plp := s.plp.toIdle, line := { s.line with condition := .idle } }
  arbiterTake s.nodes o (passThrough o (deliverToOwner o (monitor o.outcome freed)))

/-! ## Timers of chapter 2 -/

/-- An actuator's refresh timer expiry (R24, R32, R34). -/
def refreshExpiry (i : Nat) (s : State) : State :=
  match s.line.refreshTimers[i]?, s.outputs.entries[i]? with
  | some (some _), some a =>
    let owed := min Config.owedHigh (a.owed + 1)
    raiseAll (if owed = Config.owedHigh then [(.actuatorStarved, some i)] else [])
      { s with
        outputs := { s.outputs with entries := s.outputs.entries.set i { a with owed := owed } },
        line :=
          { s.line with
            refreshTimers := s.line.refreshTimers.set i (some s.lineParams.refresh),
            retryWait := s.line.retryWait.set i false } }
  | _, _ => s

/-- The poll-due marks after a climate cycle expiry (R30). -/
def Arbiter.markDue (l : Arbiter) (airs : List AirRecord) : Arbiter :=
  { l with
    pollDue := (indexed 0 l.pollDue).map fun p =>
      match airs[p.1]? with
      | some a => p.2 || a.node.pollable
      | none => p.2 }

/-- A climate cycle expiry: the timer restarts, the poll-due marks are set, the air points are aged, the
Climate Unit acts, and the Plant Loop Port counts (R24, R30).  R127 leaves open whether the Climate Unit or
the Plant Loop Port acts first; that the Climate Unit does, so that a STATE REPORT carries the demand set of
this expiry, is the model's choice (DESIGN CHOICE, assumption 38). -/
def climateExpiry (s : State) : State :=
  let marked : State :=
    { s with
      line := { s.line.markDue s.nodes.airs with climateTimer := s.lineParams.climateCycle },
      nodes := s.nodes.ageAirs }
  countStateReport (climateCycle marked)

/-! ## Abandonment (R18, R21) -/

/-- The PLP's part of an abandonment: in SENDING the character being sent is completed and no further one is
sent; in SENDING and LAG it keeps DE until the lag has passed; in every other state DE is low, or falls at
once, and it enters IDLE (R18). -/
def Plp.abandon (p : Plp) : Plp :=
  match p.phase with
  | .sending =>
    { p with request := none, responseTimer := none, poll := p.poll.take p.pollNext }
  | .lag => { p with request := none, responseTimer := none }
  | .idle | .lead | .await | .receiving | .trailing => p.toIdle

/-- The line condition at an abandonment: IDLE stays IDLE; otherwise ABANDONING until the PLP is in IDLE
(R21). -/
def abandonCondition (p : Plp) (c : LineCondition) : LineCondition :=
  if c = .idle then .idle
  else
    match p.phase with
    | .sending | .lag => .abandoning
    | .idle | .lead | .await | .receiving | .trailing => .idle

/-- The abandonment completes: DE low, the PLP IDLE, the line IDLE (R18, R21). -/
def finishAbandonment (s : State) : State :=
  if s.line.condition = .abandoning then
    { s with plp := s.plp.toIdle, line := { s.line with condition := .idle } }
  else s

end Sys2Proof.Machine
end

