-- ==== Sys2Proof/Machine/ProbeLine.lean ====
section
/-! DEFINITION. The Probe Line Port: the poll, the wait for the response, reception, and the decision of
the outcome (R5 to R20). -/

namespace Sys2Proof.Machine

/-- A block's handling of an event: none while RESET is low (R174). -/
def awake (f : State → State) (s : State) : State := if s.resetHeld then s else f s

/-! ## The poll (R5 to R7) -/

/-- The covered fields of a poll: address, request kind, and for SET the argument (R6). -/
def pollFields (r : Request) : List Byte :=
  [byte r.address, requestCode r.kind] ++ (r.argument.map valueCode).toList

/-- The characters of a poll, every one in the transmit polarity; the check is computed over the fields
before complementing (R6, R7, R181). -/
def pollChars (r : Request) : List LineBits :=
  (syncChar :: (pollFields r ++ crcBytes (pollFields r)).map charOf).map (inPolarity r.polarity)

/-- The poll characters still to leave PL_TX, the one being sent first (R6); after an abandonment that one
alone (R18). -/
def State.pollOut (s : State) : List LineBits :=
  if s.resetHeld then []
  else if s.plp.phase = .sending then s.plp.poll.drop (s.plp.pollNext - 1)
  else []

/-- The level on PL_TX: the bit of the character being sent, and the idle level where none is (R1, R3). -/
def State.plTx (s : State) : Bool :=
  match s.pollOut with
  | c :: _ => (charLevels c).getD (s.plp.pollAge / 16) true
  | [] => true

/-- The PLP after so many sixteenths of a bit of sending: the characters follow one another with no idle time
between them (R3), up to the last that may still be sent (R18).  That these sixteenths are those of the raw
line in CHARACTER_RECEIVED is the model's form (DESIGN CHOICE, assumption 23). -/
def Plp.sendFor (sixteenths : Nat) (p : Plp) : Plp :=
  let sent := p.pollAge + sixteenths
  let next := p.pollNext + sent / Config.charSixteenths
  match p.phase with
  | .sending =>
    if next ≤ p.poll.length then { p with pollNext := next, pollAge := sent % Config.charSixteenths }
    else { p with pollNext := p.poll.length + 1, pollAge := 0 }
  | .idle | .lead | .lag | .await | .receiving | .trailing => p

/-- The lead time has passed: the poll begins (R5). -/
def leadEnd (s : State) : State :=
  match s.plp.phase, s.plp.request with
  | .lead, some r =>
    { s with plp := { s.plp with phase := .sending, poll := pollChars r, pollNext := 1, pollAge := 0 } }
  | _, _ => s

/-- The PLP once the poll has been sent: LAG with the response timer started, or AWAIT at once where the
latched lag is 0 (R5, R9). -/
def Plp.pollSent (p : Plp) (l : LatchedParams) : Plp :=
  { p with
    phase := if l.lag = 0 then .await else .lag, poll := [], pollNext := 0, pollAge := 0,
    responseTimer := some l.timeout }

/-- The stop bit of the last poll character has been sent (R5); an abandoned poll sends no further
character (R18). -/
def pollSent (s : State) : State :=
  match s.plp.phase, s.plp.request, s.plp.latched with
  | .sending, some _, some l => { s with plp := s.plp.pollSent l }
  | _, _, _ => s

/-- The lag time has passed: DE falls, and the PLP waits for the response (R5), or an abandonment is
complete (R18). -/
def lagEnd (s : State) : State :=
  match s.plp.phase, s.plp.request with
  | .lag, some _ => { s with plp := { s.plp with phase := .await } }
  | .lag, none => finishAbandonment s
  | _, _ => s

/-! ## The decision (R15, R16) -/

/-- What a response delivers once its fields are complete (R16). -/
def goodResponse (sync : Polarity) (fields : List Byte) : Option GoodResponse :=
  (responseKindByte (byteAt fields 1)).map fun k =>
    { sync := sync, kind := k.1, check := k.2, sequence := (byteAt fields 2).toNat,
      payload := (fields.drop 4).take (byteAt fields 3).toNat }

/-- The outcome record of a decision other than the timer's expiry (R15, R16). -/
def Plp.decision (p : Plp) (r : Request) (jabbering : Bool) : OutcomeRecord :=
  if jabbering then { request := r, outcome := .jabber, response := none }
  else if p.faults ≠ [] then { request := r, outcome := .bad, response := none }
  else
    match p.sync.bind fun q => goodResponse q p.fields with
    | some g => { request := r, outcome := .good, response := some g }
    | none => { request := r, outcome := .bad, response := none }

/-- The outcome is decided and delivered (R15, R17). -/
def decideOutcome (jabbering : Bool) (s : State) : State :=
  match s.plp.request with
  | some r => deliver (s.plp.decision r jabbering) s
  | none => s

/-! ## Reception (R9, R11, R13, R14) -/

/-- A fault recorded in the fault list. -/
def Plp.addFault (p : Plp) (f : LineFault) : Plp :=
  if p.faults.contains f then p else { p with faults := p.faults ++ [f] }

/-- A fault recorded where it is found. -/
def Plp.addFaultIf (p : Plp) (found : Bool) (f : LineFault) : Plp :=
  if found then p.addFault f else p

/-- One more character received in the transaction, 0 to 41 (R14). -/
def Plp.countChar (p : Plp) : Plp := { p with count := satSucc Config.jabberCount p.count }

/-- A character in AWAIT: a sync character begins the response, any other is discarded (R9). -/
def Plp.awaitChar (p : Plp) (bits : LineBits) (framing : Bool) : Plp :=
  match syncPolarity bits framing with
  | some q => { p.countChar with phase := .receiving, responseTimer := none, sync := some q }
  | none => p.countChar

/-- The declared end, or the unreadable response, at the payload-length character (R11). -/
def Plp.fixEnd (p : Plp) : Plp :=
  match responseKindByte (byteAt p.fields 1) with
  | some k =>
    if (byteAt p.fields 3).toNat ≤ Config.maxResponsePayload then
      { p with declaredEnd := some (5 + (byteAt p.fields 3).toNat + checkLength k.2) }
    else p.addFault .unreadable
  | none => p.addFault .unreadable

/-- The received check differs from the check computed over the received fields (R8). -/
def checkFault (fields : List Byte) : Bool :=
  match responseKindByte (byteAt fields 1) with
  | some k =>
    let covered := fields.take (fields.length - checkLength k.2)
    fields.drop (fields.length - checkLength k.2) != checkBytes k.2 covered
  | none => false

/-- The address fault, at the source address (R15). -/
def Plp.addressFault (p : Plp) : Bool :=
  match p.request with
  | some r => p.fields.length == 1 && (byteAt p.fields 0).toNat != r.address
  | none => false

/-- The end of the response, if the character just taken was its last (R8, R13). -/
def Plp.closeResponse (p : Plp) : Plp :=
  if p.declaredEnd = some (p.fields.length + 1) then
    { p.addFaultIf (checkFault p.fields) .check with phase := .trailing }
  else p

/-- A character of the response, read in the sync polarity, with its parity and framing faults
(R1, R11). -/
def Plp.takeField (p : Plp) (bits : LineBits) (framing : Bool) : Plp :=
  let decoded := inPolarity (p.sync.getD .normal) bits
  let faulted :=
    (p.countChar.addFaultIf (oddOnes decoded) .parity).addFaultIf framing .framing
  { faulted with fields := p.fields ++ [dataOf decoded] }

/-- A character in RECEIVING (R8, R11, R13, R15). -/
def Plp.receiveChar (p : Plp) (bits : LineBits) (framing : Bool) : Plp :=
  let taken := p.takeField bits framing
  let placed := taken.addFaultIf taken.addressFault .address
  (if placed.fields.length = 4 then placed.fixEnd else placed).closeResponse

/-- A character received in full within the trailing watch (R13). -/
def Plp.trailChar (p : Plp) (bits : LineBits) (framing : Bool) : Plp :=
  let decoded := inPolarity (p.sync.getD .normal) bits
  ((p.countChar.addFaultIf (oddOnes decoded) .parity).addFaultIf framing .framing).addFault .length

/-- The PLP after a received character (R9, R11, R13, R20). -/
def Plp.takeChar (p : Plp) (bits : LineBits) (framing : Bool) : Plp :=
  match p.phase with
  | .await => p.awaitChar bits framing
  | .receiving => p.receiveChar bits framing
  | .trailing => p.trailChar bits framing
  | .idle | .lead | .sending | .lag => p

/-- The PLP counts received characters (section 1.4). -/
def PlpPhase.listening : PlpPhase → Bool
  | .await | .receiving | .trailing => true
  | .idle | .lead | .sending | .lag => false

/-- A received character: handled by PLP state; the 41st marks the transaction as jabbering and decides
the outcome at once (R14). -/
def takeCharacter (bits : LineBits) (framing : Bool) (s : State) : State :=
  let taken : State := { s with plp := s.plp.takeChar bits framing }
  if s.plp.phase.listening ∧ taken.plp.count = Config.jabberCount then decideOutcome true taken
  else taken

/-- The filter width in force: the latched one during a transaction, the held one between (R2, R4).  While an
abandonment lasts in SENDING or LAG the latched width stays in force until it completes: R18 goes on with the
latched lag time there, and the spec does not say the same of the width (DESIGN CHOICE, assumption 41). -/
def State.filterWidth (s : State) : Nat :=
  (s.plp.latched.map (·.glitchWidth)).getD s.lineParams.glitchWidth

/-- The PLP after its receiver has had a whole character on an idle line (R1). -/
def State.heard (framing : Bool) (s : State) : State :=
  { s with plp := { s.plp with receiver := .afterChar framing } }

/-- One sixteenth of the raw line: the receiver takes it, and a character that it completes is handled
(R1 to R3). -/
def hearLevel (s : State) (raw : Bool) : State :=
  let r := s.plp.receiver.step s.filterWidth s.de raw
  let heard : State := { s with plp := { s.plp with receiver := r.1 } }
  match r.2 with
  | some c => takeCharacter c.1 c.2 heard
  | none => heard

/-- CHARACTER_RECEIVED (R11).  Levels of the raw line are also the sixteenths in which a poll is sent
(R3). -/
def characterReceived (signal : LineSignal) (s : State) : State :=
  match signal with
  | .char bits framing => takeCharacter bits framing (s.heard framing)
  | .raw samples =>
    let t := samples.foldl hearLevel s
    { t with plp := t.plp.sendFor samples.length }

/-! ## The ends of the waits (R10, R12, R13) -/

/-- The response timer expires in LAG or AWAIT: MISS (R10). -/
def responseTimeout (s : State) : State :=
  match s.plp.request, s.plp.responseTimer, s.plp.phase with
  | some r, some _, .lag | some r, some _, .await =>
    deliver { request := r, outcome := .miss, response := none } s
  | _, _, _ => s

/-- A gap in RECEIVING above 3 character times ends the response short (R12). -/
def gapFault (s : State) : State :=
  if s.plp.phase = .receiving then
    decideOutcome false { s with plp := s.plp.addFault .gap }
  else s

/-- The end of the trailing watch (R13): a character is in progress where the event says so, or where the
receiver is in one. -/
def trailingWatchEnd (inProgress : Bool) (s : State) : State :=
  if s.plp.phase = .trailing then decideOutcome (inProgress || s.plp.receiver.inCharacter) s else s

/-! ## The meanings -/

/-- LINE_SELECT (R22). -/
def execLineSelect (s : State) : Host.Outcome State Fault Refusal := .next (awake select s)

/-- LEAD_END (R5). -/
def execLeadEnd (s : State) : Host.Outcome State Fault Refusal := .next (awake leadEnd s)

/-- POLL_SENT (R6). -/
def execPollSent (s : State) : Host.Outcome State Fault Refusal := .next (awake pollSent s)

/-- LAG_END (R5). -/
def execLagEnd (s : State) : Host.Outcome State Fault Refusal := .next (awake lagEnd s)

/-- CHARACTER_RECEIVED (R11). -/
def execCharacterReceived (signal : LineSignal) (s : State) : Host.Outcome State Fault Refusal :=
  .next (awake (characterReceived signal) s)

/-- RESPONSE_TIMEOUT (R10). -/
def execResponseTimeout (s : State) : Host.Outcome State Fault Refusal :=
  .next (awake responseTimeout s)

/-- GAP_FAULT (R12). -/
def execGapFault (s : State) : Host.Outcome State Fault Refusal := .next (awake gapFault s)

/-- TRAILING_WATCH_END (R13). -/
def execTrailingWatchEnd (inProgress : Bool) (s : State) : Host.Outcome State Fault Refusal :=
  .next (awake (trailingWatchEnd inProgress) s)

/-- ABANDONMENT_COMPLETE (R18). -/
def execAbandonmentComplete (s : State) : Host.Outcome State Fault Refusal :=
  .next (awake finishAbandonment s)

end Sys2Proof.Machine
end

