-- ==== Sys2Proof/Machine/Restarting.lean ====
section
/-! DEFINITION. Reset commands and power-on: what RESTART, LINE RESET and the RESET pin do in every block
(R18, R38, R39, R60, R61, R68, R92, R124, R140, R149, R165, R172 to R174, R179). -/

namespace Sys2Proof.Machine

/-! ## LINE RESET (R173) -/

/-- A probe slot at LINE RESET: the reading is kept (R61). -/
def ProbeRecord.lineReset (p : ProbeRecord) : ProbeRecord := { p with node := p.node.renew }

/-- An air point at LINE RESET: temperature and count are kept (R61). -/
def AirRecord.lineReset (a : AirRecord) : AirRecord := { a with node := a.node.renew }

/-- The Node Tables at LINE RESET (R61). -/
def NodeTables.lineReset (t : NodeTables) : NodeTables :=
  { t with
    probes := t.probes.map ProbeRecord.lineReset, airs := t.airs.map AirRecord.lineReset,
    health := .up, lineWindow := [] }

/-- The Line Arbiter at LINE RESET (R38). -/
def Arbiter.lineReset (l : Arbiter) (plp : Plp) (period : Nat) : Arbiter :=
  { l with
    condition := abandonCondition plp l.condition, sweeping := false, sweepPending := false,
    sweepTimer := period, retryWait := l.retryWait.map fun _ => false,
    probeSearch := l.probeSearch.map fun _ => .start,
    airSearch := l.airSearch.map fun _ => .start }

/-- LINE RESET takes effect (R173). -/
def lineResetEffect (s : State) : State :=
  { s with
    plp := s.plp.abandon, line := s.line.lineReset s.plp s.lineParams.sweepPeriod,
    nodes := s.nodes.lineReset, survey := s.survey.cut }

/-! ## RESTART (R172) -/

/-- A probe slot at RESTART (R60). -/
def ProbeRecord.restart (p : ProbeRecord) : ProbeRecord :=
  if p.node.address.isSome then { p with node := p.node.renew, reading := none } else p

/-- An air point at RESTART (R60). -/
def AirRecord.restart (a : AirRecord) : AirRecord :=
  if a.node.address.isSome then { a with node := a.node.renew, lastTemp := none, cycles := 255 }
  else a

/-- The Node Tables at RESTART (R60). -/
def NodeTables.restart (t : NodeTables) : NodeTables :=
  { t with
    probes := t.probes.map ProbeRecord.restart, airs := t.airs.map AirRecord.restart,
    health := .up, lineWindow := [] }

/-- The refresh timers at RESTART: restarted for every configured actuator, left stopped for the others
(R39). -/
def restartTimers (acts : List Actuator) (timers : List (Option Nat)) (interval : Nat) :
    List (Option Nat) :=
  (indexed 0 timers).map fun p =>
    match acts[p.1]? with
    | some a => if a.address.isSome then some interval else p.2
    | none => p.2

/-- The retry waits at RESTART: CLEAR for every configured actuator (R39). -/
def restartRetries (acts : List Actuator) (waits : List Bool) : List Bool :=
  (indexed 0 waits).map fun p =>
    match acts[p.1]? with
    | some a => if a.address.isSome then false else p.2
    | none => p.2

/-- The Line Arbiter at RESTART (R39). -/
def Arbiter.restart (l : Arbiter) (plp : Plp) (params : LineParams) (acts : List Actuator) :
    Arbiter :=
  { l with
    condition := abandonCondition plp l.condition, sweeping := false, sweepPending := false,
    sweepNumber := 0, sweepTimer := params.sweepPeriod, climateTimer := params.climateCycle,
    pollDue := l.pollDue.map fun _ => false,
    probeSearch := l.probeSearch.map fun _ => .start,
    airSearch := l.airSearch.map fun _ => .start,
    refreshTimers := restartTimers acts l.refreshTimers params.refresh,
    retryWait := restartRetries acts l.retryWait }

/-- The charge record at RESTART: IDLE, the charge number kept (R124). -/
def Charge.restart (c : Charge) : Charge := { Charge.powerOn with number := c.number }

/-- An Actuator Table entry at RESTART, before its commanded value is formed again (R149). -/
def Actuator.restart (a : Actuator) : Actuator :=
  { a with
    override := .none, acknowledged := none, echoed := none, state := .unseen, mismatches := 0,
    failed := 0, owed := 0 }

/-- The station address for a strapped value: 0 and 31 are taken as 30 (R151). -/
def stationOf (strap : Nat) : Nat :=
  if strap = 0 ∨ strap = Config.broadcast then Config.invalidStrapStation else strap

/-- STRAP_INVALID for a strapped value of 0 or 31 (R151). -/
def strapRaise (strap : Nat) : List Raise :=
  if strap = 0 ∨ strap = Config.broadcast then [(.strapInvalid, some strap)] else []

/-- Loop-out at RESTART: a frame that has begun to leave is sent whole, and holds no queue place
(R165). -/
def LoopOut.restart : LoopOut → LoopOut
  | .idle => .idle
  | .spacing => .spacing
  | .sending f _ => .sending f .none

/-- Loop-in at RESTART: a frame in reception, or its first character, is abandoned, and characters are
discarded until idle line (R165).  A loop-in that has seen the idle line and no character since stays ready
(DEDUCED, assumption 39). -/
def LoopIn.restart (rx : LoopRx) : LoopIn → LoopIn
  | .ready => if rx.inCharacter then .waiting else .ready
  | .waiting | .frame _ _ => .waiting

/-- The Plant Loop Port at RESTART (R151, R165). -/
def LoopPort.restart (p : LoopPort) : LoopPort :=
  { p with
    station := stationOf p.strap, repeatQueue := [], insertQueue := [], run := 0, reportCount := 0,
    reportGap := false, passGap := false, loopIn := p.loopIn.restart p.loopRx, out := p.out.restart }

/-- The Event Unit at RESTART: flags and pulse cleared, mask and selections kept (R179). -/
def EventUnit.restart (u : EventUnit) : EventUnit :=
  { u with flags := u.flags.map fun _ => { set := false, detail := none }, stepPulse := false }

/-- The Command Unit once RESTART has taken effect: the waiting COMMANDs are discarded (R172). -/
def CommandUnit.restart (_ : CommandUnit) : CommandUnit :=
  { current := none, restarting := false, waiting := [] }

/-- RESTART takes effect in every block at once; STRAP_INVALID is raised after the clearing (R172). -/
def restartEffect (s : State) : State :=
  raiseAll (strapRaise s.loop.strap)
    (formAll
      { s with
        plp := s.plp.abandon,
        line := s.line.restart s.plp s.lineParams s.outputs.entries,
        nodes := s.nodes.restart, survey := s.survey.cut,
        evaluator := { latest := none, history := [] },
        schedule := { s.schedule with charge := s.schedule.charge.restart },
        climate := s.climate.safeMode,
        outputs := { s.outputs with entries := s.outputs.entries.map Actuator.restart },
        loop := s.loop.restart, command := s.command.restart, events := s.events.restart })

/-- RESTART_EFFECT: the REPLY's last character has left loop-out (R172).  Loop-out then keeps its idle
time; with no RESTART in progress the event cannot come, and changes nothing. -/
def restartNow (s : State) : State :=
  if s.command.restarting then
    let sent : State :=
      match s.loop.out with
      | .sending _ .inserted =>
        if (s.loop.insertQueue.head?.map (·.restartReply)) = some true then
          { s with loop := { s.loop with out := .spacing } }
        else s
      | .sending _ _ | .idle | .spacing => s
    restartEffect sent
  else s

/-- RESTART_EFFECT (R172). -/
def execRestartEffect (s : State) : Host.Outcome State Fault Refusal := .next (awake restartNow s)

/-! ## The RESET pin (R174) -/

/-- RESET low: every block at its power-on values, nothing sent.  The straps are not sampled while RESET
is low, so what they gave stays until the release. -/
def resetLow (s : State) : State :=
  { State.reset with
    resetHeld := true, plp := { Plp.powerOn with rateHigh := s.plp.rateHigh },
    loop :=
      { LoopPort.powerOn with
        strap := s.loop.strap, station := s.loop.station, rateHigh := s.loop.rateHigh },
    pending := s.pending }

/-- RESET_ASSERT (R174). -/
def execResetAssert (s : State) : Host.Outcome State Fault Refusal := .next (resetLow s)

/-- RESET has returned high: the straps are sampled and every block starts from its power-on values
(R1, R151, R174).  `stn` is the strapped value, STN0 its least significant bit and a high strap a 1 (PRESUMED,
assumption 43). -/
def resetHigh (stn : BitVec 5) (prate lrate : Bool) (s : State) : State :=
  raiseAll (strapRaise stn.toNat)
    { State.reset with
      plp := { Plp.powerOn with rateHigh := prate },
      loop :=
        { LoopPort.powerOn with
          strap := stn.toNat, station := stationOf stn.toNat, rateHigh := lrate },
      pending := s.pending }

/-- RESET_RELEASE (R174); RESET returns high only from low. -/
def execResetRelease (stn : BitVec 5) (prate lrate : Bool) (s : State) :
    Host.Outcome State Fault Refusal :=
  .next (if s.resetHeld then resetHigh stn prate lrate s else s)

end Sys2Proof.Machine
end

