-- ==== Sys2Proof/Machine/PlantLoop.lean ====
section
/-! DEFINITION. The Plant Loop Port: frames on loop-in, the Repeat Queue, and the loop-out arbiter (R151 to
R159). -/

namespace Sys2Proof.Machine

/-! ## The frame on loop-in (R152, R154) -/

/-- The character count at which a frame ends: the declared end, or 127 when the length field is above
120 (R152). -/
def frameEnd (chars : List Byte) : Nat :=
  if (byteAt chars 3).toNat ≤ Config.maxLoopPayload then (byteAt chars 3).toNat + Config.minLoopFrame
  else Config.maxLoopFrame

/-- The characters of the frame: those up to its end (R152). -/
def frameChars (chars : List Byte) : List Byte :=
  if chars.length < 4 then chars else chars.take (frameEnd chars)

/-- A frame that is not a fragment (R152). -/
def isWhole (chars : List Byte) : Bool := decide (Config.minLoopFrame ≤ chars.length)

/-- The check of a frame fails: a character had a framing fault, or the CRC differs (R152, R185). -/
def checkFails (chars : List Byte) (framing : Bool) : Bool :=
  framing || chars.drop (chars.length - 2) != crcBytes (chars.take (chars.length - 2))

/-- The frame is bad (R154, step 2). -/
def isBad (chars : List Byte) (framing : Bool) : Bool :=
  checkFails chars framing || decide (chars.length < frameEnd chars) ||
    decide (Config.maxLoopPayload < (byteAt chars 3).toNat)

/-- The fields of a frame as received; the payload is what follows the header less the last two
characters, at most 120 (R155, R182). -/
def receivedFrame (chars : List Byte) : LoopFrame :=
  let status := byteAt chars 4
  { dest := byteAt chars 0, source := byteAt chars 1, kind := byteAt chars 2,
    edh := status.getLsbD 6, eda := status.getLsbD 5, hops := (status &&& 0x1F#8).toNat,
    payload := ((chars.drop 5).take (chars.length - 7)).take Config.maxLoopPayload }

/-- The marks of a good frame: an EDH mark moves to EDA (R154, step 3). -/
def LoopFrame.moveMarks (f : LoopFrame) : LoopFrame :=
  { f with edh := false, eda := f.edh || f.eda }

/-- The marks of a bad frame: EDH set, and EDA set if either was (R155). -/
def LoopFrame.markBad (f : LoopFrame) : LoopFrame := { f with edh := true, eda := f.edh || f.eda }

/-! ## Repeating and taking (R154 to R157) -/

/-- A frame to be repeated: discarded at hop count 31, otherwise one hop on at the end of the Repeat
Queue; LOOP_OVERRUN where that is full (R154, step 5; R157). -/
def repeatFrame (f : LoopFrame) (s : State) : State :=
  if Config.maxHops ≤ f.hops then s
  else if s.loop.repeatQueue.length < Config.repeatPlaces then
    { s with
      loop :=
        { s.loop with repeatQueue := s.loop.repeatQueue ++ [{ f with hops := f.hops + 1 }] } }
  else raise (.loopOverrun, none) s

/-- A COMMAND handed to the Command Unit: carried out next if none is being carried out, else it waits;
LOOP_OVERRUN where 4 are waiting (R156, R166). -/
def arrive (c : LoopCommand) (s : State) : State :=
  if s.command.current.isNone then { s with command := { s.command with current := some c } }
  else if s.command.waiting.length < Config.waitingPlaces then
    { s with command := { s.command with waiting := s.command.waiting ++ [c] } }
  else raise (.loopOverrun, none) s

/-- The frame names this station. -/
def LoopPort.names (p : LoopPort) (station : Byte) : Bool := station.toNat == p.station

/-- A good frame that is taken, with its marks as they moved (R156). -/
def takeFrame (f : LoopFrame) (s : State) : State :=
  if f.kind = kindCommand then
    if f.eda then (if s.loop.names f.dest then raise (.loopCheckError, none) s else s)
    else arrive { source := f.source, payload := f.payload } s
  else s

/-- A good frame, by its destination: taken by this station, taken and repeated to station 31, repeated
otherwise (R154, step 4). -/
def goodFrame (f : LoopFrame) (s : State) : State :=
  if s.loop.names f.dest then takeFrame f s
  else if f.dest.toNat = Config.broadcast then takeFrame f (repeatFrame f s)
  else repeatFrame f s

/-- A bad frame, by its destination as received (R155). -/
def badFrame (f : LoopFrame) (s : State) : State :=
  if s.loop.names f.dest then raise (.loopCheckError, none) s else repeatFrame f.markBad s

/-- A fragment (R152). -/
def fragment (chars : List Byte) (s : State) : State :=
  match chars with
  | [] => s
  | dest :: _ => if s.loop.names dest then raise (.loopCheckError, none) s else s

/-- A frame that has ended on loop-in (R152, R154). -/
def frameReceived (all : List Byte) (framing : Bool) (s : State) : State :=
  let chars := frameChars all
  if isWhole chars then
    let f := receivedFrame chars
    if s.loop.names f.source then s
    else if isBad chars framing then badFrame f s
    else goodFrame f.moveMarks s
  else fragment chars s

/-! ## Loop-in (R152, R165) -/

/-- A frame has ended by its character count (R152). -/
def frameEnded (chars : List Byte) : Bool :=
  decide (4 ≤ chars.length) && decide (frameEnd chars ≤ chars.length)

/-- Loop-in with these characters of a frame received, and the frame if it has ended: the wait for idle line
then begins (R152). -/
def LoopIn.join (chars : List Byte) (framing : Bool) : LoopIn × List (List Byte × Bool) :=
  if frameEnded chars then (.waiting, [(chars, framing)]) else (.frame chars framing, [])

/-- One character on loop-in (R152): discarded during the wait for idle line. -/
def LoopIn.char (framing : Bool) (b : Byte) : LoopIn → LoopIn × List (List Byte × Bool)
  | .waiting => (.waiting, [])
  | .ready => LoopIn.join [b] framing
  | .frame chars faulty => LoopIn.join (chars ++ [b]) (faulty || framing)

/-- More than 2 character times of idle line on loop-in: a frame in reception has ended (R152). -/
def LoopIn.idle : LoopIn → LoopIn × List (List Byte × Bool)
  | .frame chars framing => (.ready, [(chars, framing)])
  | .waiting | .ready => (.ready, [])

/-- Characters on loop-in, and the frames that end among them. -/
def LoopIn.take (framing : Bool) : List Byte → LoopIn → LoopIn × List (List Byte × Bool)
  | [], p => (p, [])
  | b :: rest, p =>
    let q := p.char framing b
    let r := LoopIn.take framing rest q.1
    (r.1, q.2 ++ r.2)

/-- What loop-in makes of characters and the idle line around them: its condition after, and the frames that
have ended (R152). -/
def LoopIn.hear (chars : List Byte) (framing : Bool) (how : LoopArrival) (p : LoopIn) :
    LoopIn × List (List Byte × Bool) :=
  let before := if how.idleBefore then p.idle else (p, [])
  let taken := LoopIn.take framing chars before.1
  let after := if how.idleAfter then taken.1.idle else (taken.1, [])
  (after.1, before.2 ++ taken.2 ++ after.2)

/-- One bit time of loop-in: the receiver, what it makes of the character or the idle line it has heard, and
the frame if one has ended (R152). -/
def LoopPort.hearBit (level : Bool) (p : LoopPort) : LoopPort × List (List Byte × Bool) :=
  let r := p.loopRx.step level
  let q :=
    match r.2 with
    | .nothing => (p.loopIn, [])
    | .idle => p.loopIn.idle
    | .char b framing => p.loopIn.char framing b
  ({ p with loopRx := r.1, loopIn := q.1 }, q.2)

/-- Bit times of loop-in, and the frames that end among them. -/
def LoopPort.hearBits : List Bool → LoopPort → LoopPort × List (List Byte × Bool)
  | [], p => (p, [])
  | level :: rest, p =>
    let q := p.hearBit level
    let r := LoopPort.hearBits rest q.1
    (r.1, q.2 ++ r.2)

/-- The bit times of the idle line that a row of levels speaks of (R152). -/
def idleLevels (present : Bool) : List Bool :=
  if present then List.replicate Config.loopIdleBits true else []

/-- What the Plant Loop Port makes of loop-in: the port after, and the frames that have ended (R152). -/
def LoopPort.hear (signal : LoopSignal) (how : LoopArrival) (p : LoopPort) :
    LoopPort × List (List Byte × Bool) :=
  match signal with
  | .chars chars framing =>
    let r := p.loopIn.hear chars framing how
    ({ p with loopIn := r.1, loopRx := p.loopRx.afterChars chars how }, r.2)
  | .bits levels => p.hearBits (idleLevels how.idleBefore ++ levels ++ idleLevels how.idleAfter)

/-- Characters arrive on loop-in, and each frame that ends is handled (R152, R154). -/
def loopHeard (signal : LoopSignal) (how : LoopArrival) (s : State) : State :=
  let r := s.loop.hear signal how
  r.2.foldl (fun t f => frameReceived f.1 f.2 t) { s with loop := r.1 }

/-! ## Loop-out (R159) -/

/-- A repeated frame handed to loop-out, with the repeat run after it. -/
def LoopPort.sendRepeated (p : LoopPort) (f : LoopFrame) (run : Nat) : LoopPort :=
  { p with out := .sending f .repeated, run := run }

/-- An inserted frame handed to loop-out. -/
def LoopPort.sendInserted (p : LoopPort) (f : LoopFrame) : LoopPort :=
  { p with out := .sending f .inserted, run := 0 }

/-- The loop-out arbiter's choice (R159). -/
def LoopPort.handOver (p : LoopPort) : LoopPort :=
  match p.repeatQueue, p.insertQueue with
  | f :: _, [] => p.sendRepeated f 0
  | f :: _, e :: _ =>
    if p.run < Config.repeatRun then p.sendRepeated f (p.run + 1) else p.sendInserted e.frame
  | [], e :: _ => p.sendInserted e.frame
  | [], [] => { p with out := .idle }

/-- A hand-over of loop-out, when it is idle or has kept its idle time (R152, R159). -/
def handOver (s : State) : State :=
  match s.loop.out with
  | .idle | .spacing => { s with loop := s.loop.handOver }
  | .sending _ _ => s

/-- The last character of a frame has left loop-out: the frame gives up its place, and the idle time
begins; when the frame was the REPLY to RESTART, RESTART takes effect (R152, R157, R158, R172). -/
def frameSent (s : State) : State :=
  match s.loop.out with
  | .sending _ .repeated =>
    { s with
      loop := { s.loop with out := .spacing, repeatQueue := s.loop.repeatQueue.drop 1 } }
  | .sending _ .inserted =>
    let sent : State :=
      { s with
        loop := { s.loop with out := .spacing, insertQueue := s.loop.insertQueue.drop 1 } }
    if (s.loop.insertQueue.head?.map (·.restartReply)) = some true then restartEffect sent else sent
  | .sending _ .none => { s with loop := { s.loop with out := .spacing } }
  | .idle | .spacing => s

/-! ## The meanings -/

/-- LOOP_FRAME_RECEIVED (R154). -/
def execLoopFrameReceived (signal : LoopSignal) (how : LoopArrival) (s : State) :
    Host.Outcome State Fault Refusal :=
  .next (awake (loopHeard signal how) s)

/-- LOOP_OUT_FRAME_SENT (R159). -/
def execLoopOutFrameSent (s : State) : Host.Outcome State Fault Refusal := .next (awake frameSent s)

/-- LOOP_OUT_HANDOVER (R159). -/
def execLoopOutHandover (s : State) : Host.Outcome State Fault Refusal := .next (awake handOver s)

end Sys2Proof.Machine
end

