-- ==== Sys2Proof/Machine/Timers.lean ====
section
/-! DEFINITION. The timers: minute tick, quarantines, fan timers, sweep, climate cycle and refresh timers,
the step pulse, and the second tick (R24, R25, R30, R32, R53, R103, R135, R136, R178). -/

namespace Sys2Proof.Machine

/-! ## The fan timers (R135, R136) -/

/-- The coast that a reversal timer expiry begins (R135). -/
def FanState.coast : FanState → Option FanState
  | .forward => some .coastR
  | .reverse => some .coastF
  | .stopped | .coastR | .coastF => none

/-- The direction a coast ends in (R135). -/
def FanState.afterCoast : FanState → Option FanState
  | .coastR => some .reverse
  | .coastF => some .forward
  | .stopped | .forward | .reverse => none

/-- A reversal timer expiry: the fans begin to coast, and the commanded values follow (R135, R136,
R145). -/
def reversalExpiry (s : State) : State :=
  match s.climate.fan.coast, s.climate.reversalTimer with
  | some next, some _ => formAll { s with climate := s.climate.startCoast next }
  | _, _ => s

/-- A coast timer expiry: the fans run in the opposite direction (R135, R136, R145). -/
def coastExpiry (s : State) : State :=
  match s.climate.fan.afterCoast, s.climate.coastTimer with
  | some next, some _ => formAll { s with climate := s.climate.endCoast next }
  | _, _ => s

/-- A minute tick on the reversal timer (R135). -/
def reversalMinute (s : State) : State :=
  match s.climate.reversalTimer with
  | some left =>
    if left ≤ 1 then reversalExpiry s
    else { s with climate := { s.climate with reversalTimer := some (left - 1) } }
  | none => s

/-! ## The minute tick -/

/-- Every quarantine at a minute tick (R53). -/
def quarantineMinute (s : State) : State := { s with nodes := s.nodes.quarantineTick }

/-- A minute tick: the Schedule Engine, then the quarantines, then the reversal timer (R53, R103,
R135).  The spec orders nothing among the three. -/
def minuteTick (s : State) : State := reversalMinute (quarantineMinute (scheduleMinute s))

/-- MINUTE_TICK (R103). -/
def execMinuteTick (s : State) : Host.Outcome State Fault Refusal := .next (awake minuteTick s)

/-- The end of the quarantine of a node number (R53, R54). -/
def quarantineEnd (node : Nat) (s : State) : State := { s with nodes := s.nodes.releaseNode node }

/-- QUARANTINE_END (R53). -/
def execQuarantineEnd (node : Fin 72) (s : State) : Host.Outcome State Fault Refusal :=
  .next (awake (quarantineEnd node.val) s)

/-- SWEEP_TIMER_EXPIRY (R25). -/
def execSweepTimerExpiry (s : State) : Host.Outcome State Fault Refusal :=
  .next (awake sweepExpiry s)

/-- CLIMATE_CYCLE_EXPIRY (R30). -/
def execClimateCycleExpiry (s : State) : Host.Outcome State Fault Refusal :=
  .next (awake climateExpiry s)

/-- REFRESH_TIMER_EXPIRY (R32). -/
def execRefreshTimerExpiry (index : Fin 12) (s : State) : Host.Outcome State Fault Refusal :=
  .next (awake (refreshExpiry index.val) s)

/-- REVERSAL_TIMER_EXPIRY (R135). -/
def execReversalTimerExpiry (s : State) : Host.Outcome State Fault Refusal :=
  .next (awake reversalExpiry s)

/-- COAST_TIMER_EXPIRY (R136). -/
def execCoastTimerExpiry (s : State) : Host.Outcome State Fault Refusal :=
  .next (awake coastExpiry s)

/-- The step pulse ends (R178). -/
def pulseEnd (s : State) : State := { s with events := { s.events with stepPulse := false } }

/-- STEP_PULSE_END (R178). -/
def execStepPulseEnd (s : State) : Host.Outcome State Fault Refusal := .next (awake pulseEnd s)

/-! ## The second tick (R24, R136) -/

/-- A second tick on one actuator's refresh timer (R24). -/
def refreshSecond (i : Nat) (s : State) : State :=
  match s.line.refreshTimers[i]? with
  | some (some left) =>
    if left ≤ 1 then refreshExpiry i s
    else
      { s with
        line :=
          { s.line with refreshTimers := s.line.refreshTimers.set i (some (left - 1)) } }
  | _ => s

/-- A second tick on the sweep timer (R24). -/
def sweepSecond (s : State) : State :=
  if s.line.sweepTimer ≤ 1 then sweepExpiry s
  else { s with line := { s.line with sweepTimer := s.line.sweepTimer - 1 } }

/-- A second tick on the coast timer (R136). -/
def coastSecond (s : State) : State :=
  match s.climate.coastTimer with
  | some left =>
    if left ≤ 1 then coastExpiry s
    else { s with climate := { s.climate with coastTimer := some (left - 1) } }
  | none => s

/-- A second tick on the climate cycle timer (R24). -/
def climateSecond (s : State) : State :=
  if s.line.climateTimer ≤ 1 then climateExpiry s
  else { s with line := { s.line with climateTimer := s.line.climateTimer - 1 } }

/-- A second tick: the refresh timers by index, the sweep timer, the coast timer, the climate cycle
timer.  The spec leaves the order among timers that expire at one tick open (R136, worked sequence of
chapter 2); this order is the model's (assumption 1). -/
def secondTick (s : State) : State :=
  climateSecond (coastSecond (sweepSecond
    ((List.range Config.actuatorEntries).foldl (fun s i => refreshSecond i s) s)))

end Sys2Proof.Machine
end

