-- ==== Sys2Proof/Machine/TableAccess.lean ====
section
/-! DEFINITION. What a command answers, and TABLE WRITE and TABLE READ (R40 to R44, R70, R97, R99, R126,
R137, R142, R164, R167 to R169). -/

namespace Sys2Proof.Machine

/-! ## Answers (R167) -/

/-- The reply statuses, in the order of section 7 of the overview (R182). -/
inductive ReplyStatus where
  | ok | adjusted | refusedBusy | refusedState | refusedInUse | badArgument | unknownCommand
  deriving DecidableEq, Repr

/-- Reply status code, OK 0 to UNKNOWN_COMMAND 6 (R182). -/
def statusCode : ReplyStatus → Byte
  | .ok => 0#8
  | .adjusted => 1#8
  | .refusedBusy => 2#8
  | .refusedState => 3#8
  | .refusedInUse => 4#8
  | .badArgument => 5#8
  | .unknownCommand => 6#8

/-- What carrying out a command gives: the reply's status and data, and the state after it. -/
structure Answer where
  status : ReplyStatus
  data : List Byte
  state : State
  deriving DecidableEq, Repr

/-- A refusal changes nothing (R167). -/
def Answer.refuse (status : ReplyStatus) (s : State) : Answer :=
  { status := status, data := [], state := s }

/-- A command carried out, answered OK (R167). -/
def Answer.ok (s : State) : Answer := { status := .ok, data := [], state := s }

/-- A command carried out, answered ADJUSTED when a value was clamped (R167). -/
def Answer.done (adjusted : Bool) (s : State) : Answer :=
  { status := if adjusted then .adjusted else .ok, data := [], state := s }

/-! ## Shared parts of table writes -/

/-- Written values put into a table, by index. -/
def putAll {α β : Type} (put : β → α → α) (values : List (Nat × β)) (table : List α) : List α :=
  values.foldl (fun t v => t.modify v.1 (put v.2)) table

/-- No number stands twice. -/
def allDistinct : List Nat → Bool
  | [] => true
  | a :: rest => !rest.contains a && allDistinct rest

/-- No two configured records of the three tables hold one line address (R41). -/
def uniqueAddresses (records : List (Nat × NodeKind)) : Bool :=
  allDistinct (records.map Prod.fst)

/-- The indices whose line address a write sets, changes or clears (R40). -/
def changedIndices {β : Type} (before : Nat → Option Nat) (after : β → Option Nat)
    (values : List (Nat × β)) : List Nat :=
  (values.filter fun v => before v.1 != after v.2).map Prod.fst

/-- The record of the transaction in flight is a probe slot among these (R45). -/
def State.probeInFlight (s : State) (slots : List Nat) : Bool :=
  match s.plp.request.map Request.owner with
  | some (.probe i) => slots.contains i
  | _ => false

/-- The record of the transaction in flight is an air point among these (R45). -/
def State.airInFlight (s : State) (indices : List Nat) : Bool :=
  match s.plp.request.map Request.owner with
  | some (.air i) => indices.contains i
  | _ => false

/-- The record of the transaction in flight is an actuator among these (R146). -/
def State.actuatorInFlight (s : State) (indices : List Nat) : Bool :=
  match s.plp.request.map Request.owner with
  | some (.actuator i) => indices.contains i
  | _ => false

/-- Search states returned to their start (R37, R40). -/
def restartSearches (indices : List Nat) (searches : List Search) : List Search :=
  indices.foldl (fun l i => l.set i .start) searches

/-- Marks cleared. -/
def clearMarks (indices : List Nat) (marks : List Bool) : List Bool :=
  indices.foldl (fun l i => l.set i false) marks

/-- The cleared supervision values of a written address: UNSEEN with one, EMPTY without (R40). -/
def NodeRecord.readdress (address : Option Nat) : NodeRecord :=
  .fresh (if address.isSome then .unseen else .empty) address

/-! ## PROBE (R40, R41, R45) -/

/-- A Probe Table slot after a write (R40). -/
def ProbeRecord.write (c : ProbeConfig) (p : ProbeRecord) : ProbeRecord :=
  if p.node.address = c.address then { p with group := c.group, zone := c.zone, incl := c.incl }
  else
    { node := .readdress c.address, group := c.group, zone := c.zone, incl := c.incl,
      reading := none }

/-- The line address of a Probe Table slot. -/
def State.probeAddress (s : State) (i : Nat) : Option Nat :=
  (s.nodes.probes[i]?).bind (·.node.address)

/-- The Probe Table after a write. -/
def State.probesWritten (s : State) (values : List (Nat × ProbeConfig)) : List ProbeRecord :=
  putAll ProbeRecord.write values s.nodes.probes

/-- An accepted write to the PROBE table (R37, R40, R45). -/
def writeProbes (values : List (Nat × ProbeConfig)) (s : State) : State :=
  let changed := changedIndices s.probeAddress (·.address) values
  { s with
    nodes :=
      { s.nodes with
        probes := s.probesWritten values,
        dropMark := s.nodes.dropMark || s.probeInFlight changed },
    line := { s.line with probeSearch := restartSearches changed s.line.probeSearch } }

/-- TABLE WRITE to the PROBE table, from the first index on (R40, R41, R168). -/
def probeWrite (args : List Byte) (s : State) : Answer :=
  match (writtenRecords Config.probeSlots 35 args).bind (judgeAll fun _ b => parseProbe b) with
  | none => .refuse .badArgument s
  | some (values, adjusted) =>
    if uniqueAddresses (configuredRecords (s.probesWritten values) s.nodes.airs s.outputs.entries)
    then .done adjusted (writeProbes values s)
    else .refuse .badArgument s

/-! ## AIRPOINT (R41, R42, R44, R45) -/

/-- An Air Point Table entry after a write (R42). -/
def AirRecord.write (c : AirConfig) (a : AirRecord) : AirRecord :=
  if a.node.address = c.address then { a with role := c.role, zone := c.zone }
  else
    { node := .readdress c.address, role := c.role, zone := c.zone, lastTemp := none,
      cycles := 255 }

/-- The line address of an Air Point Table entry. -/
def State.airAddress (s : State) (i : Nat) : Option Nat :=
  (s.nodes.airs[i]?).bind (·.node.address)

/-- The Air Point Table after a write. -/
def State.airsWritten (s : State) (values : List (Nat × AirConfig)) : List AirRecord :=
  putAll AirRecord.write values s.nodes.airs

/-- The zones of the configured ZONE_DB entries. -/
def zoneDbZones (airs : List AirRecord) : List Nat :=
  airs.filterMap fun a =>
    if a.node.address.isSome && a.role == .zoneDb then a.zone else none

/-- A written record takes the entry out of the WB points: no address, or a role other than WB
(R44). -/
def AirConfig.leavesWb (c : AirConfig) : Bool := c.address.isNone || c.role != .wb

/-- The WB selection after a write (R44). -/
def WbSelection.written (w : WbSelection) (values : List (Nat × AirConfig)) : WbSelection :=
  match w with
  | .default => .default
  | .explicit p q =>
    if values.any fun v => (v.1 == p || v.1 == q) && v.2.leavesWb then .default
    else .explicit p q

/-- An accepted write to the AIRPOINT table (R31, R37, R42, R44, R45). -/
def writeAirs (values : List (Nat × AirConfig)) (s : State) : State :=
  let changed := changedIndices s.airAddress (·.address) values
  { s with
    nodes :=
      { s.nodes with
        airs := s.airsWritten values, wb := s.nodes.wb.written values,
        dropMark := s.nodes.dropMark || s.airInFlight changed },
    line :=
      { s.line with
        airSearch := restartSearches changed s.line.airSearch,
        pollDue := clearMarks changed s.line.pollDue } }

/-- TABLE WRITE to the AIRPOINT table (R41, R42, R168). -/
def airWrite (args : List Byte) (s : State) : Answer :=
  match (writtenRecords Config.airEntries 20 args).bind (judgeAll fun _ b => parseAir b) with
  | none => .refuse .badArgument s
  | some (values, adjusted) =>
    if uniqueAddresses (configuredRecords s.nodes.probes (s.airsWritten values) s.outputs.entries)
        && allDistinct (zoneDbZones (s.airsWritten values))
    then .done adjusted (writeAirs values s)
    else .refuse .badArgument s

/-! ## ACTUATOR (R36, R41, R142, R146) -/

/-- The write changes the entry's function between a percent function and FAN (R142). -/
def Actuator.changesKind (a : Actuator) (c : ActuatorConfig) : Bool :=
  a.function.isFan != c.function.isFan

/-- An Actuator Table entry after a write, before its commanded value is formed again (R36, R142). -/
def Actuator.write (c : ActuatorConfig) (a : Actuator) : Actuator :=
  let stored : Actuator :=
    { a with address := c.address, function := c.function, safe := c.safe, override := c.override }
  if a.address ≠ c.address then
    { stored with
      acknowledged := none, echoed := none, state := .unseen, mismatches := 0, failed := 0,
      owed := 0 }
  else if a.address.isSome && a.changesKind c then
    { stored with acknowledged := none, echoed := none, mismatches := 0 }
  else stored

/-- The line address of an Actuator Table entry. -/
def State.actuatorAddress (s : State) (i : Nat) : Option Nat :=
  (s.outputs.entries[i]?).bind (·.address)

/-- The Actuator Table after a write. -/
def State.actuatorsWritten (s : State) (values : List (Nat × ActuatorConfig)) : List Actuator :=
  putAll Actuator.write values s.outputs.entries

/-- The refresh timers after a write: started or restarted for an address set or changed, stopped for
one removed (R36). -/
def writeTimers (s : State) (values : List (Nat × ActuatorConfig)) : List (Option Nat) :=
  values.foldl
    (fun l v =>
      if s.actuatorAddress v.1 = v.2.address then l
      else l.set v.1 (if v.2.address.isSome then some s.lineParams.refresh else none))
    s.line.refreshTimers

/-- The entries whose function a write changes between a percent function and FAN (R146). -/
def changedKinds (s : State) (values : List (Nat × ActuatorConfig)) : List Nat :=
  (values.filter fun v =>
    match s.outputs.entries[v.1]? with
    | some a => a.changesKind v.2
    | none => false).map Prod.fst

/-- An accepted write to the ACTUATOR table (R36, R142, R145, R146). -/
def writeActuators (values : List (Nat × ActuatorConfig)) (s : State) : State :=
  let changed := changedIndices s.actuatorAddress (·.address) values
  formAll
    { s with
      outputs :=
        { entries := s.actuatorsWritten values,
          dropMark := s.outputs.dropMark || s.actuatorInFlight changed,
          kindMark := s.outputs.kindMark || s.actuatorInFlight (changedKinds s values) },
      line :=
        { s.line with
          refreshTimers := writeTimers s values,
          retryWait := clearMarks changed s.line.retryWait } }

/-- A record judged against the entry it is written to (R142). -/
def judgeActuator (s : State) (i : Nat) (bytes : List Byte) : Option (ActuatorConfig × Bool) :=
  (s.outputs.entries[i]?).bind fun a => parseActuator a bytes

/-- TABLE WRITE to the ACTUATOR table (R41, R142, R168). -/
def actuatorWrite (args : List Byte) (s : State) : Answer :=
  match (writtenRecords Config.actuatorEntries 13 args).bind (judgeAll (judgeActuator s)) with
  | none => .refuse .badArgument s
  | some (values, adjusted) =>
    if uniqueAddresses
        (configuredRecords s.nodes.probes s.nodes.airs (s.actuatorsWritten values))
    then .done adjusted (writeActuators values s)
    else .refuse .badArgument s

/-! ## CALIBRATION (R70) -/

/-- TABLE WRITE to the CALIBRATION table (R70, R168). -/
def calibrationWrite (args : List Byte) (s : State) : Answer :=
  match (writtenRecords Config.speciesGroups 50 args).bind (judgeAll fun _ b => parseGroup b) with
  | none => .refuse .badArgument s
  | some (values, adjusted) =>
    .done adjusted { s with calibration := putAll (fun g _ => g) values s.calibration }

/-! ## SCHEDULE (R97) -/

/-- An accepted write of step records (R97). -/
def writeSteps (values : List (Nat × StepRecord)) (s : State) : State :=
  { s with
    schedule :=
      { s.schedule with steps := putAll (fun r _ => some r) values s.schedule.steps } }

/-- The command includes the current step of a charge that is active (R97). -/
def stepInUse (s : State) (values : List (Nat × StepRecord)) : Bool :=
  s.schedule.charge.state.active && (values.map Prod.fst).contains s.schedule.charge.step

/-- TABLE WRITE to the SCHEDULE table (R97, R98, R168). -/
def scheduleWrite (args : List Byte) (s : State) : Answer :=
  match (writtenRecords Config.scheduleSteps 15 args).bind (judgeAll fun _ b => parseStep b) with
  | none => .refuse .badArgument s
  | some (values, adjusted) =>
    if stepInUse s values then .refuse .refusedInUse s
    else .done adjusted (writeSteps values s)

/-! ## CHARGE_PARAMS (R84, R99) -/

/-- CHARGE_PARAMS after a write. -/
def ChargeParams.written (p : ChargeParams) (values : List (Nat × Nat)) : ChargeParams :=
  values.foldl (fun p v => p.set v.1 v.2) p

/-- A written step count is not above the current step of an active charge, or some step below it is
not loaded (R99). -/
def countInUse (e : Schedule) (values : List (Nat × Nat)) : Bool :=
  e.charge.state.active &&
    values.any fun v =>
      v.1 == 3 && !(decide (e.charge.step < v.2) && e.loadedBelow v.2)

/-- The counters bounded by the parameters held (R99). -/
def Charge.bounded (c : Charge) (p : ChargeParams) : Charge :=
  { c with confirmation := min p.c c.confirmation, blinds := min p.b c.blinds }

/-- An accepted write to CHARGE_PARAMS (R99). -/
def writeChargeParams (values : List (Nat × Nat)) (s : State) : State :=
  let p := s.schedule.params.written values
  { s with
    schedule := { s.schedule with params := p, charge := s.schedule.charge.bounded p } }

/-- A parameter clamped to its range (R84, R99). -/
def judgeChargeParam (i : Nat) (bytes : List Byte) : Option (Nat × Bool) :=
  some (clampField (chargeRange i).1 (chargeRange i).2 (paramValue bytes))

/-- TABLE WRITE to CHARGE_PARAMS (R84, R99, R168). -/
def chargeParamsWrite (args : List Byte) (s : State) : Answer :=
  match (writtenRecords 13 2 args).bind (judgeAll judgeChargeParam) with
  | none => .refuse .badArgument s
  | some (values, adjusted) =>
    if countInUse s.schedule values then .refuse .refusedInUse s
    else .done adjusted (writeChargeParams values s)

/-! ## CLIMATE_PARAMS (R126, R137) -/

/-- CLIMATE_PARAMS after a write. -/
def ClimateParams.written (p : ClimateParams) (values : List (Nat × Nat)) : ClimateParams :=
  values.foldl (fun p v => p.set v.1 v.2) p

/-- A write includes the reversal interval. -/
def writesReversal (values : List (Nat × Nat)) : Bool := values.any fun v => v.1 == 7

/-- The Climate Unit after an accepted write (R137). -/
def Climate.written (c : Climate) (values : List (Nat × Nat)) : Climate :=
  let p := c.params.written values
  { c with
    params := p,
    reversalTimer :=
      if writesReversal values then c.writeReversal p.reversal else c.reversalTimer }

/-- A parameter clamped to its range (R126). -/
def judgeClimateParam (i : Nat) (bytes : List Byte) : Option (Nat × Bool) :=
  some (climateClamp i (paramValue bytes), paramValue bytes != climateClamp i (paramValue bytes))

/-- TABLE WRITE to CLIMATE_PARAMS (R126, R137, R168). -/
def climateParamsWrite (args : List Byte) (s : State) : Answer :=
  match (writtenRecords 9 2 args).bind (judgeAll judgeClimateParam) with
  | none => .refuse .badArgument s
  | some (values, adjusted) =>
    .done adjusted { s with climate := s.climate.written values }

/-! ## LINE_PARAMS (R4, R24, R56) -/

/-- LINE_PARAMS after a write. -/
def LineParams.written (p : LineParams) (values : List (Nat × Nat)) : LineParams :=
  values.foldl (fun p v => p.set v.1 v.2) p

/-- A parameter judged (R4, R24, R56). -/
def judgeLineParam (i : Nat) (bytes : List Byte) : Option (Nat × Bool) :=
  parseLineParam i (paramValue bytes)

/-- TABLE WRITE to LINE_PARAMS: stored at once, for the next transaction, timer start, quarantine or
outcome (R4, R24, R56, R168). -/
def lineParamsWrite (args : List Byte) (s : State) : Answer :=
  match (writtenRecords 10 2 args).bind (judgeAll judgeLineParam) with
  | none => .refuse .badArgument s
  | some (values, adjusted) =>
    .done adjusted { s with lineParams := s.lineParams.written values }

/-! ## PASS_LIST (R164) -/

/-- TABLE WRITE to PASS_LIST (R164, R168). -/
def passListWrite (args : List Byte) (s : State) : Answer :=
  match (writtenRecords Config.passEntries 2 args).bind (judgeAll fun _ b => parsePass b) with
  | none => .refuse .badArgument s
  | some (values, adjusted) =>
    .done adjusted
      { s with loop := { s.loop with passList := putAll (fun e _ => e) values s.loop.passList } }

/-! ## TABLE WRITE (R168) -/

/-- The write of a writable table, by table code (section 11.2, R180). -/
def tableWriteOf (table : Nat) : Option (List Byte → State → Answer) :=
  match table with
  | 0 => some probeWrite
  | 1 => some airWrite
  | 2 => some actuatorWrite
  | 3 => some calibrationWrite
  | 4 => some scheduleWrite
  | 5 => some chargeParamsWrite
  | 6 => some climateParamsWrite
  | 7 => some lineParamsWrite
  | 8 => some passListWrite
  | _ => none

/-- TABLE WRITE, from the table code on: a read-only table, or a code that names no table, is refused
(R168). -/
def tableWrite (args : List Byte) (s : State) : Answer :=
  match args with
  | [] => .refuse .badArgument s
  | table :: rest =>
    match tableWriteOf table.toNat with
    | some write => write rest s
    | none => .refuse .badArgument s

/-! ## TABLE READ (R169, R183) -/

/-- The history record of an index, counted from the oldest; absent beyond those held (R95). -/
def historyBytes (history : List EvalRecord) (i : Nat) : List Byte :=
  ((history[i]?).map evalBytes).getD (absentRecord 37)

/-- A table's record size and its records in index order (section 11.2, R183). -/
def tableRecords (table : Nat) (s : State) : Option (Nat × List (List Byte)) :=
  match table with
  | 0 => some (35, s.nodes.probes.map probeBytes)
  | 1 => some (20, s.nodes.airs.map airBytes)
  | 2 => some (13, s.outputs.entries.map actuatorBytes)
  | 3 => some (50, s.calibration.map groupBytes)
  | 4 => some (15, s.schedule.steps.map fun r => (r.map stepBytes).getD (absentRecord 15))
  | 5 => some (2, s.schedule.params.values.map opt16)
  | 6 => some (2, s.climate.params.values.map le16)
  | 7 => some (2, s.lineParams.values.map le16)
  | 8 => some (2, s.loop.passList.map passBytes)
  | 9 => some (17, s.nodes.probes.map fun p => readingField p.reading)
  | 10 => some (37, (List.range Config.historyLength).map (historyBytes s.evaluator.history))
  | 11 => some (3, s.survey.map.map mapBytes)
  | 12 => some (2, s.events.flags.map flagBytes)
  | _ => none

/-- The records that fit in one REPLY: what is left of 120 characters after the command kind, tag, status,
table, first index and number of records (R153, R169, R182). -/
def recordsFit (size : Nat) : Nat := (Config.maxLoopPayload - 6) / size

/-- TABLE READ: as many whole records of the range as fit; ADJUSTED where some do not (R169).  R182 gives the
REPLY of a TABLE READ its table, first index and number of records and does not say whether a refused one
carries them; that a refused one carries no data is the model's choice (DESIGN CHOICE, assumption 40). -/
def tableRead (args : List Byte) (s : State) : Answer :=
  match args with
  | table :: first :: count :: _ =>
    match tableRecords table.toNat s with
    | none => .refuse .badArgument s
    | some (size, records) =>
      if count.toNat = 0 ∨ records.length < first.toNat + count.toNat then .refuse .badArgument s
      else
        let n := min count.toNat (recordsFit size)
        { status := if n < count.toNat then .adjusted else .ok,
          data :=
            [table, first, byte n] ++ ((records.drop first.toNat).take n).flatten,
          state := s }
  | _ => .refuse .badArgument s

end Sys2Proof.Machine
end

