-- ==== Sys2Proof/Machine/ChargeCommands.lean ====
section
/-! DEFINITION. What the commands other than TABLE WRITE and TABLE READ do: the charge, overrides, the WB
selection, the survey, reports, events and STATUS lines (R43, R62, R67, R101, R102, R112 to R116, R120,
R144, R170 to R173, R176 to R178). -/

namespace Sys2Proof.Machine

/-- The machine with another charge record. -/
def State.withCharge (s : State) (c : Charge) : State :=
  { s with schedule := { s.schedule with charge := c } }

/-! ## READ STATUS (R171) -/

/-- READ STATUS always replies OK and changes nothing (R171). -/
def readStatus (s : State) : Answer := { status := .ok, data := statusBlock s, state := s }

/-! ## START CHARGE (R101, R102, R129) -/

/-- START CHARGE is accepted (R101). -/
def canStart (e : Schedule) : Bool :=
  (e.charge.state == .idle || e.charge.state == .complete) && e.consistent

/-- An accepted START CHARGE: the charge record, the emptied history, the fans and the demands (R92, R102,
R129, R145). -/
def beginCharge (s : State) : State :=
  formAll
    { s with
      schedule := s.schedule.startCharge s.nodes.freshZones,
      evaluator := { s.evaluator with history := [] },
      climate := s.climate.startCharge s.nodes }

/-- START CHARGE (R101, R102). -/
def startCharge (s : State) : Answer :=
  if canStart s.schedule then .ok (beginCharge s) else .refuse .refusedState s

/-! ## HOLD and RESUME (R112, R113) -/

/-- Entry into HOLD by the operator from the state it returns to (R112). -/
def Charge.holdFrom (c : Charge) (from_ : ReturnState) : Charge :=
  { c with
    state := .hold, returnState := some from_, causes := { operator := true, blind := false } }

/-- HOLD_ENTERED with the current step, and the charge held (R112). -/
def enterHold (from_ : ReturnState) (s : State) : State :=
  raise (.holdEntered, some s.schedule.charge.step)
    (s.withCharge (s.schedule.charge.holdFrom from_))

/-- HOLD (R112). -/
def hold (s : State) : Answer :=
  match s.schedule.charge.state with
  | .warmup => .ok (enterHold .warmup s)
  | .running => .ok (enterHold .running s)
  | .hold =>
    .ok
      (s.withCharge
        { s.schedule.charge with causes := { s.schedule.charge.causes with operator := true } })
  | .idle | .cooldown | .complete => .refuse .refusedState s

/-- The charge without the operator's hold (R113). -/
def Charge.resume (c : Charge) : Charge :=
  Charge.returnIfFree { c with causes := { c.causes with operator := false } }

/-- RESUME (R113). -/
def resume (s : State) : Answer :=
  if s.schedule.charge.state = .hold ∧ s.schedule.charge.causes.operator = true then
    .ok (s.withCharge s.schedule.charge.resume)
  else .refuse .refusedState s

/-! ## ADVANCE and SET STEP (R114, R115) -/

/-- The operator's step ends the warm-up: a return state WARMUP becomes RUNNING (R114, R115). -/
def Charge.endWarmup (c : Charge) : Charge :=
  { c with returnState := if c.returnState = some .warmup then some .running else c.returnState }

/-- ADVANCE (R114). -/
def advance (s : State) : Answer :=
  match s.schedule.charge.state with
  | .running | .hold => .ok (transition (s.withCharge s.schedule.charge.endWarmup))
  | .idle | .warmup | .cooldown | .complete => .refuse .refusedState s

/-- The step is below the step count (R115). -/
def Schedule.holdsStep (e : Schedule) (k : Nat) : Bool :=
  match e.params.stepCount with
  | some n => decide (k < n)
  | none => false

/-- An accepted SET STEP (R115, R118). -/
def takeStep (k : Nat) (s : State) : State :=
  let left : State := s.withCharge s.schedule.charge.endWarmup
  raise (.stepChanged, some k)
    (startPulse { left with schedule := left.schedule.leave.goTo k })

/-- SET STEP; the table of R115 decides: the state is judged before the step. -/
def setStep (args : List Byte) (s : State) : Answer :=
  match args with
  | [] => .refuse .badArgument s
  | k :: _ =>
    if s.schedule.charge.state ≠ .hold then .refuse .refusedState s
    else if s.schedule.holdsStep k.toNat then .ok (takeStep k.toNat s)
    else .refuse .badArgument s

/-! ## ABORT CHARGE (R120) -/

/-- ABORT CHARGE (R120). -/
def abortCharge (s : State) : Answer :=
  match s.schedule.charge.state with
  | .warmup | .running | .hold => .ok (enterCooldown .aborted s)
  | .cooldown => .ok (completeCharge (some .aborted) s)
  | .idle | .complete => .refuse .refusedState s

/-! ## STEP AMEND (R116) -/

/-- The index is the current step of an active charge (R116). -/
def amendsCurrent (s : State) (i : Nat) : Bool :=
  s.schedule.charge.state.active && i == s.schedule.charge.step

/-- A judged STEP AMEND (R116). -/
def amend (i : Nat) (r : StepRecord) (adjusted : Bool) (s : State) : Answer :=
  if amendsCurrent s i then
    if s.schedule.charge.amendment.isSome then .refuse .refusedBusy s
    else .done adjusted (s.withCharge { s.schedule.charge with amendment := some (i, r) })
  else .done adjusted (writeSteps [(i, r)] s)

/-- STEP AMEND (R116): a step index and a step record of 15 bytes. -/
def stepAmend (args : List Byte) (s : State) : Answer :=
  match args with
  | [] => .refuse .badArgument s
  | i :: record =>
    if record.length < 15 ∨ Config.scheduleSteps ≤ i.toNat then .refuse .badArgument s
    else
      match parseStep record with
      | some (r, adjusted) => amend i.toNat r adjusted s
      | none => .refuse .badArgument s

/-! ## OVERRIDE (R144) -/

/-- An accepted override, and every commanded value formed again (R144, R145). -/
def setOverride (i : Nat) (o : Override) (s : State) : State :=
  formAll
    { s with
      outputs :=
        { s.outputs with entries := s.outputs.entries.modify i fun a => { a with override := o } } }

/-- OVERRIDE (R144). -/
def overrideCommand (args : List Byte) (s : State) : Answer :=
  match args with
  | i :: mode :: value :: _ =>
    match (s.outputs.entries[i.toNat]?).bind fun a => parseOverride a.function mode value with
    | some (o, adjusted) => .done adjusted (setOverride i.toNat o s)
    | none => .refuse .badArgument s
  | _ => .refuse .badArgument s

/-! ## WB SELECT (R43) -/

/-- The entry of an index is configured with role WB (R43). -/
def NodeTables.wbAt (t : NodeTables) (i : Nat) : Bool :=
  match t.airs[i]? with
  | some a => a.isWb
  | none => false

/-- The machine with another WB selection. -/
def State.withWb (s : State) (w : WbSelection) : State :=
  { s with nodes := { s.nodes with wb := w } }

/-- WB SELECT (R43). -/
def wbSelect (args : List Byte) (s : State) : Answer :=
  match args with
  | p :: q :: _ =>
    if s.nodes.wbAt p.toNat && s.nodes.wbAt q.toNat then
      if p = q then .done true (s.withWb .default)
      else .ok (s.withWb (.explicit p.toNat q.toNat))
    else .refuse .badArgument s
  | _ => .refuse .badArgument s

/-! ## SURVEY START and SURVEY ABORT (R62, R67) -/

/-- SURVEY START (R62). -/
def surveyStart (s : State) : Answer :=
  if s.survey.condition = .idle then .ok { s with survey := s.survey.start }
  else .refuse .refusedBusy s

/-- A running survey told to stop (R67). -/
def Survey.stop (v : Survey) : Survey :=
  match v.inFlight with
  | none => v.end
  | some _ => { v with condition := .stopping, next := none }

/-- SURVEY ABORT (R67). -/
def surveyAbort (s : State) : Answer :=
  match s.survey.condition with
  | .idle => .refuse .refusedState s
  | .running => .ok { s with survey := s.survey.stop }
  | .stopping => .ok s

/-! ## LINE RESET (R173) -/

/-- LINE RESET takes effect, and its REPLY is offered after that (R173). -/
def lineReset (s : State) : Answer := .ok (lineResetEffect s)

/-! ## Events and STATUS lines (R176 to R178) -/

/-- Every event of the set cleared (R177). -/
def EventUnit.clear (u : EventUnit) (set : BitVec 25) : EventUnit :=
  { u with
    flags := (indexed 0 u.flags).map fun p =>
      if set.getLsbD p.1 then { set := false, detail := none } else p.2 }

/-- CLEAR EVENTS (R177). -/
def clearEvents (args : List Byte) (s : State) : Answer :=
  match parseEventSet args with
  | some set => .ok { s with events := s.events.clear set }
  | none => .refuse .badArgument s

/-- SET EVENT MASK (R176). -/
def setEventMask (args : List Byte) (s : State) : Answer :=
  match parseEventSet args with
  | some set => .ok { s with events := { s.events with mask := set } }
  | none => .refuse .badArgument s

/-- The four sources, where each code names one (R178). -/
def parseSources (args : List Byte) : Option (List StatusSource) :=
  match args with
  | a :: b :: c :: d :: _ =>
    match statusSourceOf a, statusSourceOf b, statusSourceOf c, statusSourceOf d with
    | some a, some b, some c, some d => some [a, b, c, d]
    | _, _, _, _ => none
  | _ => none

/-- SET STATUS LINES (R178). -/
def setStatusLines (args : List Byte) (s : State) : Answer :=
  match parseSources args with
  | some l => .ok { s with events := { s.events with sources := l } }
  | none => .refuse .badArgument s

/-! ## SET REPORT MODE (R170) -/

/-- SET REPORT MODE (R170). -/
def setReportMode (args : List Byte) (s : State) : Answer :=
  match args with
  | mode :: n :: _ =>
    match reportModeOf mode with
    | some m => .ok { s with loop := { s.loop with mode := m, interval := n.toNat } }
    | none => .refuse .badArgument s
  | _ => .refuse .badArgument s

end Sys2Proof.Machine
end

