-- ==== Sys2Proof/Machine/CommandUnit.lean ====
section
/-! DEFINITION. The Command Unit: whose turn it is, carrying a COMMAND out, and its REPLY (R156, R158, R166,
R167, R172, R182).  A command row stands for the Command Unit carrying that COMMAND out when its turn has
come, and for the COMMAND's arrival when it has not (assumption 4). -/

namespace Sys2Proof.Machine

/-! ## Turns (R156, R166) -/

/-- The Command Unit once the COMMAND it carries out is done: the oldest waiting one is next (R166). -/
def CommandUnit.next (u : CommandUnit) : CommandUnit :=
  { u with current := u.waiting.head?, waiting := u.waiting.drop 1 }

/-- It is this COMMAND's turn: no RESTART is waiting to take effect, and no other COMMAND is being
carried out (R166, R172). -/
def CommandUnit.turnOf (u : CommandUnit) (c : LoopCommand) : Bool :=
  !u.restarting && (u.current.isNone || u.current == some c)

/-- A command row: carried out if its turn has come, otherwise it arrives and waits (R156, R166); while
RESET is low it is not received (R174). -/
def commandRow (c : LoopCommand) (carry : State → State) (s : State) : State :=
  if s.resetHeld then s
  else if s.command.turnOf c then carry s
  else arrive c s

/-! ## The REPLY (R158, R166, R182) -/

/-- The payload of a REPLY: kind and tag as received, the status, the data (R182). -/
def replyPayload (kind tag : Byte) (a : Answer) : List Byte :=
  [kind, tag, statusCode a.status] ++ a.data

/-- The REPLY of a command, to its source station (R153, R166). -/
def replyFrame (source kind tag : Byte) (a : Answer) : LoopFrame :=
  a.state.loop.originate source kindReply (replyPayload kind tag a)

/-- A command has been carried out: its REPLY is offered, and the next COMMAND's turn comes (R158,
R166). -/
def finish (source kind tag : Byte) (a : Answer) : State :=
  { a.state with
    loop := a.state.loop.offer (replyFrame source kind tag a) false,
    command := a.state.command.next }

/-- RESTART is taken: its REPLY is offered, and RESTART takes effect when that has left loop-out, or at
once where the REPLY cannot enter (R158, R172). -/
def takeRestart (c : LoopCommand) (source kind tag : Byte) (s : State) : State :=
  if s.loop.roomForReply then
    { s with
      loop := s.loop.insert (replyFrame source kind tag (.ok s)) true,
      command := { s.command with current := some c, restarting := true } }
  else restartEffect s

/-! ## Command kinds (R166, R182) -/

/-- The commands whose answer is worked out at once, by command kind: all but RESTART (R166). -/
def answerOf (kind : Nat) : Option (List Byte → State → Answer) :=
  match kind with
  | 0 => some fun _ s => readStatus s
  | 1 => some tableWrite
  | 2 => some tableRead
  | 3 => some fun _ s => startCharge s
  | 4 => some fun _ s => hold s
  | 5 => some fun _ s => resume s
  | 6 => some fun _ s => advance s
  | 7 => some setStep
  | 8 => some fun _ s => abortCharge s
  | 9 => some stepAmend
  | 10 => some overrideCommand
  | 11 => some wbSelect
  | 12 => some fun _ s => surveyStart s
  | 13 => some fun _ s => surveyAbort s
  | 14 => some fun _ s => lineReset s
  | 16 => some clearEvents
  | 17 => some setEventMask
  | 18 => some setReportMode
  | 19 => some setStatusLines
  | _ => none

/-- The kind byte of RESTART (R166). -/
def restartKind : Byte := 15#8

/-- A COMMAND carried out from its payload: a payload shorter than 2 bytes, or a kind that names no
command, is answered UNKNOWN_COMMAND (R167, R182). -/
def carryOut (c : LoopCommand) (s : State) : State :=
  match c.payload with
  | [] => finish c.source 0#8 0#8 (.refuse .unknownCommand s)
  | [kind] => finish c.source kind 0#8 (.refuse .unknownCommand s)
  | kind :: tag :: args =>
    if kind = restartKind then takeRestart c c.source kind tag s
    else
      match answerOf kind.toNat with
      | some answer => finish c.source kind tag (answer args s)
      | none => finish c.source kind tag (.refuse .unknownCommand s)

/-- The COMMAND being carried out is carried out to its end (R166); nothing while RESTART waits to take
effect (R172). -/
def carryCurrent (s : State) : State :=
  match s.command.current with
  | some c => if s.command.restarting then s else carryOut c s
  | none => s

/-! ## Named command rows -/

/-- The COMMAND of a named row: kind, tag, then the arguments (R182). -/
def namedCommand (src kind tag : Byte) (args : List Byte) : LoopCommand :=
  { source := src, payload := kind :: tag :: args }

/-- A named command row with its answer. -/
def namedRow (src kind tag : Byte) (args : List Byte) (answer : State → Answer) (s : State) : State :=
  commandRow (namedCommand src kind tag args) (fun s => finish src kind tag (answer s)) s

/-- READ_STATUS (R171). -/
def execReadStatus (src tag : Byte) (args : List Byte) (s : State) :
    Host.Outcome State Fault Refusal :=
  .next (namedRow src 0#8 tag args readStatus s)

/-- TABLE_WRITE (R168): the bytes from the table code on. -/
def execTableWrite (src tag : Byte) (args : List Byte) (s : State) :
    Host.Outcome State Fault Refusal :=
  .next (namedRow src 1#8 tag args (tableWrite args) s)

/-- TABLE_WRITE_PROBE (R40): the bytes after the table code. -/
def execTableWriteProbe (src tag : Byte) (args : List Byte) (s : State) :
    Host.Outcome State Fault Refusal :=
  .next (namedRow src 1#8 tag (0#8 :: args) (probeWrite args) s)

/-- TABLE_WRITE_AIRPOINT (R42). -/
def execTableWriteAirpoint (src tag : Byte) (args : List Byte) (s : State) :
    Host.Outcome State Fault Refusal :=
  .next (namedRow src 1#8 tag (1#8 :: args) (airWrite args) s)

/-- TABLE_WRITE_ACTUATOR (R142). -/
def execTableWriteActuator (src tag : Byte) (args : List Byte) (s : State) :
    Host.Outcome State Fault Refusal :=
  .next (namedRow src 1#8 tag (2#8 :: args) (actuatorWrite args) s)

/-- TABLE_WRITE_CALIBRATION (R70). -/
def execTableWriteCalibration (src tag : Byte) (args : List Byte) (s : State) :
    Host.Outcome State Fault Refusal :=
  .next (namedRow src 1#8 tag (3#8 :: args) (calibrationWrite args) s)

/-- TABLE_WRITE_SCHEDULE (R97). -/
def execTableWriteSchedule (src tag : Byte) (args : List Byte) (s : State) :
    Host.Outcome State Fault Refusal :=
  .next (namedRow src 1#8 tag (4#8 :: args) (scheduleWrite args) s)

/-- TABLE_WRITE_CHARGE_PARAMS (R99). -/
def execTableWriteChargeParams (src tag : Byte) (args : List Byte) (s : State) :
    Host.Outcome State Fault Refusal :=
  .next (namedRow src 1#8 tag (5#8 :: args) (chargeParamsWrite args) s)

/-- TABLE_WRITE_CLIMATE_PARAMS (R126). -/
def execTableWriteClimateParams (src tag : Byte) (args : List Byte) (s : State) :
    Host.Outcome State Fault Refusal :=
  .next (namedRow src 1#8 tag (6#8 :: args) (climateParamsWrite args) s)

/-- TABLE_WRITE_LINE_PARAMS (R4). -/
def execTableWriteLineParams (src tag : Byte) (args : List Byte) (s : State) :
    Host.Outcome State Fault Refusal :=
  .next (namedRow src 1#8 tag (7#8 :: args) (lineParamsWrite args) s)

/-- TABLE_WRITE_PASS_LIST (R164). -/
def execTableWritePassList (src tag : Byte) (args : List Byte) (s : State) :
    Host.Outcome State Fault Refusal :=
  .next (namedRow src 1#8 tag (8#8 :: args) (passListWrite args) s)

/-- TABLE_READ (R169). -/
def execTableRead (src tag : Byte) (args : List Byte) (s : State) :
    Host.Outcome State Fault Refusal :=
  .next (namedRow src 2#8 tag args (tableRead args) s)

/-- START_CHARGE (R102). -/
def execStartCharge (src tag : Byte) (args : List Byte) (s : State) :
    Host.Outcome State Fault Refusal :=
  .next (namedRow src 3#8 tag args startCharge s)

/-- HOLD (R112). -/
def execHold (src tag : Byte) (args : List Byte) (s : State) : Host.Outcome State Fault Refusal :=
  .next (namedRow src 4#8 tag args hold s)

/-- RESUME (R113). -/
def execResume (src tag : Byte) (args : List Byte) (s : State) : Host.Outcome State Fault Refusal :=
  .next (namedRow src 5#8 tag args resume s)

/-- ADVANCE (R114). -/
def execAdvance (src tag : Byte) (args : List Byte) (s : State) : Host.Outcome State Fault Refusal :=
  .next (namedRow src 6#8 tag args advance s)

/-- SET_STEP (R115). -/
def execSetStep (src tag : Byte) (args : List Byte) (s : State) : Host.Outcome State Fault Refusal :=
  .next (namedRow src 7#8 tag args (setStep args) s)

/-- ABORT_CHARGE (R120). -/
def execAbortCharge (src tag : Byte) (args : List Byte) (s : State) :
    Host.Outcome State Fault Refusal :=
  .next (namedRow src 8#8 tag args abortCharge s)

/-- STEP_AMEND (R116). -/
def execStepAmend (src tag : Byte) (args : List Byte) (s : State) :
    Host.Outcome State Fault Refusal :=
  .next (namedRow src 9#8 tag args (stepAmend args) s)

/-- OVERRIDE (R144). -/
def execOverride (src tag : Byte) (args : List Byte) (s : State) :
    Host.Outcome State Fault Refusal :=
  .next (namedRow src 10#8 tag args (overrideCommand args) s)

/-- WB_SELECT (R43). -/
def execWbSelect (src tag : Byte) (args : List Byte) (s : State) :
    Host.Outcome State Fault Refusal :=
  .next (namedRow src 11#8 tag args (wbSelect args) s)

/-- SURVEY_START (R62). -/
def execSurveyStart (src tag : Byte) (args : List Byte) (s : State) :
    Host.Outcome State Fault Refusal :=
  .next (namedRow src 12#8 tag args surveyStart s)

/-- SURVEY_ABORT (R67). -/
def execSurveyAbort (src tag : Byte) (args : List Byte) (s : State) :
    Host.Outcome State Fault Refusal :=
  .next (namedRow src 13#8 tag args surveyAbort s)

/-- LINE_RESET (R173). -/
def execLineReset (src tag : Byte) (args : List Byte) (s : State) :
    Host.Outcome State Fault Refusal :=
  .next (namedRow src 14#8 tag args lineReset s)

/-- RESTART (R172). -/
def execRestart (src tag : Byte) (args : List Byte) (s : State) : Host.Outcome State Fault Refusal :=
  .next
    (commandRow (namedCommand src restartKind tag args)
      (takeRestart (namedCommand src restartKind tag args) src restartKind tag) s)

/-- CLEAR_EVENTS (R177). -/
def execClearEvents (src tag : Byte) (args : List Byte) (s : State) :
    Host.Outcome State Fault Refusal :=
  .next (namedRow src 16#8 tag args (clearEvents args) s)

/-- SET_EVENT_MASK (R176). -/
def execSetEventMask (src tag : Byte) (args : List Byte) (s : State) :
    Host.Outcome State Fault Refusal :=
  .next (namedRow src 17#8 tag args (setEventMask args) s)

/-- SET_REPORT_MODE (R170). -/
def execSetReportMode (src tag : Byte) (args : List Byte) (s : State) :
    Host.Outcome State Fault Refusal :=
  .next (namedRow src 18#8 tag args (setReportMode args) s)

/-- SET_STATUS_LINES (R178). -/
def execSetStatusLines (src tag : Byte) (args : List Byte) (s : State) :
    Host.Outcome State Fault Refusal :=
  .next (namedRow src 19#8 tag args (setStatusLines args) s)

/-- UNKNOWN_COMMAND (R167, R182): the COMMAND carried out from its payload. -/
def execUnknownCommand (src : Byte) (payload : List Byte) (s : State) :
    Host.Outcome State Fault Refusal :=
  .next
    (commandRow { source := src, payload := payload }
      (carryOut { source := src, payload := payload }) s)

end Sys2Proof.Machine
end

