-- ==== Sys2Proof/Machine/Dispatch.lean ====
section
/-! DEFINITION. One arm for each row of spec/opcode_table.json. -/

namespace Sys2Proof.Machine

def exec (i : Instr) (s : State) : Host.Outcome State Fault Refusal :=
  match i with
  | .readStatus src tag args => Sys2Proof.Machine.execReadStatus src tag args s
  | .tableWrite src tag args => Sys2Proof.Machine.execTableWrite src tag args s
  | .tableWriteProbe src tag args => Sys2Proof.Machine.execTableWriteProbe src tag args s
  | .tableWriteAirpoint src tag args => Sys2Proof.Machine.execTableWriteAirpoint src tag args s
  | .tableWriteActuator src tag args => Sys2Proof.Machine.execTableWriteActuator src tag args s
  | .tableWriteCalibration src tag args => Sys2Proof.Machine.execTableWriteCalibration src tag args s
  | .tableWriteSchedule src tag args => Sys2Proof.Machine.execTableWriteSchedule src tag args s
  | .tableWriteChargeParams src tag args => Sys2Proof.Machine.execTableWriteChargeParams src tag args s
  | .tableWriteClimateParams src tag args => Sys2Proof.Machine.execTableWriteClimateParams src tag args s
  | .tableWriteLineParams src tag args => Sys2Proof.Machine.execTableWriteLineParams src tag args s
  | .tableWritePassList src tag args => Sys2Proof.Machine.execTableWritePassList src tag args s
  | .tableRead src tag args => Sys2Proof.Machine.execTableRead src tag args s
  | .startCharge src tag args => Sys2Proof.Machine.execStartCharge src tag args s
  | .hold src tag args => Sys2Proof.Machine.execHold src tag args s
  | .resume src tag args => Sys2Proof.Machine.execResume src tag args s
  | .advance src tag args => Sys2Proof.Machine.execAdvance src tag args s
  | .setStep src tag args => Sys2Proof.Machine.execSetStep src tag args s
  | .abortCharge src tag args => Sys2Proof.Machine.execAbortCharge src tag args s
  | .stepAmend src tag args => Sys2Proof.Machine.execStepAmend src tag args s
  | .override src tag args => Sys2Proof.Machine.execOverride src tag args s
  | .wbSelect src tag args => Sys2Proof.Machine.execWbSelect src tag args s
  | .surveyStart src tag args => Sys2Proof.Machine.execSurveyStart src tag args s
  | .surveyAbort src tag args => Sys2Proof.Machine.execSurveyAbort src tag args s
  | .lineReset src tag args => Sys2Proof.Machine.execLineReset src tag args s
  | .restart src tag args => Sys2Proof.Machine.execRestart src tag args s
  | .clearEvents src tag args => Sys2Proof.Machine.execClearEvents src tag args s
  | .setEventMask src tag args => Sys2Proof.Machine.execSetEventMask src tag args s
  | .setReportMode src tag args => Sys2Proof.Machine.execSetReportMode src tag args s
  | .setStatusLines src tag args => Sys2Proof.Machine.execSetStatusLines src tag args s
  | .unknownCommand src payload => Sys2Proof.Machine.execUnknownCommand src payload s
  | .restartEffect => Sys2Proof.Machine.execRestartEffect s
  | .resetAssert => Sys2Proof.Machine.execResetAssert s
  | .resetRelease stn prate lrate => Sys2Proof.Machine.execResetRelease stn prate lrate s
  | .minuteTick => Sys2Proof.Machine.execMinuteTick s
  | .quarantineEnd node => Sys2Proof.Machine.execQuarantineEnd node s
  | .sweepTimerExpiry => Sys2Proof.Machine.execSweepTimerExpiry s
  | .climateCycleExpiry => Sys2Proof.Machine.execClimateCycleExpiry s
  | .refreshTimerExpiry index => Sys2Proof.Machine.execRefreshTimerExpiry index s
  | .reversalTimerExpiry => Sys2Proof.Machine.execReversalTimerExpiry s
  | .coastTimerExpiry => Sys2Proof.Machine.execCoastTimerExpiry s
  | .stepPulseEnd => Sys2Proof.Machine.execStepPulseEnd s
  | .lineSelect => Sys2Proof.Machine.execLineSelect s
  | .leadEnd => Sys2Proof.Machine.execLeadEnd s
  | .pollSent => Sys2Proof.Machine.execPollSent s
  | .lagEnd => Sys2Proof.Machine.execLagEnd s
  | .characterReceived signal => Sys2Proof.Machine.execCharacterReceived signal s
  | .responseTimeout => Sys2Proof.Machine.execResponseTimeout s
  | .gapFault => Sys2Proof.Machine.execGapFault s
  | .trailingWatchEnd inProgress => Sys2Proof.Machine.execTrailingWatchEnd inProgress s
  | .abandonmentComplete => Sys2Proof.Machine.execAbandonmentComplete s
  | .loopFrameReceived signal how => Sys2Proof.Machine.execLoopFrameReceived signal how s
  | .loopOutFrameSent => Sys2Proof.Machine.execLoopOutFrameSent s
  | .loopOutHandover => Sys2Proof.Machine.execLoopOutHandover s

end Sys2Proof.Machine
end

