-- ==== Sys2Proof/Machine/Step.lean ====
section
/-! DEFINITION. One step: the operation or event at the front of the queue, or, with an empty queue, what
the K24 does of its own accord. -/

namespace Sys2Proof.Machine

/-- The K24 with nothing waiting: a COMMAND the Command Unit holds is carried out (R166); otherwise one
second tick passes (R24; DESIGN CHOICE, assumption 1). -/
def idle (s : State) : State :=
  if s.resetHeld then s
  else if s.command.current.isSome ∧ s.command.restarting = false then carryCurrent s
  else secondTick s

/-- One step. -/
def step (s : State) : Host.Outcome State Fault Refusal :=
  match s.pending with
  | [] => .next (idle s)
  | c :: rest => exec c { s with pending := rest }

/-- The machine with the command that a word spells put at the front of its queue.  The table gives no
row any bits, so no word spells a command, and the machine is left as it is (assumption 22). -/
def State.withFetchWord (s : State) (_nbits _w : Nat) : State := s

end Sys2Proof.Machine
end

