-- ==== Sys2Proof/Safety.lean ====
section
/-! DEFINITION. What a good state of the K24 is: the bounds and laws the spec states for the whole machine,
each as a predicate that claims are stated with.  No step of the K24 faults or refuses. -/

namespace Sys2Proof.Machine

/-! ## Turns -/

/-- The COMMAND's turn has come: RESET is high, and the Command Unit carries out this COMMAND or none
(R166, R172, R174). -/
def State.carries (s : State) (c : LoopCommand) : Prop :=
  s.resetHeld = false ∧ s.command.turnOf c = true

/-- Several operations and events, one after the other. -/
def runAll : List Instr → State → Option State
  | [], s => some s
  | i :: rest, s =>
    match exec i s with
    | .next t => runAll rest t
    | .fault _ => none
    | .refused _ => none

/-- The rows of the named COMMANDs: the command kind (R182), the table code where the row is one table's, and
the row. -/
def commandRows : List (Byte × List Byte × (Byte → Byte → List Byte → Instr)) :=
  [(0#8, [], .readStatus), (1#8, [], .tableWrite), (1#8, [0#8], .tableWriteProbe),
    (1#8, [1#8], .tableWriteAirpoint), (1#8, [2#8], .tableWriteActuator),
    (1#8, [3#8], .tableWriteCalibration), (1#8, [4#8], .tableWriteSchedule),
    (1#8, [5#8], .tableWriteChargeParams), (1#8, [6#8], .tableWriteClimateParams),
    (1#8, [7#8], .tableWriteLineParams), (1#8, [8#8], .tableWritePassList), (2#8, [], .tableRead),
    (3#8, [], .startCharge), (4#8, [], .hold), (5#8, [], .resume), (6#8, [], .advance),
    (7#8, [], .setStep), (8#8, [], .abortCharge), (9#8, [], .stepAmend), (10#8, [], .override),
    (11#8, [], .wbSelect), (12#8, [], .surveyStart), (13#8, [], .surveyAbort),
    (14#8, [], .lineReset), (15#8, [], .restart), (16#8, [], .clearEvents),
    (17#8, [], .setEventMask), (18#8, [], .setReportMode), (19#8, [], .setStatusLines)]

/-! ## Well-formed responses -/

/-- The covered fields of a well-formed response: source address, response kind with its check-kind mark,
sequence number, payload length and payload (R8, R11, R181). -/
def responseFields (address : Byte) (k : ResponseKind) (c : CheckKind) (seq : Byte)
    (payload : List Byte) : List Byte :=
  [address,
    responseCode k |||
      (match c with
        | .crc => 0x00#8
        | .lrc => 0x80#8),
    seq, byte payload.length] ++ payload

/-- The characters of a well-formed response as a node of polarity `q` sends them (R7, R11, R181). -/
def responseChars (q : Polarity) (address : Byte) (k : ResponseKind) (c : CheckKind) (seq : Byte)
    (payload : List Byte) : List LineBits :=
  (syncChar ::
      (responseFields address k c seq payload ++
        checkBytes c (responseFields address k c seq payload)).map charOf).map (inPolarity q)

/-! ## Bounds of queues and counts -/

/-- A frame that only the open places of the Insert Queue take: REPORT or PASS-THROUGH (R158). -/
def InsertEntry.isReport (e : InsertEntry) : Bool :=
  e.frame.kind == kindReport || e.frame.kind == kindPass

/-- The queues hold at most what R156 to R158 give them, and the repeat run is 0..4 (R159). -/
def State.queuesBounded (s : State) : Prop :=
  s.loop.repeatQueue.length ≤ 4 ∧ s.loop.insertQueue.length ≤ 16 ∧ s.command.waiting.length ≤ 4 ∧
    s.loop.run ≤ 4

/-- The Insert Queue holds at most 13 REPORT and PASS-THROUGH frames together (R158). -/
def State.reportsBounded (s : State) : Prop :=
  (s.loop.insertQueue.filter InsertEntry.isReport).length ≤ 13

/-- The character count is 0..41 (R14). -/
def State.countBounded (s : State) : Prop := s.plp.count ≤ 41

/-- In SENDING the next poll character is one of the poll's, counted from 1, or the place after the last, and
less than a whole character of it has been sent (section 1.4, R1). -/
def State.pollPlaced (s : State) : Prop :=
  s.plp.phase = .sending →
    1 ≤ s.plp.pollNext ∧ s.plp.pollNext ≤ s.plp.poll.length + 1 ∧ s.plp.pollAge < 176

/-- The owed count of every actuator lies within −3..+8 (R32). -/
def State.owedBounded (s : State) : Prop :=
  ∀ a ∈ s.outputs.entries, -3 ≤ a.owed ∧ a.owed ≤ 8

/-- The confirmation counter never exceeds C, and the consecutive-blind counter never exceeds B (R99). -/
def State.countersBounded (s : State) : Prop :=
  s.schedule.charge.confirmation ≤ s.schedule.params.c ∧
    s.schedule.charge.blinds ≤ s.schedule.params.b

/-! ## Laws across tables -/

/-- No line address is held by two configured records of the three tables (R41). -/
def State.addressesUnique (s : State) : Prop := uniqueAddresses s.records = true

/-- In WARMUP, RUNNING, HOLD and COOLDOWN the current step index is less than the step count, which is at
least 1 wherever it is present (R99, R100). -/
def State.stepInSchedule (s : State) : Prop :=
  (∀ n, s.schedule.params.stepCount = some n → 1 ≤ n) ∧
    (s.schedule.charge.state.active = true →
      ∃ n, s.schedule.params.stepCount = some n ∧ s.schedule.charge.step < n)

/-- A vent demand and a spray demand are never both above zero (R134). -/
def State.airOneWay (s : State) : Prop :=
  s.climate.vent.getD 0 = 0 ∨ s.climate.spray.getD 0 = 0

end Sys2Proof.Machine
end

