-- ==== Sys2Proof/Certificates/Slice0/Obligations.lean ====
section
/-! DEFINITION. The statements for the provers: what the numbered rules of spec/ say the K24 does.  A name in
round brackets is a rule; an assumption is a row of notes/assumptions. -/

open Sys2Proof Sys2Proof.Machine

/-! ## Steps -/

/-- A step of a machine whose queue is not empty carries out the operation or event at the front of the
queue, on the machine with the rest of it (assumption 4 says what the queue is). -/
def Obligations.StepRunsFrontOfQueue : Prop :=
  ∀ (c : Instr) (rest : List Instr) (s : State),
    s.pending = c :: rest → step s = exec c { s with pending := rest }

/-- No operation or event stops the K24, and none touches the queue of those that wait: the queue is the
model's (assumption 4), and RESET keeps it too (assumption 31). -/
def Obligations.EveryRowAnswersAndKeepsQueue : Prop :=
  ∀ (i : Instr) (s : State), ∃ t, exec i s = .next t ∧ t.pending = s.pending

/-- A step with nothing waiting is one second tick (the model's choice, assumption 1): with no refresh
timer and no coast timer running and none of the others at its end, the sweep timer and the climate cycle
timer count down by one second (R24) and nothing else changes. -/
def Obligations.SecondTickCountsDown : Prop :=
  ∀ (s : State) (m n : Nat),
    s.pending = [] → s.resetHeld = false → s.command.current = none →
    s.line.refreshTimers = List.replicate 12 none → s.climate.coastTimer = none →
    s.line.sweepTimer = m + 2 → s.line.climateTimer = n + 2 →
    step s = .next { s with line := { s.line with sweepTimer := m + 1, climateTimer := n + 1 } }

/-! ## Laws that every step keeps -/

/-- The machine right after reset meets every law below. -/
def Obligations.ResetMeetsTheLaws : Prop :=
  State.reset.queuesBounded ∧ State.reset.reportsBounded ∧ State.reset.countBounded ∧
    State.reset.pollPlaced ∧ State.reset.owedBounded ∧ State.reset.countersBounded ∧ State.reset.addressesUnique ∧
    State.reset.stepInSchedule ∧ State.reset.airOneWay

/-- The Repeat Queue holds at most 4 frames (R157), the Insert Queue at most 16 and of these at most 13 REPORT
and PASS-THROUGH frames (R158), at most 4 COMMANDs wait (R156), and the repeat run is 0..4 (R159): every step
keeps these bounds. -/
def Obligations.QueueBoundsKept : Prop :=
  (∀ s t : State, s.queuesBounded → step s = .next t → t.queuesBounded) ∧
  (∀ s t : State, s.reportsBounded → step s = .next t → t.reportsBounded)

/-- The transaction's character count stays within 0..41 (R14), the place in the poll that is being sent within the
poll (section 1.4, R18), the owed count of every actuator within −3..+8
(R32), and the confirmation counter never exceeds C nor the consecutive-blind counter B (R99), whatever step is
taken. -/
def Obligations.CountsStayBounded : Prop :=
  (∀ s t : State, s.countBounded → step s = .next t → t.countBounded) ∧
  (∀ s t : State, s.pollPlaced → step s = .next t → t.pollPlaced) ∧
  (∀ s t : State, s.owedBounded → step s = .next t → t.owedBounded) ∧
  (∀ s t : State, s.countersBounded → step s = .next t → t.countersBounded)

/-- No step leaves one line address with two configured records of the three tables (R41). -/
def Obligations.AddressesStayUnique : Prop :=
  ∀ s t : State, s.addressesUnique → step s = .next t → t.addressesUnique

/-- While a charge is active its current step index is less than the step count (R100), and every step keeps
it so (R99, R101, R111, R115). -/
def Obligations.CurrentStepStaysInSchedule : Prop :=
  ∀ s t : State, s.stepInSchedule → step s = .next t → t.stepInSchedule

/-- A vent demand and a spray demand are never both above zero (R134, R138), and every step keeps it so. -/
def Obligations.VentAndSprayStayExclusive : Prop :=
  ∀ s t : State, s.airOneWay → step s = .next t → t.airOneWay

/-! ## Characters, checks and frames -/

/-- A pulse shorter than the filter width leaves the filtered level unchanged, and one of the full width is
accepted when the width is reached (R2): a filter of width `w` at level `l`, given `n` sixteenths of the
other level and then the old one again.  A character drawn on an idle line (R1: an active start bit, nine
data-and-parity bits, least significant first, and a stop bit, each sixteen sixteenths long) is received as that
character by a receiver that looks for a start bit, and by one at power-on that has seen the idle level first;
a pulse on an idle line that is shorter than the width is no character.  After a framing fault a line that
stays active begins no character, until it has been idle for the width (R1).  With DE high the same drawing
reaches no block, and the bits of a character whose start showed with DE high are ignored, whatever DE does
(R3).  A line held active through power-on is treated as idle (R19).  A poll that is being sent is sent on
meanwhile.  That a one is drawn at the idle level, that one idle sixteenth ends the power-on wait, how a whole
character leaves the receiver, and that a poll is sent by the same sixteenths are the model's reading (assumptions
9, 23, 37). -/
def Obligations.GlitchFilterWidth : Prop :=
  (∀ (w n : Nat) (l : Bool),
    (n < w →
      filtered w { level := l, held := 0 } (List.replicate n (!l) ++ [l]) =
        List.replicate (n + 1) l) ∧
    (filtered (w + 1) { level := l, held := 0 } (List.replicate (w + 1) (!l)) =
      List.replicate w l ++ [!l])) ∧
  (∀ (s : State) (n m k : Nat) (c : LineBits) (framing : Bool),
    let bits := [false] ++ (List.range 9).map c.getLsbD ++ [!framing]
    let drawn := List.replicate n true ++ bits.flatMap (List.replicate 16)
    let hears (raw : List Bool) := exec (.characterReceived (.raw raw)) s
    let with_ (raw : List Bool) (r : Receiver) : State :=
      { s with plp := { s.plp.sendFor raw.length with receiver := r } }
    let becomes (raw : List Bool) (r : Receiver) := hears raw = .next (with_ raw r)
    let ready : Receiver := { filter := .atIdle, phase := .hunting }
    s.resetHeld = false → 1 ≤ s.filterWidth → s.filterWidth ≤ 8 →
    (s.de = false → s.plp.receiver = ready ∨ (s.plp.receiver = .powerOn ∧ 1 ≤ n) →
      hears drawn = exec (.characterReceived (.char c framing)) s ∧
      (k < s.filterWidth →
        becomes (List.replicate n true ++ List.replicate k false ++ List.replicate (m + 1) true)
          ready)) ∧
    (s.plp.receiver = .afterChar true →
      becomes (List.replicate n false) s.plp.receiver ∧
      becomes (List.replicate n false ++ List.replicate s.filterWidth true) ready) ∧
    (s.de = true → s.plp.receiver = ready → becomes drawn (.afterChar framing)) ∧
    (∀ (raw : List Bool) (age : Nat), s.plp.receiver.phase = .skipping age → age + raw.length < 168 →
      ∃ f, becomes raw { filter := f, phase := .skipping (age + raw.length) }) ∧
    (s.plp.receiver = .powerOn → becomes (List.replicate n false) s.plp.receiver))

/-- A READ or PING poll is 5 characters long and a SET poll 6 (R6); read in the poll's own polarity, its
characters are the sync, the fields, and the CRC over the fields (R6, R7), each with even parity (R1).  Both
checks verify: the LRC makes the sum of the covered bytes and the LRC 0 modulo 256, and the CRC-16 taken on over
its own two bytes, more significant first, leaves the register at 0 (R185). -/
def Obligations.PollsAndChecks : Prop :=
  (∀ r : Request,
    (r.argument = none → (pollChars r).length = 5) ∧
    (∀ v, r.argument = some v → (pollChars r).length = 6) ∧
    (pollChars r).map (inPolarity r.polarity) =
      (syncChar :: (pollFields r ++ crcBytes (pollFields r)).map charOf) ∧
    ∀ c ∈ pollChars r, oddOnes (inPolarity r.polarity c) = false) ∧
  (∀ l : List Byte, byteSum (l ++ [lrcByte l]) = 0#8 ∧ crc16 (l ++ crcBytes l) = 0#16)

/-- A frame that leaves loop-out is received as it was sent (R152, R153, R182, R185): its characters are
whole and not bad, and read as the same frame.  No field of a frame is lost on the loop. -/
def Obligations.LoopFrameRoundTrip : Prop :=
  ∀ f : LoopFrame, f.payload.length ≤ 120 → f.hops ≤ 31 →
    frameChars f.chars = f.chars ∧ isWhole f.chars = true ∧ isBad f.chars false = false ∧
      receivedFrame f.chars = f

/-- A well-formed response from the polled node, in either polarity, with either check, of any kind, with
any sequence byte and up to 30 payload characters, received after the poll with room left in the character
count, is heard whole: the PLP is then in TRAILING, and at the end of the trailing watch the outcome GOOD is
delivered with the polarity, kind, check, sequence number and payload sent (R9, R11, R15, R16).  That a sequence
byte of 16 or more is passed on as received, and that noise before the sync does not count toward the declared
end, are the model's readings (assumptions 19, 10). -/
def Obligations.ResponseHeardWhole : Prop :=
  ∀ (s : State) (r : Request) (q : Polarity) (k : ResponseKind) (c : CheckKind) (seq : Byte)
    (payload : List Byte),
    s.resetHeld = false → s.plp.phase = .await → s.plp.request = some r → s.plp.faults = [] →
    s.plp.fields = [] → s.plp.declaredEnd = none → payload.length ≤ 30 → r.address ≤ 126 →
    s.plp.count + payload.length + 7 ≤ 40 →
    ∃ t,
      runAll
          ((responseChars q (byte r.address) k c seq payload).map fun b =>
            .characterReceived (.char b false)) s = some t ∧
      t.plp.phase = .trailing ∧
      exec (.trailingWatchEnd false) t =
        .next
          (deliver
            { request := r, outcome := .good,
              response :=
                some { sync := q, kind := k, check := c, sequence := seq.toNat,
                       payload := payload } } t)

/-! ## The Probe Line Port and the Line Arbiter -/

/-- On an idle line with no sweep due to complete, the request of the class chosen is issued: the PLP
latches the four LINE_PARAMS values, clears count and fault list and enters LEAD (R5), and the receiver takes in
no more of a character it was in (R3, assumption 37); the line is BUSY
(R21); the sweep position moves past the slot (R26), the poll-due mark is cleared (R31), the ping is in
flight (R63), the marks of the record are cleared (R45, R146).  With nothing eligible, or on a line that is
not idle, nothing is issued (R21). -/
def Obligations.LineSelectIssuesChosenRequest : Prop :=
  ∀ s : State, s.resetHeld = false →
    (∀ r, s.line.condition = .idle → s.sweepDone = false → s.choose = some r →
      exec .lineSelect s =
        .next
          { s with
            plp :=
              { s.plp with
                phase := .lead, request := some r,
                latched :=
                  some { glitchWidth := s.lineParams.glitchWidth, lead := s.lineParams.lead,
                         lag := s.lineParams.lag, timeout := s.lineParams.timeout },
                poll := [], pollNext := 0, pollAge := 0, responseTimer := none, count := 0,
                sync := none, fields := [], declaredEnd := none, faults := [],
                receiver := s.plp.receiver.mute },
            line :=
              match r.owner with
              | .air i => { s.line with condition := .busy, pollDue := s.line.pollDue.set i false }
              | .probe i => { s.line with condition := .busy, sweepPosition := i + 1 }
              | .actuator _ | .survey _ => { s.line with condition := .busy },
            nodes :=
              match r.owner with
              | .probe _ | .air _ => { s.nodes with dropMark := false }
              | .actuator _ | .survey _ => s.nodes,
            outputs :=
              match r.owner with
              | .actuator _ => { s.outputs with dropMark := false, kindMark := false }
              | .probe _ | .air _ | .survey _ => s.outputs,
            survey :=
              match r.owner with
              | .survey a => { s.survey with inFlight := some a, next := none }
              | .probe _ | .air _ | .actuator _ => s.survey }) ∧
    (s.line.condition = .idle → s.sweepDone = false → s.choose = none →
      exec .lineSelect s = .next s) ∧
    (s.line.condition ≠ .idle → exec .lineSelect s = .next s)

/-- The one arbitration rule over the probe line (R22): a SET is for the lowest URGENT actuator, or with
none URGENT for the lowest one due; an air point is read only with no SET eligible; an address is pinged
only with no SET and no climate poll eligible; a probe is polled only with none of these and no survey, and
it is the lowest pollable slot at or above the sweep position.  And the other way round: the lowest eligible item of
the first class that holds one is chosen, with the request that R23 gives it, and nothing only where no class holds
one.  Eligible (R22, R35) is an actuator that is configured with its retry wait CLEAR, URGENT at an owed count of 4 or more,
and else with one owed or a commanded value that differs from the last acknowledged one; an air point with its
poll-due mark that is neither EMPTY nor ISOLATED; the address a running survey names, with no PING in flight; and in
a sweep with no survey a slot at or above the position that is neither EMPTY nor ISOLATED.  A SET is sent NORMAL, a
READ in the record's polarity or, UNKNOWN, its search polarity, and a PING in the known polarity of a record that
holds the address, or NORMAL. -/
def Obligations.SelectionOrder : Prop :=
  (∀ (s : State) (r : Request), s.choose = some r →
    let noUrgent := ∀ j a, s.outputs.entries[j]? = some a → urgent a (s.line.retryOf j) = false
    let noSet := ∀ j a, s.outputs.entries[j]? = some a → setDue a (s.line.retryOf j) = false
    let noAir :=
      ∀ j a, s.nodes.airs[j]? = some a → (s.line.dueOf j && a.node.pollable) = false
    match r.owner with
    | .actuator i =>
      r.kind = .set ∧
      ∃ a, s.outputs.entries[i]? = some a ∧ r.argument = some a.commanded ∧
        ((urgent a (s.line.retryOf i) = true ∧
            ∀ j b, j < i → s.outputs.entries[j]? = some b → urgent b (s.line.retryOf j) = false) ∨
          (noUrgent ∧ setDue a (s.line.retryOf i) = true ∧
            ∀ j b, j < i → s.outputs.entries[j]? = some b → setDue b (s.line.retryOf j) = false))
    | .air i =>
      r.kind = .read ∧ noUrgent ∧ noSet ∧
      ∃ a, s.nodes.airs[i]? = some a ∧ (s.line.dueOf i && a.node.pollable) = true ∧
        ∀ j b, j < i → s.nodes.airs[j]? = some b → (s.line.dueOf j && b.node.pollable) = false
    | .survey address =>
      r.kind = .ping ∧ noUrgent ∧ noSet ∧ noAir ∧ s.survey.condition = .running ∧
        s.survey.next = some address ∧ r.address = address
    | .probe i =>
      r.kind = .read ∧ noUrgent ∧ noSet ∧ noAir ∧ s.survey.condition = .idle ∧
      s.line.sweeping = true ∧ s.line.sweepPosition ≤ i ∧
      ∃ p, s.nodes.probes[i]? = some p ∧ p.node.pollable = true ∧
        ∀ j b, s.line.sweepPosition ≤ j → j < i → s.nodes.probes[j]? = some b →
          b.node.pollable = false) ∧
  (∀ s : State,
    let first (eligible : Nat → Prop) (i : Nat) := eligible i ∧ ∀ j, j < i → ¬eligible j
    let free (i : Nat) (a : Actuator) := a.address ≠ none ∧ s.line.retryOf i = false
    let polled (n : NodeRecord) := n.state ≠ .empty ∧ n.state ≠ .isolated
    let urgentItem (i : Nat) := ∃ a, s.outputs.entries[i]? = some a ∧ free i a ∧ 4 ≤ a.owed
    let setItem (i : Nat) :=
      ∃ a, s.outputs.entries[i]? = some a ∧ free i a ∧
        (1 ≤ a.owed ∨ a.acknowledged ≠ some a.commanded)
    let airItem (i : Nat) :=
      ∃ a, s.nodes.airs[i]? = some a ∧ s.line.dueOf i = true ∧ polled a.node
    let named (address : Nat) :=
      s.survey.condition = .running ∧ s.survey.inFlight = none ∧ s.survey.next = some address
    let probeItem (i : Nat) :=
      s.line.sweeping = true ∧ s.survey.condition = .idle ∧ s.line.sweepPosition ≤ i ∧
        ∃ p, s.nodes.probes[i]? = some p ∧ polled p.node
    let noSet := ∀ i, ¬urgentItem i ∧ ¬setItem i
    let noAir := ∀ i, ¬airItem i
    let noPing := ∀ a, ¬named a
    let sent (known : Option Polarity) (search : Option Search) : Polarity :=
      known.getD ((search.map (·.polarity)).getD .normal)
    let records := s.nodes.probes.map (·.node) ++ s.nodes.airs.map (·.node)
    (∀ i, first urgentItem i ∨ ((∀ j, ¬urgentItem j) ∧ first setItem i) →
      ∃ a address, s.outputs.entries[i]? = some a ∧ a.address = some address ∧
        s.choose =
          some
            { owner := .actuator i, address := address, kind := .set, argument := some a.commanded,
              polarity := .normal }) ∧
    (∀ i a address, noSet → first airItem i → s.nodes.airs[i]? = some a →
      a.node.address = some address →
      s.choose =
        some
          { owner := .air i, address := address, kind := .read, argument := none,
            polarity := sent a.node.polarity s.line.airSearch[i]? }) ∧
    (∀ address, noSet → noAir → named address →
      ∃ polarity,
        s.choose =
          some
            { owner := .survey address, address := address, kind := .ping, argument := none,
              polarity := polarity } ∧
        ((∀ n ∈ records, n.address = some address → n.polarity = none) → polarity = .normal) ∧
        ∀ q, (∃ n ∈ records, n.address = some address) →
          (∀ n ∈ records, n.address = some address → n.polarity = some q) → polarity = q) ∧
    (∀ i p address, noSet → noAir → noPing → first probeItem i → s.nodes.probes[i]? = some p →
      p.node.address = some address →
      s.choose =
        some
          { owner := .probe i, address := address, kind := .read, argument := none,
            polarity := sent p.node.polarity s.line.probeSearch[i]? }) ∧
    (noSet → noAir → noPing → (∀ i, ¬probeItem i) → s.choose = none))

/-- The poll's phases (R5): the lead's end begins the poll, the last stop bit starts the response timer with
the latched timeout and enters LAG, or AWAIT at once where the latched lag is 0, and the lag's end enters
AWAIT; DE is high in LEAD, SENDING and LAG and low in AWAIT (R3).  The characters of the poll leave PL_TX back to
back, each with its start bit, its nine bits, least significant first, and its stop bit (R1, R3), as the sixteenths of
a bit pass; that these are the raw levels of CHARACTER_RECEIVED is the model's form, and that a one is sent at the
idle level its reading (assumptions 23, 9). -/
def Obligations.PollPhasesRun : Prop :=
  (∀ (s : State) (raw : List Bool),
    s.resetHeld = false → s.plp.phase = .sending → s.pollPlaced →
    ∃ t, exec (.characterReceived (.raw raw)) s = .next t ∧ { t with plp := s.plp } = s ∧
      t.plp.phase = .sending ∧ t.pollOut = s.pollOut.drop ((s.plp.pollAge + raw.length) / 176)) ∧
  ∀ (s : State) (r : Request) (l : LatchedParams),
    s.resetHeld = false → s.plp.request = some r → s.plp.latched = some l →
    (s.plp.phase = .lead → s.de = true ∧
      exec .leadEnd s =
        .next
          { s with
            plp := { s.plp with phase := .sending, poll := pollChars r, pollNext := 1, pollAge := 0 } } ∧
      ∀ raw : List Bool,
        let line :=
          (pollChars r).flatMap fun c =>
            ([false] ++ (List.range 9).map c.getLsbD ++ [true]).flatMap (List.replicate 16)
        ∃ t u, exec .leadEnd s = .next t ∧ exec (.characterReceived (.raw raw)) t = .next u ∧
          u.plTx = line.getD raw.length true) ∧
    (s.plp.phase = .sending → l.lag ≠ 0 → s.de = true ∧
      exec .pollSent s =
        .next
          { s with
            plp :=
              { s.plp with
                phase := .lag, poll := [], pollNext := 0, pollAge := 0,
                responseTimer := some l.timeout } }) ∧
    (s.plp.phase = .sending → l.lag = 0 →
      exec .pollSent s =
        .next
          { s with
            plp :=
              { s.plp with
                phase := .await, poll := [], pollNext := 0, pollAge := 0,
                responseTimer := some l.timeout } }) ∧
    (s.plp.phase = .lag → s.de = true ∧
      exec .lagEnd s = .next { s with plp := { s.plp with phase := .await } }) ∧
    (s.plp.phase = .await → s.de = false)

/-- What a whole character does (R9, R11, R13, R14, R20).  IDLE: discarded, not counted.  AWAIT: a sync form stops
the timer, fixes the polarity and enters RECEIVING, any other character is only counted.  RECEIVING: its
byte, read in the sync polarity, joins the fields; the fourth fixes the declared end, five characters more than
the payload and the check have, unless the response is unreadable (R11); the character that reaches it enters
TRAILING; and the faults recorded are those found, and no other: parity and framing (R1), a source address that
is not the poll's (R15), an unreadable response (R11), and a check that differs (R8).  TRAILING: a length fault.
The 41st character decides JABBER at once.  That the declared end is counted from the sync, whatever noise the
character count holds (assumption 10), and how the character leaves the receiver (assumption 37), are the model's
readings. -/
def Obligations.CharactersTaken : Prop :=
  ∀ (s : State) (r : Request) (b : LineBits) (framing : Bool), s.resetHeld = false →
    let takes := exec (.characterReceived (.char b framing)) s
    let heard : Plp := { s.plp with receiver := .afterChar framing }
    (s.plp.phase = .idle → takes = .next { s with plp := heard }) ∧
    (s.plp.phase = .await → s.plp.count < 40 → b = charOf 0xB5#8 → framing = false →
      takes =
        .next
          { s with
            plp :=
              { heard with
                phase := .receiving, responseTimer := none, sync := some .normal,
                count := s.plp.count + 1 } }) ∧
    (s.plp.phase = .await → s.plp.count < 40 → b = ~~~(charOf 0xB5#8) → framing = false →
      takes =
        .next
          { s with
            plp :=
              { heard with
                phase := .receiving, responseTimer := none, sync := some .reversed,
                count := s.plp.count + 1 } }) ∧
    (s.plp.phase = .await → s.plp.count < 40 →
      (framing = true ∨ (b ≠ charOf 0xB5#8 ∧ b ≠ ~~~(charOf 0xB5#8))) →
      takes = .next { s with plp := { heard with count := s.plp.count + 1 } }) ∧
    (∀ q, s.plp.phase = .receiving → s.plp.count < 40 → s.plp.sync = some q →
      s.plp.request = some r →
      let fields := s.plp.fields ++ [dataOf (inPolarity q b)]
      let n := fields.length
      let kind := responseKindByte (byteAt fields 1)
      let payload := (byteAt fields 3).toNat
      let unreadable := n = 4 ∧ (kind = none ∨ 30 < payload)
      let declared :=
        match kind with
        | some k =>
          if n = 4 ∧ payload ≤ 30 then some (5 + payload + checkLength k.2) else s.plp.declaredEnd
        | none => s.plp.declaredEnd
      let found (f : LineFault) : Prop :=
        match f with
        | .parity => oddOnes (inPolarity q b) = true
        | .framing => framing = true
        | .address => n = 1 ∧ (dataOf (inPolarity q b)).toNat ≠ r.address
        | .unreadable => unreadable
        | .check =>
          declared = some (n + 1) ∧
            ∃ k, kind = some k ∧
              fields.drop (n - checkLength k.2) ≠ checkBytes k.2 (fields.take (n - checkLength k.2))
        | .length | .gap => False
      ∃ t, takes = .next t ∧ { t with plp := s.plp } = s ∧ t.plp.count = s.plp.count + 1 ∧
        t.plp.fields = fields ∧ t.plp.declaredEnd = declared ∧
        (declared = some (n + 1) → t.plp.phase = .trailing) ∧
        (declared ≠ some (n + 1) → t.plp.phase = .receiving) ∧
        ∀ f, f ∈ t.plp.faults ↔ f ∈ s.plp.faults ∨ found f) ∧
    (s.plp.phase = .trailing → s.plp.count < 40 →
      ∃ t, takes = .next t ∧
        t.plp.count = s.plp.count + 1 ∧ t.plp.phase = .trailing ∧ .length ∈ t.plp.faults ∧
        { t with plp := s.plp } = s) ∧
    (s.plp.phase = .await ∨ s.plp.phase = .receiving ∨ s.plp.phase = .trailing →
      s.plp.count = 40 → s.plp.request = some r →
      takes =
        .next
          (deliver { request := r, outcome := .jabber, response := none }
            { s with plp := heard.takeChar b framing }))

/-- The decision of an outcome (R10, R12, R13, R15): MISS at the response timer's expiry in LAG or AWAIT, BAD
at a gap fault, and at the end of the trailing watch JABBER with a character in progress, as the event says or
as the receiver shows, otherwise BAD with any fault recorded, otherwise GOOD with what the response held.  That the
receiver shows a character in progress until its stop bit is sampled is the model's reading (assumption 42). -/
def Obligations.OutcomeDecided : Prop :=
  ∀ (s : State) (r : Request), s.resetHeld = false → s.plp.request = some r →
    (s.plp.phase = .lag ∨ s.plp.phase = .await → s.plp.responseTimer.isSome = true →
      exec .responseTimeout s =
        .next (deliver { request := r, outcome := .miss, response := none } s)) ∧
    (s.plp.phase = .receiving →
      exec .gapFault s =
        .next
          (deliver { request := r, outcome := .bad, response := none }
            { s with plp := s.plp.addFault .gap })) ∧
    (s.plp.phase = .trailing →
      exec (.trailingWatchEnd true) s =
        .next (deliver { request := r, outcome := .jabber, response := none } s)) ∧
    (∀ b, s.plp.phase = .trailing → s.plp.receiver.inCharacter = true →
      exec (.trailingWatchEnd b) s =
        .next (deliver { request := r, outcome := .jabber, response := none } s)) ∧
    (s.plp.phase = .trailing → s.plp.receiver.inCharacter = false → s.plp.faults ≠ [] →
      exec (.trailingWatchEnd false) s =
        .next (deliver { request := r, outcome := .bad, response := none } s)) ∧
    (∀ q g, s.plp.phase = .trailing → s.plp.receiver.inCharacter = false → s.plp.faults = [] →
      s.plp.sync = some q →
      goodResponse q s.plp.fields = some g →
      exec (.trailingWatchEnd false) s =
        .next (deliver { request := r, outcome := .good, response := some g } s))

/-- The Line Health Monitor's table (R58), with the window as the outcome has joined it (the last 32, R57), and
the one start request at an entry into DOWN (R59).  With the delivery of any outcome the PLP is in IDLE and the
line is idle (R17, R21), and the Monitor has judged it. -/
def Obligations.DeliveryJudgesLine : Prop :=
  (∀ (o : LineOutcome) (s : State),
    let w := lineWindowAfter s.nodes.lineWindow o
    let t := monitor o s
    (s.nodes.health = .up → s.lineParams.degrade ≤ failures w →
      t.nodes.health = .degraded ∧ t.events = s.events.latch (.lineDegraded, none)) ∧
    (s.nodes.health = .up → failures w < s.lineParams.degrade →
      t.nodes.health = .up ∧ t.events = s.events) ∧
    (s.nodes.health = .degraded → w.length = 32 → failures w = 32 →
      t.nodes.health = .down ∧ t.events = s.events.latch (.lineDown, none)) ∧
    (s.nodes.health = .degraded → failures w ≤ 2 →
      t.nodes.health = .up ∧ t.events = s.events) ∧
    (s.nodes.health = .degraded → ¬(w.length = 32 ∧ failures w = 32) → 2 < failures w →
      t.nodes.health = .degraded ∧ t.events = s.events) ∧
    (s.nodes.health = .down → o = .good →
      t.nodes.health = .degraded ∧ t.events = s.events.latch (.lineDegraded, none)) ∧
    (s.nodes.health = .down → o ≠ .good → t.nodes.health = .down ∧ t.events = s.events) ∧
    t.survey =
      (if s.nodes.health = .degraded ∧ t.nodes.health = .down ∧ s.lineParams.autoSurvey = true ∧
          s.survey.condition = .idle then s.survey.start
        else s.survey)) ∧
  (∀ (o : OutcomeRecord) (s : State),
    (deliver o s).plp.phase = .idle ∧ (deliver o s).plp.request = none ∧
    (deliver o s).line.condition = .idle ∧
    (deliver o s).nodes.lineWindow = lineWindowAfter s.nodes.lineWindow o.outcome ∧
    (lineWindowAfter s.nodes.lineWindow o.outcome).length =
      min 32 (s.nodes.lineWindow.length + 1) ∧
    (deliver o s).nodes.health =
      nextHealth s.nodes.health (lineWindowAfter s.nodes.lineWindow o.outcome) o.outcome
        s.lineParams.degrade)

/-- What a delivered SET outcome does.  To the actuator's refresh credit and retry wait (R33, R34): GOOD
repays one, not below −3; BAD, MISS and JABBER set the retry wait; a dropped outcome changes neither.  To the
entry (R146 to R148): a dropped outcome changes nothing; a GOOD acknowledges the value sent, clears the failed
SETs and makes the entry ACTIVE, and with an ECHO the position is kept and matches within 5, or counts a mismatch,
with ACTUATOR_MISMATCH at 3; under the kind mark the acknowledged value, the position and the count stay; a
failure counts to 4, and at 4 the entry is LOST, with ACTUATOR_LOST where it was not.  Every other actuator
stays. -/
def Obligations.SetOutcomeCredit : Prop :=
  ∀ (o : OutcomeRecord) (s : State) (i : Nat) (a : Actuator),
    o.request.owner = .actuator i → s.outputs.entries[i]? = some a →
    let t := deliver o s
    let entry := t.outputs.entries[i]?
    (s.outputs.dropMark = true →
      entry.map (·.owed) = some a.owed ∧ t.line.retryWait = s.line.retryWait) ∧
    (s.outputs.dropMark = false → o.outcome = .good →
      entry.map (·.owed) = some (max (-3) (a.owed - 1)) ∧ t.line.retryWait = s.line.retryWait) ∧
    (s.outputs.dropMark = false → o.outcome ≠ .good →
      entry.map (·.owed) = some a.owed ∧ t.line.retryWait = s.line.retryWait.set i true) ∧
    (s.outputs.dropMark = true → entry = some a) ∧
    (∀ g v, s.outputs.dropMark = false → o.outcome = .good → o.response = some g →
      o.request.argument = some v →
      let active : Actuator := { a with owed := max (-3) (a.owed - 1), failed := 0, state := .active }
      let acked : Actuator := { active with acknowledged := some v }
      let position :=
        match v, g.payload with
        | .percent _, b :: _ => if b.toNat ≤ 100 then some (ActValue.percent b.toNat) else none
        | .fan _, b :: _ => (fanOf b).map ActValue.fan
        | _, [] => none
      let near :=
        match v, position with
        | .percent x, some (.percent y) => y ≤ x + 5 ∧ x ≤ y + 5
        | .fan x, some (.fan y) => x = y
        | _, _ => False
      (s.outputs.kindMark = true → entry = some active) ∧
      (s.outputs.kindMark = false → g.kind ≠ .echo → entry = some acked) ∧
      (s.outputs.kindMark = false → g.kind = .echo → near →
        entry = some { acked with echoed := position, mismatches := 0 }) ∧
      (s.outputs.kindMark = false → g.kind = .echo → ¬near →
        entry = some { acked with echoed := position, mismatches := min 3 (a.mismatches + 1) } ∧
          (2 ≤ a.mismatches → s.events.flags.length = 25 → t.events.latched 10 = true))) ∧
    (s.outputs.dropMark = false → o.outcome ≠ .good → o.response = none →
      entry =
          some
            { a with
              failed := min 4 (a.failed + 1), state := if 3 ≤ a.failed then .lost else a.state } ∧
        (3 ≤ a.failed → a.state ≠ .lost → s.events.flags.length = 25 →
          t.events.latched 11 = true)) ∧
    ∀ j, j ≠ i → t.outputs.entries[j]? = s.outputs.entries[j]?

/-! ## The Node Tables -/

/-- A delivered READ outcome of a probe acts on the supervision of the polled slot alone, and not at all under the
drop mark (R45, R46); its reading is then the one the Moisture Converter made of the outcome, if it made one (R47,
R49), whatever sweep completion follows (which only ages readings, R80).  That of an air point acts on its entry
alone: a temperature of −400..1500 in a READING that is no repeat and shows no sensor fault becomes the last
temperature with the count 0 (R49), and its supervision goes under node number 64 to 71 (R54).  The supervision's
events are raised.  While the record's polarity is UNKNOWN the outcome moves its search state by the table of R37,
and no other search state changes. -/
def Obligations.ProbeOutcomeApplied : Prop :=
  (∀ (o : OutcomeRecord) (s : State) (i : Nat) (p : ProbeRecord),
    o.request.owner = .probe i → s.nodes.probes[i]? = some p →
    (s.nodes.dropMark = true →
      ((deliver o s).nodes.probes[i]?).map (·.node) = some p.node) ∧
    (s.nodes.dropMark = false →
      ((deliver o s).nodes.probes[i]?).map (·.node) =
        some (p.node.take i s.lineParams.quarantine o).1) ∧
    (s.nodes.dropMark = false → p.node.pollable = true →
      ((deliver o s).nodes.probes[i]?).map (fun q => q.reading.map fun r => { r with age := 0 }) =
        some
          ((readingAfter s.calibration s.nodes (s.schedule.charge.setpoints.map (·.activeDb)) p
              s.line.sweepNumber o).map fun r => { r with age := 0 })) ∧
    (s.nodes.dropMark = false → s.events.flags.length = 25 →
      ∀ e ∈ (p.node.take i s.lineParams.quarantine o).2,
        (deliver o s).events.latched e.1.number = true) ∧
    (∀ j, j ≠ i →
      ((deliver o s).nodes.probes[j]?).map (·.node) = (s.nodes.probes[j]?).map (·.node)) ∧
    ((deliver o s).nodes.airs.map (·.node)) = s.nodes.airs.map (·.node)) ∧
  (∀ (o : OutcomeRecord) (s : State) (i : Nat) (a : AirRecord),
    o.request.owner = .air i → s.nodes.airs[i]? = some a →
    let t := deliver o s
    let taken := a.node.take (i + 64) s.lineParams.quarantine o
    (s.nodes.dropMark = true → t.nodes.airs = s.nodes.airs) ∧
    (s.nodes.dropMark = false → o.response = none →
      t.nodes.airs = s.nodes.airs.set i { a with node := taken.1 }) ∧
    (∀ g, s.nodes.dropMark = false → a.node.pollable = true → o.response = some g →
      let degrees := fieldSigned g.payload 0
      let brings :=
        g.kind = .reading ∧ a.node.lastSequence ≠ some g.sequence ∧ 3 ≤ g.payload.length ∧
          (byteAt g.payload 2).getLsbD 0 = false ∧ -400 ≤ degrees ∧ degrees ≤ 1500
      (brings →
        t.nodes.airs =
          s.nodes.airs.set i { a with node := taken.1, lastTemp := some degrees, cycles := 0 }) ∧
      (¬brings → t.nodes.airs = s.nodes.airs.set i { a with node := taken.1 })) ∧
    (s.nodes.dropMark = false → s.events.flags.length = 25 →
      ∀ e ∈ taken.2, t.events.latched e.1.number = true) ∧
    t.nodes.probes = s.nodes.probes) ∧
  (∀ (o : OutcomeRecord) (s : State),
    let t := deliver o s
    let searched (known : Option Polarity) (q : Search) : Search :=
      if s.nodes.dropMark = false ∧ known = none then
        match o.outcome with
        | .miss =>
          if q.tally = 0 then { polarity := q.polarity, tally := 1 }
          else
            { polarity := if q.polarity = .normal then .reversed else .normal, tally := 0 }
        | .bad | .jabber => { polarity := q.polarity, tally := 0 }
        | .good => { polarity := .normal, tally := 0 }
      else q
    (∀ i p, o.request.owner = .probe i → s.nodes.probes[i]? = some p →
      t.line.probeSearch[i]? = (s.line.probeSearch[i]?).map (searched p.node.polarity) ∧
      (∀ j, j ≠ i → t.line.probeSearch[j]? = s.line.probeSearch[j]?) ∧
      t.line.airSearch = s.line.airSearch) ∧
    (∀ i a, o.request.owner = .air i → s.nodes.airs[i]? = some a →
      t.line.airSearch[i]? = (s.line.airSearch[i]?).map (searched a.node.polarity) ∧
      (∀ j, j ≠ i → t.line.airSearch[j]? = s.line.airSearch[j]?) ∧
      t.line.probeSearch = s.line.probeSearch))

/-- The supervision states (R50 to R53) of a record with node number `k` and quarantine time `q`: the first
GOOD in UNSEEN makes it ACTIVE with a window of that GOOD alone; a JABBER isolates it; the MISS that brings
the count to 8 makes it LOST, whatever the window holds; the third failure entry makes an ACTIVE record
SUSPECT; eight entries with no failure make a SUSPECT record ACTIVE; a GOOD makes a LOST record SUSPECT.  Every GOOD brings
its sequence number and its polarity, and POLARITY_CHANGE where another one was known (R48), after the event of the
state change, since R45 has the steps of R46 before those of R48.  A sequence number is
judged NORMAL at the first GOOD or one after the last, modulo 16, REPEAT where it is the last, and GAP otherwise
(R47): a READING judged REPEAT leaves the slot's reading, one judged GAP is converted with its mark. -/
def Obligations.SupervisionStates : Prop :=
  ∀ (n : NodeRecord) (k q : Nat) (r : Request) (g : GoodResponse),
    let window (o : LineOutcome) := lastN 8 (n.window ++ [o])
    let good : OutcomeRecord := { request := r, outcome := .good, response := some g }
    let fails (o : LineOutcome) : OutcomeRecord := { request := r, outcome := o, response := none }
    (n.state = .unseen →
      (n.take k q good).1 =
        { n with
          state := .active, window := [.good], misses := 0, lastSequence := some g.sequence,
          polarity := some g.sync }) ∧
    (n.state = .unseen ∨ n.state = .active ∨ n.state = .suspect ∨ n.state = .lost →
      n.take k q (fails .jabber) =
        ({ n with state := .isolated, quarantine := some q, window := window .jabber, misses := 0 },
          [(.nodeIsolated, some k)])) ∧
    (n.state = .unseen ∨ n.state = .active ∨ n.state = .suspect → n.misses = 7 →
      n.take k q (fails .miss) =
        ({ n with state := .lost, window := window .miss, misses := 8 },
          [(.probeLost, some k)])) ∧
    (n.state = .active → n.misses < 7 → 3 ≤ failures (window .miss) →
      n.take k q (fails .miss) =
        ({ n with state := .suspect, window := window .miss, misses := n.misses + 1 },
          [(.probeSuspect, some k)])) ∧
    (n.state = .active → 3 ≤ failures (window .bad) →
      n.take k q (fails .bad) =
        ({ n with state := .suspect, window := window .bad, misses := 0 },
          [(.probeSuspect, some k)])) ∧
    (n.state = .active → failures (window .bad) < 3 →
      n.take k q (fails .bad) = ({ n with window := window .bad, misses := 0 }, [])) ∧
    (n.state = .suspect → (window .good).length = 8 → failures (window .good) = 0 →
      (n.take k q good).1.state = .active) ∧
    (n.state = .lost → n.polarity = some g.sync →
      n.take k q good =
        ({ n with
           state := .suspect, window := window .good, misses := 0,
           lastSequence := some g.sequence }, [(.probeSuspect, some k)])) ∧
    (∀ p, n.state = .lost → n.polarity = some p → p ≠ g.sync →
      n.take k q good =
        ({ n with
           state := .suspect, window := window .good, misses := 0,
           lastSequence := some g.sequence, polarity := some g.sync },
          [(.probeSuspect, some k), (.polarityChange, some k)])) ∧
    (n.state = .lost →
      n.take k q (fails .bad) = ({ n with window := window .bad, misses := 0 }, [])) ∧
    (n.pollable = true →
      (n.take k q good).1.lastSequence = some g.sequence ∧
      (n.take k q good).1.polarity = some g.sync ∧
      ((.polarityChange, some k) ∈ (n.take k q good).2 ↔
        n.polarity ≠ none ∧ n.polarity ≠ some g.sync)) ∧
    (judgeSequence none g.sequence = .normal ∧
      ∀ last,
        (judgeSequence (some last) g.sequence = .normal ↔ g.sequence = (last + 1) % 16) ∧
        (judgeSequence (some last) g.sequence = .repeated ↔ g.sequence = last) ∧
        (judgeSequence (some last) g.sequence = .gap ↔
          g.sequence ≠ (last + 1) % 16 ∧ g.sequence ≠ last)) ∧
    (∀ (table : List SpeciesGroup) (nodes : NodeTables) (db : Option Nat) (slot : ProbeRecord)
        (sweep : Nat),
      slot.node = n →
      let after := readingAfter table nodes db slot sweep good
      let converted (gap : Bool) :=
        (convert table nodes db slot sweep gap g.payload).orElse fun _ => slot.reading
      (g.kind ≠ .reading ∨ n.lastSequence = some g.sequence → after = slot.reading) ∧
      (g.kind = .reading → n.lastSequence = none → after = converted false) ∧
      (∀ last, g.kind = .reading → n.lastSequence = some last → g.sequence ≠ last →
        after = converted (decide (g.sequence ≠ (last + 1) % 16))))

/-- The end of a quarantine: an ISOLATED record becomes UNSEEN with its window emptied, its count 0, its last
sequence number and its quarantine absent, and its polarity kept (R53); every other record stays as it is.
Node numbers 64..71 are the air points (R54). -/
def Obligations.QuarantineEnds : Prop :=
  ∀ (k : Fin 72) (s : State), s.resetHeld = false →
    (∀ p, k.val < 64 → s.nodes.probes[k.val]? = some p → p.node.state = .isolated →
      exec (.quarantineEnd k) s =
        .next
          { s with
            nodes :=
              { s.nodes with
                probes :=
                  s.nodes.probes.set k.val
                    { p with
                      node :=
                        { p.node with
                          state := .unseen, window := [], misses := 0, lastSequence := none,
                          quarantine := none } } } }) ∧
    (∀ a, 64 ≤ k.val → s.nodes.airs[k.val - 64]? = some a → a.node.state = .isolated →
      exec (.quarantineEnd k) s =
        .next
          { s with
            nodes :=
              { s.nodes with
                airs :=
                  s.nodes.airs.set (k.val - 64)
                    { a with
                      node :=
                        { a.node with
                          state := .unseen, window := [], misses := 0, lastSequence := none,
                          quarantine := none } } } })

/-! ## Readings and evaluations -/

/-- The conversion of a probe's READING payload (R72 to R78), for a slot whose species group is `g`: a malformed
payload brings no reading; the first failing test of stage 1 gives the cause; a breakpoint gives its MC20, a code
outside the curve the nearer end's with its clamp mark, and one between two neighbours the interpolated one; the
wood temperature comes from the probe, the zone air or the setpoint; and MC is MC20 by the clamped factor. -/
def Obligations.ReadingConverted : Prop :=
  (∀ (table : List SpeciesGroup) (nodes : NodeTables) (db : Option Nat) (slot : ProbeRecord)
      (sweep : Nat) (gap : Bool) (payload : List Byte) (g : SpeciesGroup),
    table[slot.group]? = some g →
    let l := field16 payload 0
    let pin := (byteAt payload 2).getLsbD 0
    let carries := (byteAt payload 2).getLsbD 1
    let fault := (byteAt payload 2).getLsbD 2
    let made (v : Validity) :=
      convert table nodes db slot sweep gap payload =
        some { lcode := l, validity := v, seqGap := gap, sweep := sweep, age := 0 }
    let formed := 3 ≤ payload.length ∧ l ≤ 4095 ∧ (carries = true → 5 ≤ payload.length)
    let zoneAir := (nodes.zoneDb slot.zone).bind AirRecord.freshTemp
    let valid (t : Int) (source : TempSource) : Validity :=
      .valid
        { wood := t, source := source, mc20 := (readCurve g.points l).1,
          mc :=
            min 999
              (roundHalfUp
                ((readCurve g.points l).1 *
                  (max 250 (min 1250 (1000 - roundHalfAway ((g.slope : Int) * (t - 200)) 10))).toNat)
                1000),
          clamp := (readCurve g.points l).2 }
    (¬formed → convert table nodes db slot sweep gap payload = none) ∧
    (formed → l = 0 → made (.invalid .short)) ∧
    (formed → l = 4095 → made (.invalid .open)) ∧
    (formed → 0 < l → l < 4095 → pin = true → made (.invalid .pinFault)) ∧
    (formed → 0 < l → l < 4095 → pin = false → g.points = [] → made (.invalid .noCurve)) ∧
    (formed → 0 < l → l < 4095 → pin = false → g.points ≠ [] →
      (carries = true → fault = false →
        made (valid (max (-200) (min 1200 (fieldSigned payload 3))) .probe)) ∧
      (∀ t, carries = false ∨ fault = true → zoneAir = some t →
        made (valid (max (-200) (min 1200 t)) .zoneAir)) ∧
      (∀ t, carries = false ∨ fault = true → zoneAir = none → db = some t →
        made (valid t .setpoint)) ∧
      (carries = false ∨ fault = true → zoneAir = none → db = none →
        made (valid 200 .setpoint)))) ∧
  (∀ (points : List (Nat × Nat)) (l : Nat), curveOrdered points = true →
    (∀ a rest, points = a :: rest → l < a.1 → readCurve points l = (a.2, .wet)) ∧
    (∀ front a, points = front ++ [a] → a.1 < l → readCurve points l = (a.2, .dry)) ∧
    (∀ a ∈ points, l = a.1 → readCurve points l = (a.2, .none)) ∧
    (∀ front a b rest, points = front ++ a :: b :: rest → a.1 < l → l < b.1 →
      readCurve points l =
        (a.2 - roundHalfUp ((l - a.1) * (a.2 - b.2)) (b.1 - a.1), .none)))

/-- An evaluation (R85 to R90, R93): the usable slots are the included ACTIVE ones with a VALID reading not older
than the stale limit; it is blind with none, or with fewer than Q; otherwise the controlling set is the first
min(W, n) in the strict ranking by higher MC and lower slot, with its mean rounded half up; wettest and driest
are taken over all usable slots; and the rate is against the oldest record of the history over 30 minutes or
more.  A non-blind evaluation made while a charge is active joins the history, whose oldest record goes where it
would be the ninth; where its sweep number is not above the newest record's the history is emptied first, and the
rate is absent; any other evaluation leaves the history as it was (R91).  The record carries the
charge minute while a charge is active, and outside a charge a minute of 0 and no rate (R90, R93). -/
def Obligations.EvaluationBuilt : Prop :=
  ∀ (probes : List ProbeRecord) (p : ChargeParams) (c : Charge) (history : List EvalRecord)
    (sweep : Nat),
    let e := evaluate probes p c history sweep
    let usable := usableSlots probes p.stale
    let before (a b : Nat × Nat) := b.2 < a.2 ∨ (a.2 = b.2 ∧ a.1 < b.1)
    (∀ slot mc, (slot, mc) ∈ usable ↔
      ∃ q r v, probes[slot]? = some q ∧ q.incl = true ∧ q.node.state = .active ∧
        q.reading = some r ∧ r.age ≤ p.stale ∧ r.validity = .valid v ∧ v.mc = mc) ∧
    e.sweep = sweep ∧ e.n = usable.length ∧
    (c.state = .warmup ∨ c.state = .running ∨ c.state = .hold ∨ c.state = .cooldown →
      e.minute = c.minute) ∧
    (c.state = .idle ∨ c.state = .complete → e.minute = 0 ∧ e.rate = none) ∧
    (e.blind = true ↔ usable.length = 0 ∨ usable.length < p.q) ∧
    (e.blind = true → e.k = 0 ∧ e.controlling = none ∧ e.slots = [] ∧ e.rate = none) ∧
    (usable = [] → e.wettest = none ∧ e.driest = none) ∧
    (usable ≠ [] →
      (∃ w, e.wettest = some w ∧ w ∈ usable ∧ ∀ v ∈ usable, v ≠ w → before w v) ∧
      (∃ d, e.driest = some d ∧ d ∈ usable ∧
        ∀ v ∈ usable, v ≠ d → d.2 < v.2 ∨ (d.2 = v.2 ∧ d.1 < v.1))) ∧
    (e.blind = false →
      ∃ set rest : List (Nat × Nat),
        (set ++ rest).Perm usable ∧ (set ++ rest).Pairwise before ∧
        set.length = min p.w usable.length ∧ e.k = set.length ∧ e.slots = set.map Prod.fst ∧
        e.controlling = some (roundHalfUp (set.map Prod.snd).sum set.length)) ∧
    (∀ old more mc, e.blind = false → c.state.active = true →
      history.getLast?.map (fun r => decide (r.sweep < sweep)) = some true →
      history = old :: more → e.controlling = some mc →
      let span := (c.minute : Int) - old.minute
      e.rate =
        if span < 30 then none
        else
          some
            (max (-999)
              (min 999 ((((old.controlling.getD 0 : Nat) : Int) - mc) * 60 |>.tdiv span)))) ∧
    (e.blind = true ∨ c.state.active = false → joinHistory history c e = history) ∧
    (e.blind = false → c.state.active = true →
      (history = [] → joinHistory history c e = [e] ∧ e.rate = none) ∧
      ∀ newest, history.getLast? = some newest →
        (newest.sweep < sweep → history.length < 8 → joinHistory history c e = history ++ [e]) ∧
        (newest.sweep < sweep → history.length = 8 →
          joinHistory history c e = history.drop 1 ++ [e]) ∧
        (sweep ≤ newest.sweep → joinHistory history c e = [e] ∧ e.rate = none))

/-- What an evaluation does to the charge.  In RUNNING with no amendment pending (R105, R106, R107): a non-blind one
sets the blind counter to 0, counts the confirmation up to C or back to 0 as its criterion is satisfied, and sets trim by the
rate; a blind one counts the blind counter up to B, and at B the charge is held for BLIND with return state
RUNNING and HOLD_ENTERED raised.  In HOLD with return state RUNNING a non-blind one removes BLIND, and the charge
returns when no cause is left, and a blind one at B adds BLIND with no event (R107, R113); held from WARMUP, and in
the other states, nothing is judged.  In WARMUP, RUNNING and HOLD a pending amendment is then written to its step
and its targets taken, with the counter at 0 and the overdue mark clear, whatever the evaluation said (R117). -/
def Obligations.EvaluationApplied : Prop :=
  (∀ (s : State) (e : EvalRecord) (r : StepRecord),
    let c := s.schedule.charge
    let p := s.schedule.params
    let t := applyEvaluation e s
    c.state = .running → c.amendment = none → s.schedule.current = some r →
    (e.blind = false →
      t.schedule.charge.blinds = 0 ∧ t.schedule.charge.state = .running ∧
      (∀ mc, r.criterion = .ctrlBelow → e.controlling = some mc →
        t.schedule.charge.confirmation =
          if mc ≤ r.value then min p.c (c.confirmation + 1) else 0) ∧
      (∀ slot mc, r.criterion = .driestBelow → e.driest = some (slot, mc) →
        t.schedule.charge.confirmation =
          if mc ≤ r.value then min p.c (c.confirmation + 1) else 0) ∧
      (∀ slot mc, r.criterion = .wettestBelow → e.wettest = some (slot, mc) →
        t.schedule.charge.confirmation =
          if mc ≤ r.value then min p.c (c.confirmation + 1) else 0) ∧
      (r.criterion = .dwell → t.schedule.charge.confirmation = c.confirmation) ∧
      (∀ rate, r.phase = .dry → r.rateLimit ≠ 0 → e.rate = some rate →
        t.schedule.charge.trim = decide ((r.rateLimit : Int) < rate) ∧
          t.events =
            if (r.rateLimit : Int) < rate then s.events.latch (.rateExceeded, some c.step)
            else s.events) ∧
      (r.phase = .dry → r.rateLimit ≠ 0 → e.rate = none → t.schedule.charge.trim = c.trim) ∧
      (r.phase ≠ .dry ∨ r.rateLimit = 0 → t.schedule.charge.trim = false)) ∧
    (e.blind = true → c.blinds + 1 < p.b →
      t = { s with schedule := { s.schedule with charge := { c with blinds := c.blinds + 1 } } }) ∧
    (e.blind = true → p.b ≤ c.blinds + 1 →
      t =
        raise (.holdEntered, some c.step)
          { s with
            schedule :=
              { s.schedule with
                charge :=
                  { c with
                    blinds := p.b, state := .hold, returnState := some .running,
                    causes := { operator := false, blind := true } } } })) ∧
  (∀ (s : State) (e : EvalRecord),
    let c := s.schedule.charge
    let p := s.schedule.params
    let t := applyEvaluation e s
    (c.state = .idle ∨ c.state = .cooldown ∨ c.state = .complete → t = s) ∧
    (c.state = .warmup ∨ (c.state = .hold ∧ c.returnState = some .warmup) → c.amendment = none →
      t = s) ∧
    (c.state = .hold → c.returnState = some .running → c.amendment = none →
      (e.blind = false →
        t.schedule.charge.blinds = 0 ∧ t.schedule.charge.causes.blind = false ∧
        t.schedule.charge.causes.operator = c.causes.operator ∧
        (c.causes.operator = true →
          t.schedule.charge.state = .hold ∧ t.schedule.charge.returnState = some .running) ∧
        (c.causes.operator = false →
          t.schedule.charge.state = .running ∧ t.schedule.charge.returnState = none)) ∧
      (e.blind = true → c.blinds + 1 < p.b →
        t = { s with schedule := { s.schedule with charge := { c with blinds := c.blinds + 1 } } }) ∧
      (e.blind = true → p.b ≤ c.blinds + 1 →
        t =
          { s with
            schedule :=
              { s.schedule with
                charge :=
                  { c with
                    blinds := p.b, causes := { operator := c.causes.operator, blind := true } } } })) ∧
    (∀ k r, c.state = .warmup ∨ c.state = .running ∨ c.state = .hold → c.amendment = some (k, r) →
      let plain :=
        applyEvaluation e
          { s with schedule := { s.schedule with charge := { c with amendment := none } } }
      t =
        { plain with
          schedule :=
            { plain.schedule with
              steps := s.schedule.steps.set k (some r),
              charge :=
                { plain.schedule.charge with
                  confirmation := 0, stepOverdue := false,
                  setpoints :=
                    c.setpoints.map fun q =>
                      { q with targetDb := r.dbTarget, targetDep := r.depTarget } } } }))

/-! ## The timers of chapter 2 and the Climate Unit -/

/-- A sweep timer expiry restarts the timer (R24) and acts by R25: with no sweep in progress a sweep starts
with the next sweep number at position 0 (R26), and where no slot is pollable it completes as it starts with a
blind evaluation (R27); with one in progress a sweep is made pending; with one pending already SWEEP_OVERRUN
is raised.  A sweep with no READ in flight and no pollable slot at or above its position completes at a selection,
and at the delivery of its last READ's outcome; with a pollable slot left it goes on (R27).  At completion the
readings of other sweeps age by one, up to 255 (R80), the evaluation of its sweep number is made, kept as the latest
and joined to the history (R83, R91), BLIND_EVAL is latched where it is blind and only there (R86, R94), and a pending sweep starts at once with the next number (R27). -/
def Obligations.SweepTimerExpires : Prop :=
  (∀ s : State, s.resetHeld = false →
    (s.line.sweeping = false → (∃ p ∈ s.nodes.probes, p.node.pollable = true) →
      exec .sweepTimerExpiry s =
        .next
          { s with
            line :=
              { s.line with
                sweepTimer := s.lineParams.sweepPeriod, sweeping := true, sweepPosition := 0,
                sweepNumber := (s.line.sweepNumber + 1) % 2 ^ 32 } }) ∧
    (s.line.sweeping = false → (∀ p ∈ s.nodes.probes, p.node.pollable = false) →
      s.line.condition = .idle →
      ∃ t, exec .sweepTimerExpiry s = .next t ∧
        t.line =
          { s.line with
            sweepTimer := s.lineParams.sweepPeriod, sweeping := false, sweepPosition := 0,
            sweepNumber := (s.line.sweepNumber + 1) % 2 ^ 32 } ∧
        t.evaluator.latest.map (fun e => (e.sweep, e.n, e.blind)) =
          some ((s.line.sweepNumber + 1) % 2 ^ 32, 0, true) ∧
        (s.events.flags.length = 25 → t.events.latched 12 = true)) ∧
    (s.line.sweeping = true → s.line.sweepPending = false →
      exec .sweepTimerExpiry s =
        .next
          { s with
            line :=
              { s.line with sweepTimer := s.lineParams.sweepPeriod, sweepPending := true } }) ∧
    (s.line.sweeping = true → s.line.sweepPending = true →
      exec .sweepTimerExpiry s =
        .next
          (raise (.sweepOverrun, none)
            { s with line := { s.line with sweepTimer := s.lineParams.sweepPeriod } }))) ∧
  (∀ s : State, s.resetHeld = false → s.line.sweeping = true →
    let spent :=
      ∀ (j : Nat) (p : ProbeRecord), s.line.sweepPosition ≤ j → s.nodes.probes[j]? = some p →
        p.node.pollable = false
    let aged (p : ProbeRecord) : ProbeRecord :=
      { p with
        reading :=
          p.reading.map fun r =>
            if r.sweep = s.line.sweepNumber then r else { r with age := min 255 (r.age + 1) } }
    let evaluated (t : State) :=
      let e :=
        evaluate t.nodes.probes s.schedule.params s.schedule.charge s.evaluator.history
          s.line.sweepNumber
      t.evaluator =
          { latest := some e, history := joinHistory s.evaluator.history s.schedule.charge e } ∧
        (e.blind = true → s.events.flags.length = 25 → t.events.latched 12 = true) ∧
        (e.blind = false → t.events.flags[12]? = s.events.flags[12]?)
    let next := (s.line.sweepNumber + 1) % 2 ^ 32
    (s.line.condition = .idle → spent →
      ∃ t, exec .lineSelect s = .next t ∧ t.line.sweepPending = false ∧
        (s.line.sweepPending = false →
          t.line.sweeping = false ∧ t.line.sweepNumber = s.line.sweepNumber ∧ evaluated t ∧
          t.nodes.probes = s.nodes.probes.map aged) ∧
        (s.line.sweepPending = true → (∃ p ∈ s.nodes.probes, p.node.pollable = true) →
          t.line.sweeping = true ∧ t.line.sweepNumber = next ∧ evaluated t ∧
          t.nodes.probes = s.nodes.probes.map aged) ∧
        (s.line.sweepPending = true → (∀ p ∈ s.nodes.probes, p.node.pollable = false) →
          t.line.sweeping = false ∧ t.line.sweepNumber = next ∧
          t.evaluator.latest.map (·.sweep) = some next)) ∧
    ∀ (o : OutcomeRecord) (i : Nat), o.request.owner = .probe i → i < s.line.sweepPosition →
      let t := deliver o s
      (spent → s.line.sweepPending = false →
        t.line.sweeping = false ∧ t.line.sweepNumber = s.line.sweepNumber ∧ evaluated t ∧
        ∀ j, j ≠ i → t.nodes.probes[j]? = (s.nodes.probes[j]?).map aged) ∧
      (spent → s.line.sweepPending = true →
        (∃ j p, j ≠ i ∧ s.nodes.probes[j]? = some p ∧ p.node.pollable = true) →
        t.line.sweeping = true ∧ t.line.sweepPending = false ∧ t.line.sweepPosition = 0 ∧
        t.line.sweepNumber = next ∧ evaluated t) ∧
      (¬spent →
        t.line.sweeping = true ∧ t.line.sweepPosition = s.line.sweepPosition ∧
        t.evaluator = s.evaluator))

/-- A climate cycle expiry restarts its timer and sets the poll-due mark of every air point that is neither
EMPTY nor ISOLATED (R24, R30), and ages the count of every configured air point by 1, up to 255 (R55); nothing
else of the Line Arbiter and the Node Tables changes.  In IDLE and COMPLETE and while the fans coast the Climate Unit
does nothing (R127, R128, R136): its state and the commanded values stay, and neither ZONE_BLIND nor HUMIDITY_BLIND is
raised.  In COOLDOWN with the fans running the cooldown demands are set again (R138), present at 0 for the zones with
a configured ZONE_DB entry.  With the fans running, in WARMUP, RUNNING, HOLD and COOLDOWN, every commanded value is
formed from the demands of this expiry (R127, R145). -/
def Obligations.ClimateExpiryMarksAndAges : Prop :=
  ∀ s : State, s.resetHeld = false →
    ∃ t, exec .climateCycleExpiry s = .next t ∧
      { t.line with pollDue := s.line.pollDue, climateTimer := s.line.climateTimer } = s.line ∧
      t.line.climateTimer = s.lineParams.climateCycle ∧
      (∀ (i : Nat) (a : AirRecord), s.nodes.airs[i]? = some a →
        t.line.pollDue[i]? =
          (s.line.pollDue[i]?).map fun d =>
            d || (a.node.state != .empty && a.node.state != .isolated)) ∧
      { t.nodes with airs := s.nodes.airs } = s.nodes ∧
      (∀ (i : Nat) (a : AirRecord), s.nodes.airs[i]? = some a →
        t.nodes.airs[i]? =
          some
            { a with
              cycles := if a.node.address = none then a.cycles else min 255 (a.cycles + 1) }) ∧
      let c := s.schedule.charge
      let turning := s.climate.fan = .forward ∨ s.climate.fan = .reverse
      (c.state = .idle ∨ c.state = .complete ∨ s.climate.fan = .coastR ∨ s.climate.fan = .coastF →
        t.climate = s.climate ∧ t.outputs = s.outputs ∧
          t.events.flags[18]? = s.events.flags[18]? ∧ t.events.flags[19]? = s.events.flags[19]?) ∧
      (c.state = .cooldown → turning →
        { t.climate with
          zones := s.climate.zones, vent := s.climate.vent, spray := s.climate.spray } = s.climate ∧
        t.climate.vent = some s.schedule.params.coolVent ∧ t.climate.spray = some 0 ∧
        t.climate.zones.length = s.climate.zones.length ∧
        ∀ (z : Nat) (l : ZoneLoop), 1 ≤ z → s.climate.zones[z - 1]? = some l →
          t.climate.zones[z - 1]? =
            some
              { l with
                demand := if s.nodes.zoneDb z = none then none else some 0, value := 0,
                mode := .tracking, stale := 0 }) ∧
      (turning →
        c.state = .cooldown ∨
          ((c.state = .warmup ∨ c.state = .running ∨ c.state = .hold) ∧ c.setpoints ≠ none) →
        t.outputs =
          { s.outputs with entries := s.outputs.entries.map (Actuator.form t.climate) })

/-- The heat loop of a zone at a climate cycle expiry with the fans running, in WARMUP, RUNNING and HOLD: with a
fresh temperature (judged after the ageing, R55) it tracks, by R130; with none it holds, and drops the zone once
the stale count is above the stale hold (R131); with no configured ZONE_DB entry its demand is NONE (R132).  A drop,
and only a drop, raises ZONE_BLIND, with the zone as detail (R131). -/
def Obligations.HeatLoopRuns : Prop :=
  ∀ (s : State) (sp : Setpoints) (z : Nat) (l : ZoneLoop),
    s.resetHeld = false → s.climate.fan = .forward ∨ s.climate.fan = .reverse →
    s.schedule.charge.state = .warmup ∨ s.schedule.charge.state = .running ∨
      s.schedule.charge.state = .hold →
    s.schedule.charge.setpoints = some sp → 1 ≤ z → s.climate.zones[z - 1]? = some l →
    let p := s.climate.params
    ∃ t, exec .climateCycleExpiry s = .next t ∧
      (∀ a m, s.nodes.zoneDb z = some a → a.lastTemp = some m → a.cycles ≤ 1 →
        let raw :=
          clampToNat 100
            ((p.heatBias : Int) + roundHalfAway (((sp.activeDb : Int) - m) * p.heatGain) 10)
        let v := moveToward p.heatSlew l.value raw
        t.climate.zones[z - 1]? =
          some { demand := some v, value := v, mode := .tracking, stale := 0, measured := some m }) ∧
      (∀ a, s.nodes.zoneDb z = some a → a.lastTemp = none ∨ 2 ≤ a.cycles →
        t.climate.zones[z - 1]? =
          some
            (if l.mode ≠ .dropped ∧ min 31 (l.stale + 1) ≤ p.staleHold then
              { demand := some l.value, value := l.value, mode := .holding,
                stale := min 31 (l.stale + 1), measured := none }
            else
              { demand := some 0, value := 0, mode := .dropped, stale := min 31 (l.stale + 1),
                measured := none })) ∧
      (s.nodes.zoneDb z = none →
        t.climate.zones[z - 1]? =
          some { demand := none, value := 0, mode := .tracking, stale := 0, measured := none }) ∧
      let drops (y : Nat) :=
        1 ≤ y ∧ ∃ a m, s.nodes.zoneDb y = some a ∧ (a.lastTemp = none ∨ 2 ≤ a.cycles) ∧
          s.climate.zones[y - 1]? = some m ∧ m.mode ≠ .dropped ∧ p.staleHold < min 31 (m.stale + 1)
      ((∀ y, ¬drops y) → t.events.flags[19]? = s.events.flags[19]?) ∧
      (drops z → s.events.flags[19]? = some { set := false, detail := none } →
        ∃ y, drops y ∧ t.events.flags[19]? = some { set := true, detail := some y })

/-- The humidity loop at the same expiry: the fresh point of highest rank gives the measured WB (R133), and the
error against the WB target gives one of vent and spray, or neither, by the table of R134; with no fresh point
both are 0 and HUMIDITY_BLIND is latched. -/
def Obligations.HumidityLoopRuns : Prop :=
  ∀ (s : State) (sp : Setpoints),
    s.resetHeld = false → s.climate.fan = .forward ∨ s.climate.fan = .reverse →
    s.schedule.charge.state = .warmup ∨ s.schedule.charge.state = .running ∨
      s.schedule.charge.state = .hold →
    s.schedule.charge.setpoints = some sp →
    let fresh (i : Option Nat) :=
      i.bind fun i => (s.nodes.airs[i]?).bind fun (a : AirRecord) =>
        if a.cycles + (if a.node.address = none then 0 else 1) ≤ 2 then a.lastTemp else none
    let primary := fresh s.nodes.wbPoints.1
    let secondary := fresh s.nodes.wbPoints.2
    let d := s.climate.params.deadband
    let demands (h : Int) (c : Climate) :=
      ((d : Int) < h →
        c.vent = some (clampToNat 100 (roundHalfAway ((h - d) * s.climate.params.ventGain) 10)) ∧
          c.spray = some 0) ∧
      (h < -(d : Int) →
        c.vent = some 0 ∧
          c.spray = some (clampToNat 100 (roundHalfAway ((-h - d) * s.climate.params.sprayGain) 10))) ∧
      (-(d : Int) ≤ h → h ≤ d → c.vent = some 0 ∧ c.spray = some 0)
    ∃ t, exec .climateCycleExpiry s = .next t ∧
      (∀ m, primary = some m →
        t.climate.source = .primary ∧ t.climate.measuredWb = some m ∧
          demands (m - sp.wbTarget) t.climate) ∧
      (∀ m, primary = none → secondary = some m →
        t.climate.source = .secondary ∧ t.climate.measuredWb = some m ∧
          demands (m - sp.wbTarget) t.climate) ∧
      (primary = none → secondary = none →
        t.climate.source = .none ∧ t.climate.measuredWb = none ∧
          t.climate.vent = some 0 ∧ t.climate.spray = some 0 ∧
          (s.events.flags.length = 25 → t.events.latched 18 = true))

/-- An expiry of an actuator's refresh timer adds one to its owed count, saturating at 8, clears its retry wait
and restarts the timer; a count that stands at 8 after it raises ACTUATOR_STARVED with the table index (R24,
R32, R34).  A stopped timer (R36) does not expire: that its row changes nothing is the model's choice (assumption 5). -/
def Obligations.RefreshTimerExpires : Prop :=
  ∀ (s : State) (i : Fin 12) (a : Actuator), s.resetHeld = false →
    s.outputs.entries[i.val]? = some a →
    let after (owed : Int) : State :=
      { s with
        outputs := { s.outputs with entries := s.outputs.entries.set i.val { a with owed := owed } },
        line :=
          { s.line with
            refreshTimers := s.line.refreshTimers.set i.val (some s.lineParams.refresh),
            retryWait := s.line.retryWait.set i.val false } }
    (∀ left, s.line.refreshTimers[i.val]? = some (some left) → a.owed < 7 →
      exec (.refreshTimerExpiry i) s = .next (after (a.owed + 1))) ∧
    (∀ left, s.line.refreshTimers[i.val]? = some (some left) → 7 ≤ a.owed →
      exec (.refreshTimerExpiry i) s = .next (raise (.actuatorStarved, some i.val) (after 8))) ∧
    (s.line.refreshTimers[i.val]? = some none → exec (.refreshTimerExpiry i) s = .next s)

/-- The fan timers (R135, R136): a reversal timer expiry begins a coast with every present heat demand, vent and
spray at 0 and the loop values kept, and the coast timer started; a coast timer expiry ends it in the opposite
direction with the reversal timer started, unless the interval is 0.  Commanded values are formed again. -/
def Obligations.FanTimersExpire : Prop :=
  ∀ (s : State) (left : Nat), s.resetHeld = false →
    let coast (fan : FanState) : State :=
      formAll
        { s with
          climate :=
            { s.climate with
              fan := fan, reversalTimer := none, coastTimer := some s.climate.params.coast,
              zones := s.climate.zones.map fun l => { l with demand := l.demand.map fun _ => 0 },
              vent := some 0, spray := some 0 } }
    let run (fan : FanState) : State :=
      formAll
        { s with
          climate :=
            { s.climate with
              fan := fan, coastTimer := none,
              reversalTimer :=
                if s.climate.params.reversal = 0 then none else some s.climate.params.reversal } }
    (s.climate.fan = .forward → s.climate.reversalTimer = some left →
      exec .reversalTimerExpiry s = .next (coast .coastR)) ∧
    (s.climate.fan = .reverse → s.climate.reversalTimer = some left →
      exec .reversalTimerExpiry s = .next (coast .coastF)) ∧
    (s.climate.fan = .coastR → s.climate.coastTimer = some left →
      exec .coastTimerExpiry s = .next (run .reverse)) ∧
    (s.climate.fan = .coastF → s.climate.coastTimer = some left →
      exec .coastTimerExpiry s = .next (run .forward))

/-! ## Minute ticks -/

/-- Counts and ramps of a minute tick (R103): in HOLD the charge minute counts and the active values move toward
their targets, and no step test is made; in IDLE and COMPLETE, with setpoints or without, the schedule is unchanged;
and in no state does a minute tick change an active value by more than its ramp rate.  Every quarantine counts down
by one and its record becomes UNSEEN at 0, and no other record changes (R53).  Unless the tick ends the charge, the
reversal timer counts down by one and at its end the fans begin to coast, with the coast timer started, every present
heat demand, vent and spray at 0, and the commanded values formed (R135, R136); that the Schedule Engine acts before
both is assumption 7. -/
def Obligations.MinuteTickRamps : Prop :=
  ∀ s : State, s.resetHeld = false →
    let e := s.schedule
    ∃ t, exec .minuteTick s = .next t ∧
      (e.charge.state = .idle ∨ e.charge.state = .complete → t.schedule = e) ∧
      (∀ sp, e.charge.setpoints = some sp →
        let dep :=
          if e.charge.trim = true then sp.targetDep - (e.current.map (·.rateTrim)).getD 0
          else sp.targetDep
        let db := moveToward e.params.dbRamp sp.activeDb sp.targetDb
        let depression := moveToward e.params.depRamp sp.activeDep dep
        (e.charge.state = .hold →
          t.schedule =
            { e with
              charge :=
                { e.charge with
                  minute := min 16777215 (e.charge.minute + 1),
                  setpoints :=
                    some
                      { sp with
                        activeDb := db, activeDep := depression, wbTarget := db - depression } } }) ∧
        ∃ sp', t.schedule.charge.setpoints = some sp' ∧
          sp'.activeDb ≤ sp.activeDb + e.params.dbRamp ∧
          sp.activeDb ≤ sp'.activeDb + e.params.dbRamp ∧
          sp'.activeDep ≤ sp.activeDep + e.params.depRamp ∧
          sp.activeDep ≤ sp'.activeDep + e.params.depRamp) ∧
      let ticked (n : NodeRecord) : NodeRecord :=
        match n.state, n.quarantine with
        | .isolated, some 1 =>
          { n with
            state := .unseen, window := [], misses := 0, lastSequence := none, quarantine := none }
        | .isolated, some (q + 2) => { n with quarantine := some (q + 1) }
        | _, _ => n
      { t.nodes with probes := s.nodes.probes, airs := s.nodes.airs } = s.nodes ∧
      (∀ (i : Nat) (p : ProbeRecord), s.nodes.probes[i]? = some p → p.node.quarantine ≠ some 0 →
        t.nodes.probes[i]? = some { p with node := ticked p.node }) ∧
      (∀ (i : Nat) (a : AirRecord), s.nodes.airs[i]? = some a → a.node.quarantine ≠ some 0 →
        t.nodes.airs[i]? = some { a with node := ticked a.node }) ∧
      ((t.schedule.charge.state = .complete → e.charge.state = .complete) →
        let f := s.climate
        let g := t.climate
        let turned (coast : FanState) :=
          g.fan = coast ∧ g.reversalTimer = none ∧ g.coastTimer = some f.params.coast ∧
            g.vent = some 0 ∧ g.spray = some 0 ∧
            (∀ l ∈ g.zones, l.demand = none ∨ l.demand = some 0) ∧
            t.outputs.entries.map (Actuator.form g) = t.outputs.entries
        (f.reversalTimer = none →
          g.fan = f.fan ∧ g.reversalTimer = none ∧ g.coastTimer = f.coastTimer) ∧
        (∀ left, f.reversalTimer = some (left + 2) →
          g.fan = f.fan ∧ g.reversalTimer = some (left + 1) ∧ g.coastTimer = f.coastTimer) ∧
        (f.reversalTimer = some 1 → f.fan = .forward → turned .coastR) ∧
        (f.reversalTimer = some 1 → f.fan = .reverse → turned .coastF))

/-- The advance test of a minute tick in RUNNING (R109, R111), with the dwell counted first: an MC criterion
advances with the counter at C and the minimum dwell served, a DWELL criterion at its value; to the next step
with the counters reset, its targets taken, STEP_CHANGED latched and the step pulse started, or from the last
step into COOLDOWN with FINISHED noted; and with neither condition met and the step not overdue it stays.  A step
that does not advance and has served its maximum dwell is overdue once (R110): STEP_OVERDUE is latched, and with
action ALARM it stays with its overdue mark set, with action ADVANCE it is left as by an advance. -/
def Obligations.MinuteTickAdvances : Prop :=
  ∀ (s : State) (r : StepRecord) (sp : Setpoints) (n : Nat), s.resetHeld = false →
    let c := s.schedule.charge
    let k := c.step
    c.state = .running → c.setpoints = some sp → c.amendment = none →
    s.schedule.stepAt k = some r → s.schedule.params.stepCount = some n → c.dwell < 65535 →
    let due :=
      (r.criterion = .dwell ∧ r.value ≤ c.dwell + 1) ∨
        (r.criterion ≠ .dwell ∧ c.confirmation = s.schedule.params.c ∧ r.minDwell ≤ c.dwell + 1)
    ∃ t, exec .minuteTick s = .next t ∧
      (due → k + 1 < n →
        t.schedule.charge.step = k + 1 ∧ t.schedule.charge.state = .running ∧
        t.schedule.charge.dwell = 0 ∧ t.schedule.charge.confirmation = 0 ∧
        t.schedule.charge.trim = false ∧ t.schedule.charge.stepOverdue = false ∧
        t.schedule.charge.blinds = c.blinds ∧ t.events.stepPulse = true ∧
        (s.events.flags.length = 25 → t.events.latched 14 = true) ∧
        (∀ r', s.schedule.stepAt (k + 1) = some r' →
          (t.schedule.charge.setpoints.map fun p => (p.targetDb, p.targetDep)) =
            some (r'.dbTarget, r'.depTarget))) ∧
      (due → n ≤ k + 1 →
        t.schedule.charge.state = .cooldown ∧ t.schedule.charge.step = k ∧
        t.schedule.charge.noted = some .finished ∧ t.schedule.charge.coolMinutes = 0 ∧
        t.schedule.charge.dwell = 0 ∧ t.schedule.charge.trim = false ∧
        t.schedule.charge.returnState = none ∧ t.events.stepPulse = true) ∧
      (¬due → r.maxDwell = 0 ∨ c.dwell + 1 < r.maxDwell ∨ c.stepOverdue = true →
        t.schedule.charge.step = k ∧ t.schedule.charge.state = .running ∧
        t.schedule.charge.dwell = c.dwell + 1 ∧ t.events = s.events) ∧
      (¬due → r.maxDwell ≠ 0 → r.maxDwell ≤ c.dwell + 1 → c.stepOverdue = false →
        (s.events.flags.length = 25 → t.events.latched 15 = true) ∧
        (r.overdue = .alarm →
          t.schedule.charge.step = k ∧ t.schedule.charge.state = .running ∧
          t.schedule.charge.dwell = c.dwell + 1 ∧ t.schedule.charge.stepOverdue = true) ∧
        (r.overdue = .advance → k + 1 < n →
          t.schedule.charge.step = k + 1 ∧ t.schedule.charge.state = .running ∧
          t.schedule.charge.dwell = 0 ∧ t.schedule.charge.confirmation = 0 ∧
          t.schedule.charge.stepOverdue = false ∧ t.events.stepPulse = true ∧
          (s.events.flags.length = 25 → t.events.latched 14 = true)) ∧
        (r.overdue = .advance → n ≤ k + 1 →
          t.schedule.charge.state = .cooldown ∧ t.schedule.charge.step = k ∧
          t.schedule.charge.noted = some .finished ∧ t.schedule.charge.coolMinutes = 0 ∧
          t.schedule.charge.dwell = 0 ∧ t.events.stepPulse = true))

/-- The end tests of a minute tick (R104, R119), on the fresh temperatures of the configured ZONE_DB entries:
warm-up ends with active DB (after this tick's ramp) at target DB, a fresh zone, and every fresh zone within the
warm-up band; cooldown ends, with the noted result as the completion result and the Climate Unit in safe mode,
when the fresh zones are all at or below the end temperature or the cooldown maximum is reached.  A warm-up that
goes on at its maximum, if there is one, is overdue once: WARMUP_OVERDUE is latched and its mark set (R104). -/
def Obligations.WarmupAndCooldownEnd : Prop :=
  ∀ s : State, s.resetHeld = false →
    let c := s.schedule.charge
    let p := s.schedule.params
    let zones := s.nodes.freshZones
    (∀ sp, c.state = .warmup → c.setpoints = some sp →
      let near :=
        moveToward p.dbRamp sp.activeDb sp.targetDb = sp.targetDb ∧ zones ≠ [] ∧
          ∀ t ∈ zones, (sp.targetDb : Int) - p.warmBand ≤ t ∧ t ≤ (sp.targetDb : Int) + p.warmBand
      ∃ t, exec .minuteTick s = .next t ∧
        (near → t.schedule.charge.state = .running ∧ t.schedule.charge.dwell = 0 ∧
          t.schedule.charge.warmMinutes = min 65535 (c.warmMinutes + 1)) ∧
        (¬near → t.schedule.charge.state = .warmup) ∧
        (let overdue := p.warmMax ≠ 0 ∧ p.warmMax ≤ min 65535 (c.warmMinutes + 1) ∧ c.warmOverdue = false
         (¬near → overdue →
            t.schedule.charge.warmOverdue = true ∧
              (s.events.flags.length = 25 → t.events.latched 16 = true)) ∧
          (¬near → ¬overdue →
            t.schedule.charge.warmOverdue = c.warmOverdue ∧ t.events = s.events))) ∧
    (c.state = .cooldown →
      let cooled :=
        (zones ≠ [] ∧ ∀ t ∈ zones, t ≤ (p.coolEnd : Int)) ∨
          p.coolMax ≤ min 65535 (c.coolMinutes + 1)
      ∃ t, exec .minuteTick s = .next t ∧
        (cooled →
          t.schedule.charge.state = .complete ∧ t.schedule.charge.result = c.noted ∧
            t.schedule.charge.noted = none ∧ t.schedule.charge.amendment = none ∧
            t.climate = { Climate.powerOn with params := s.climate.params } ∧
            (s.events.flags.length = 25 → t.events.latched 20 = true)) ∧
        (¬cooled →
          t.schedule.charge.state = .cooldown ∧
            t.schedule.charge.coolMinutes = min 65535 (c.coolMinutes + 1)))

/-! ## Reset -/

/-- RESET low holds every block at its power-on values and sends nothing: DE, ALARM and the STATUS lines are low
and no character leaves (R174).  At the release the straps are sampled: 1..30 is the station address, and 0 and 31
are taken as 30 with STRAP_INVALID raised (R151; how the levels give the value is assumption 43).  That no other row changes anything while RESET is low and that the
straps and the queue of waiting rows are kept (assumption 31), and that a release with RESET high changes nothing
(assumption 5), are the model's. -/
def Obligations.ResetPin : Prop :=
  (∀ s : State, ∃ t, exec .resetAssert s = .next t ∧ t.resetHeld = true ∧ t.de = false ∧
    t.alarm = false ∧ (∀ n, t.statusLine n = false) ∧ t.loopOutChars = [] ∧ t.loopOutLevels = [] ∧
    t.pollOut = [] ∧ t.plTx = true ∧ t.pending = s.pending ∧
    { t with
      resetHeld := false, plp := { t.plp with rateHigh := false },
      loop :=
        { t.loop with
          strap := Config.resetStation, station := Config.resetStation, rateHigh := false },
      pending := [] } = State.reset) ∧
  (∀ (i : Instr) (s : State), s.resetHeld = true → i ≠ .resetAssert →
    (∀ stn p l, i ≠ .resetRelease stn p l) → exec i s = .next s) ∧
  (∀ (stn : BitVec 5) (prate lrate : Bool) (s : State),
    let up (station : Nat) : State :=
      { State.reset with
        plp := { Plp.powerOn with rateHigh := prate },
        loop :=
          { LoopPort.powerOn with strap := stn.toNat, station := station, rateHigh := lrate },
        pending := s.pending }
    (s.resetHeld = true → 1 ≤ stn.toNat → stn.toNat ≤ 30 →
      exec (.resetRelease stn prate lrate) s = .next (up stn.toNat)) ∧
    (s.resetHeld = true → stn.toNat = 0 ∨ stn.toNat = 31 →
      exec (.resetRelease stn prate lrate) s =
        .next (raise (.strapInvalid, some stn.toNat) (up 30))) ∧
    (s.resetHeld = false → exec (.resetRelease stn prate lrate) s = .next s))

/-- RESTART (R158, R172): its REPLY is offered and the Command Unit is still carrying it out, or, where the REPLY
cannot enter, it takes effect at once.  RESTART_EFFECT takes the effect with loop-out idle, and with the REPLY being
sent from the head of the Insert Queue, when the idle time after it begins (assumption 30).  Loop-in abandons a frame
in reception, or the first character of one, and waits for idle line (R165; that one already ready stays so is
assumption 39).  Its effect, with a
valid strap: the transaction is abandoned (R18: in SENDING no poll character after the one being sent is left; with
the driver kept in SENDING and LAG, assumption 24); the sweeps, the
poll-due marks, the searches, and the timer and retry wait of every configured actuator (R39; the sweep position stays,
assumption 25), the charge record, the evaluations, the
demands, the queues, the events and the supervision of every configured record return to their start, the
parameter tables, the calibration, the schedule, the survey map, the mask and the Pass-through List are kept. -/
def Obligations.RestartTakesEffect : Prop :=
  (∀ (s : State) (src tag : Byte) (args : List Byte),
    s.carries (namedCommand src 15#8 tag args) →
    (s.loop.insertQueue.length < 16 →
      exec (.restart src tag args) s =
        .next
          { s with
            loop :=
              { s.loop with
                insertQueue :=
                  s.loop.insertQueue ++
                    [{ frame :=
                         { dest := src, source := byte s.loop.station, kind := 1#8, edh := false,
                           eda := false, hops := 0, payload := [15#8, tag, 0#8] },
                       restartReply := true }] },
            command :=
              { s.command with current := some (namedCommand src 15#8 tag args), restarting := true } }) ∧
    (16 ≤ s.loop.insertQueue.length → exec (.restart src tag args) s = .next (restartEffect s))) ∧
  (∀ (s : State) (f : LoopFrame) (e : InsertEntry) (more : List InsertEntry),
    s.resetHeld = false → s.command.restarting = true → s.loop.out = .sending f .inserted →
    s.loop.insertQueue = e :: more → e.restartReply = true →
    exec .restartEffect s =
      .next (restartEffect { s with loop := { s.loop with out := .spacing } })) ∧
  (∀ s : State, s.resetHeld = false → s.command.restarting = true → s.loop.out = .idle →
    exec .restartEffect s = .next (restartEffect s)) ∧
  (∀ s : State, 1 ≤ s.loop.strap → s.loop.strap ≤ 30 →
    let t := restartEffect s
    t.schedule =
      { s.schedule with charge := { Charge.powerOn with number := s.schedule.charge.number } } ∧
    t.evaluator = { latest := none, history := [] } ∧
    t.climate = { Climate.powerOn with params := s.climate.params } ∧
    t.loop =
      { s.loop with
        station := s.loop.strap, repeatQueue := [], insertQueue := [], run := 0, reportCount := 0,
        reportGap := false, passGap := false,
        loopIn :=
          if s.loop.loopIn = .ready ∧ s.loop.loopRx.inCharacter = false then .ready else .waiting,
        out :=
          match s.loop.out with
          | .sending f _ => .sending f .none
          | .idle => .idle
          | .spacing => .spacing } ∧
    t.command = { current := none, restarting := false, waiting := [] } ∧
    t.events =
      { s.events with
        flags := s.events.flags.map fun _ => { set := false, detail := none }, stepPulse := false } ∧
    t.lineParams = s.lineParams ∧ t.calibration = s.calibration ∧ t.survey.map = s.survey.map ∧
    t.survey.condition = .idle ∧ t.survey.count = s.survey.count ∧
    (let driven := s.plp.phase = .sending ∨ s.plp.phase = .lag
     (s.plp.phase = .sending →
       t.plp =
         { s.plp with
           request := none, responseTimer := none, poll := s.plp.poll.take s.plp.pollNext }) ∧
     (s.plp.phase = .lag → t.plp = { s.plp with request := none, responseTimer := none }) ∧
     (¬driven →
       t.plp =
         { s.plp with
           phase := .idle, request := none, latched := none, poll := [], pollNext := 0, pollAge := 0,
           responseTimer := none, sync := none, fields := [], declaredEnd := none }) ∧
     t.line =
       { s.line with
         condition :=
           if s.line.condition = .idle then .idle else if driven then .abandoning else .idle,
         sweeping := false, sweepPending := false, sweepNumber := 0,
         sweepTimer := s.lineParams.sweepPeriod, climateTimer := s.lineParams.climateCycle,
         pollDue := s.line.pollDue.map fun _ => false,
         probeSearch := s.line.probeSearch.map fun _ => { polarity := .normal, tally := 0 },
         airSearch := s.line.airSearch.map fun _ => { polarity := .normal, tally := 0 },
         refreshTimers := t.line.refreshTimers, retryWait := t.line.retryWait }) ∧
    (∀ (i : Nat) (a : Actuator), s.outputs.entries[i]? = some a →
      t.line.refreshTimers[i]? =
        (s.line.refreshTimers[i]?).map
          (fun w => if a.address = none then w else some s.lineParams.refresh) ∧
      t.line.retryWait[i]? =
        (s.line.retryWait[i]?).map fun w => if a.address = none then w else false) ∧
    t.nodes.health = .up ∧ t.nodes.lineWindow = [] ∧ t.nodes.wb = s.nodes.wb ∧
    (∀ (i : Nat) (p : ProbeRecord) (a : Nat), s.nodes.probes[i]? = some p → p.node.address = some a →
      t.nodes.probes[i]? =
        some
          { p with
            node := { NodeRecord.blank with address := some a, state := .unseen },
            reading := none }) ∧
    (∀ (i : Nat) (p : AirRecord) (a : Nat), s.nodes.airs[i]? = some p → p.node.address = some a →
      t.nodes.airs[i]? =
        some
          { p with
            node := { NodeRecord.blank with address := some a, state := .unseen },
            lastTemp := none, cycles := 255 }) ∧
    ∀ (i : Nat) (a : Actuator), s.outputs.entries[i]? = some a →
      t.outputs.entries[i]? =
        some
          { a with
            override := .none, commanded := a.safe, acknowledged := none, echoed := none,
            state := .unseen, mismatches := 0, failed := 0, owed := 0 })

/-- LINE RESET and its scope (R18, R21, R38, R61, R68, R173): the transaction is abandoned, the sweep and the
survey end, the sweep timer restarts, retry waits and searches return to their start, every configured record
becomes UNSEEN with readings and temperatures kept, and the line is UP with an empty window; nothing else
changes before its REPLY is offered.  In SENDING the character being sent is completed and no further poll
character is sent, with DE high (R18; that the sixteenths are the raw levels of CHARACTER_RECEIVED is assumption 23).
An abandonment that completes brings the PLP to IDLE with nothing in
flight and the line to IDLE.  That DE stays until that event in SENDING and LAG (assumption 24), that the sweep
position is kept (assumption 25), and that on a line that is not being abandoned the event changes nothing
(assumption 5), are the model's readings. -/
def Obligations.LineResetAndAbandonment : Prop :=
  (∀ (s : State) (src tag : Byte) (args : List Byte),
    s.carries (namedCommand src 14#8 tag args) →
    ∃ t, exec (.lineReset src tag args) s = .next (finish src 14#8 tag (.ok t)) ∧
      { t with plp := s.plp, line := s.line, nodes := s.nodes, survey := s.survey } = s ∧
      t.plp.request = none ∧ t.plp.responseTimer = none ∧
      t.plp.phase =
        (if s.plp.phase = .sending ∨ s.plp.phase = .lag then s.plp.phase else .idle) ∧
      (s.plp.phase ≠ .sending → t.pollOut = []) ∧
      (s.plp.phase = .sending → s.pollPlaced → t.pollOut = s.pollOut.take 1 ∧
        ∀ raw : List Bool,
          ∃ u, exec (.characterReceived (.raw raw)) t = .next u ∧ u.de = true ∧
            u.pollOut = (s.pollOut.take 1).drop ((s.plp.pollAge + raw.length) / 176)) ∧
      t.line =
        { s.line with
          condition :=
            if s.line.condition = .idle then .idle
            else if s.plp.phase = .sending ∨ s.plp.phase = .lag then .abandoning
            else .idle,
          sweeping := false, sweepPending := false, sweepTimer := s.lineParams.sweepPeriod,
          retryWait := s.line.retryWait.map fun _ => false,
          probeSearch := s.line.probeSearch.map fun _ => { polarity := .normal, tally := 0 },
          airSearch := s.line.airSearch.map fun _ => { polarity := .normal, tally := 0 } } ∧
      t.survey =
        (if s.survey.condition = .idle then s.survey
          else { s.survey with condition := .idle, next := none, inFlight := none }) ∧
      t.nodes =
        { s.nodes with
          health := .up, lineWindow := [], probes := t.nodes.probes, airs := t.nodes.airs } ∧
      (∀ (i : Nat) (p : ProbeRecord), s.nodes.probes[i]? = some p →
        t.nodes.probes[i]? =
          some
            (match p.node.address with
              | some a =>
                { p with node := { NodeRecord.blank with address := some a, state := .unseen } }
              | none => p)) ∧
      (∀ (i : Nat) (p : AirRecord), s.nodes.airs[i]? = some p →
        t.nodes.airs[i]? =
          some
            (match p.node.address with
              | some a =>
                { p with node := { NodeRecord.blank with address := some a, state := .unseen } }
              | none => p))) ∧
  (∀ s : State, s.resetHeld = false →
    (s.line.condition = .abandoning →
      exec .abandonmentComplete s =
        .next
          { s with
            plp :=
              { s.plp with
                phase := .idle, request := none, latched := none, poll := [], pollNext := 0,
                pollAge := 0, responseTimer := none, sync := none, fields := [], declaredEnd := none },
            line := { s.line with condition := .idle } }) ∧
    (s.line.condition ≠ .abandoning → exec .abandonmentComplete s = .next s))

/-! ## The plant loop -/

/-- Frames on loop-in that are not for this station's Command Unit (R152, R154, R155, R157), each between idle line
and with no frame in reception.  A frame sent by another station, `f`, received with a good check: repeated with EDH
moved to EDA and one hop more, dropped with LOOP_OVERRUN where the Repeat Queue is full, discarded at hop count 31.
With a framing fault in it, it is bad: discarded with LOOP_CHECK_ERROR when it names this station, else repeated with
EDH set.  A frame of our own is removed, and a fragment is not repeated.  Characters during the wait for idle line are
discarded (R152, R165); and a frame may arrive in parts.  Each character is 10 bits, a start bit, eight data bits,
least significant first, and a stop bit (R152): the levels of a frame, with more than 2 character times of idle line,
which are 22 bit times (00_scope.md, section 6), on each side, are received as that frame, with a framing fault where the last stop bit is active; a character after
less idle line is discarded, and the wait begins again.  The levels themselves (assumption 46), and that a level stands
for a whole bit time and how characters and levels leave the receiver (assumption 47), are the model's. -/
def Obligations.LoopFramesRepeated : Prop :=
  ∀ (s₀ : State) (f : LoopFrame), s₀.resetHeld = false →
    (∀ chars framing, s₀.loop.loopIn ≠ .frame chars framing) →
    f.payload.length ≤ 120 → f.hops ≤ 31 →
    let s : State := { s₀ with loop := { s₀.loop with loopIn := .ready, loopRx := .hunting 23 } }
    let whole (chars : List Byte) (framing : Bool) :=
      exec (.loopFrameReceived (.chars chars framing) .whole) s₀
    let hears := whole f.chars
    let other := f.source.toNat ≠ s.loop.station
    let joined (g : LoopFrame) : State :=
      { s with loop := { s.loop with repeatQueue := s.loop.repeatQueue ++ [g] } }
    let good := { f with edh := false, eda := f.edh || f.eda, hops := f.hops + 1 }
    let bad := { f with edh := true, eda := f.edh || f.eda, hops := f.hops + 1 }
    let waits (idle : Nat) : State :=
      { s with loop := { s.loop with loopIn := .waiting, loopRx := .hunting idle } }
    let bits (b : Byte) (stop : Bool) := [false] ++ (List.range 8).map b.getLsbD ++ [stop]
    (other → f.dest.toNat ≠ s.loop.station → f.dest.toNat ≠ 31 → f.hops < 31 →
      s.loop.repeatQueue.length < 4 → hears false = .next (joined good)) ∧
    (other → f.dest.toNat ≠ s.loop.station → f.dest.toNat ≠ 31 → f.hops < 31 →
      4 ≤ s.loop.repeatQueue.length → hears false = .next (raise (.loopOverrun, none) s)) ∧
    (other → f.dest.toNat ≠ s.loop.station → f.dest.toNat ≠ 31 → f.hops = 31 →
      hears false = .next s) ∧
    (other → f.dest.toNat ≠ s.loop.station → f.hops < 31 → s.loop.repeatQueue.length < 4 →
      hears true = .next (joined bad)) ∧
    (other → f.dest.toNat = s.loop.station →
      hears true = .next (raise (.loopCheckError, none) s)) ∧
    (f.source.toNat = s.loop.station → ∀ framing, hears framing = .next s) ∧
    (∀ (d : Byte) (rest : List Byte) (framing : Bool), rest.length < 6 →
      whole (d :: rest) framing =
        .next (if d.toNat = s.loop.station then raise (.loopCheckError, none) s else s)) ∧
    (∀ (chars : List Byte) (framing : Bool) (idle : Nat), chars ≠ [] →
      exec
          (.loopFrameReceived (.chars chars framing) { idleBefore := false, idleAfter := false })
          (waits idle) =
        .next (waits 0)) ∧
    (∀ (first second : List Byte) (framing : Bool), first ≠ [] →
      ∃ t,
        exec
            (.loopFrameReceived (.chars first framing) { idleBefore := true, idleAfter := false })
            s₀ =
          .next t ∧
        exec
            (.loopFrameReceived (.chars second framing) { idleBefore := false, idleAfter := true })
            t =
          whole (first ++ second) framing) ∧
    (∀ (framing : Bool) (idle : Nat), s₀.loop.loopRx = .hunting idle →
      let drawn :=
        f.chars.dropLast.flatMap (fun b => bits b true) ++ bits (f.chars.getLastD 0#8) (!framing)
      exec (.loopFrameReceived (.bits drawn) .whole) s₀ = hears framing ∧
      exec
          (.loopFrameReceived (.bits (List.replicate 23 true ++ drawn ++ List.replicate 23 true))
            { idleBefore := false, idleAfter := false })
          s₀ =
        hears framing) ∧
    ∀ (b : Byte) (idle : Nat), idle ≤ 22 →
      exec
          (.loopFrameReceived (.bits (List.replicate idle true ++ bits b true))
            { idleBefore := false, idleAfter := false })
          (waits 0) =
        .next (waits 0)

/-- COMMAND frames for this station, between idle line and with no frame in reception (R154, R156, R157).  One with
clear marks goes to the Command Unit: it is the next to be carried out, or waits behind at most three others, or is discarded with LOOP_OVERRUN; sent to station
31 it is repeated as well.  One whose marks show damage is discarded with LOOP_CHECK_ERROR, and a frame of
another kind is discarded.  How the row's whole characters leave the receiver of loop-in, looking for a start bit with
the idle line counted, is the model's choice (assumption 47). -/
def Obligations.LoopCommandsTaken : Prop :=
  ∀ (s₀ : State) (f : LoopFrame), s₀.resetHeld = false →
    (∀ chars framing, s₀.loop.loopIn ≠ .frame chars framing) →
    f.payload.length ≤ 120 → f.hops ≤ 31 → f.source.toNat ≠ s₀.loop.station →
    let s : State := { s₀ with loop := { s₀.loop with loopIn := .ready, loopRx := .hunting 23 } }
    let hears := exec (.loopFrameReceived (.chars f.chars false) .whole) s₀
    let c : LoopCommand := { source := f.source, payload := f.payload }
    let clear := f.kind = 0#8 ∧ f.edh = false ∧ f.eda = false
    (f.dest.toNat = s.loop.station → clear → s.command.current = none →
      hears =
        .next { s with command := { s.command with current := some c } }) ∧
    (f.dest.toNat = s.loop.station → clear → s.command.current ≠ none →
      s.command.waiting.length < 4 →
      hears =
        .next { s with command := { s.command with waiting := s.command.waiting ++ [c] } }) ∧
    (f.dest.toNat = s.loop.station → clear → s.command.current ≠ none →
      4 ≤ s.command.waiting.length →
      hears = .next (raise (.loopOverrun, none) s)) ∧
    (f.dest.toNat = s.loop.station → f.kind = 0#8 → f.edh = true ∨ f.eda = true →
      hears = .next (raise (.loopCheckError, none) s)) ∧
    (f.dest.toNat = s.loop.station → f.kind ≠ 0#8 →
      hears = .next s) ∧
    (f.dest.toNat = 31 → s.loop.station ≠ 31 → clear → s.command.current = none → f.hops < 31 →
      s.loop.repeatQueue.length < 4 →
      hears =
        .next
          { s with
            loop :=
              { s.loop with
                repeatQueue := s.loop.repeatQueue ++ [{ f with hops := f.hops + 1 }] },
            command := { s.command with current := some c } })

/-- Loop-out is handed over by the table of R159: repeated frames go first, with one inserted frame after every 4
repeated ones while the Insert Queue holds frames; a frame being sent is sent whole.  A frame gives up its place
when it has left loop-out, and RESTART takes effect when its REPLY has (R157, R158, R172).  That the hand-over out of
the idle time is a row of its own (assumption 8), that the frame being sent keeps its place at the head of its queue
until then (assumption 36), and that LOOP_OUT_FRAME_SENT takes RESTART's effect (assumption 30), are the model's.
The characters of the frame being sent leave back to back, each as a start bit, eight data bits, least significant
first, and a stop bit (R152; a one at the idle level, assumption 46). -/
def Obligations.LoopOutHandedOver : Prop :=
  ∀ s : State, s.resetHeld = false →
    (∀ f o, s.loop.out = .sending f o →
      s.loopOutLevels =
        f.chars.flatMap fun b => [false] ++ (List.range 8).map b.getLsbD ++ [true]) ∧
    (s.loop.out = .idle ∨ s.loop.out = .spacing →
      (∀ f rest, s.loop.repeatQueue = f :: rest → s.loop.insertQueue = [] →
        exec .loopOutHandover s =
          .next { s with loop := { s.loop with out := .sending f .repeated, run := 0 } }) ∧
      (∀ f rest e more, s.loop.repeatQueue = f :: rest → s.loop.insertQueue = e :: more →
        s.loop.run ≤ 3 →
        exec .loopOutHandover s =
          .next
            { s with loop := { s.loop with out := .sending f .repeated, run := s.loop.run + 1 } }) ∧
      (∀ f rest e more, s.loop.repeatQueue = f :: rest → s.loop.insertQueue = e :: more →
        s.loop.run = 4 →
        exec .loopOutHandover s =
          .next { s with loop := { s.loop with out := .sending e.frame .inserted, run := 0 } }) ∧
      (∀ e more, s.loop.repeatQueue = [] → s.loop.insertQueue = e :: more →
        exec .loopOutHandover s =
          .next { s with loop := { s.loop with out := .sending e.frame .inserted, run := 0 } }) ∧
      (s.loop.repeatQueue = [] → s.loop.insertQueue = [] →
        exec .loopOutHandover s = .next { s with loop := { s.loop with out := .idle } })) ∧
    (∀ f o, s.loop.out = .sending f o → exec .loopOutHandover s = .next s) ∧
    (∀ f, s.loop.out = .sending f .repeated →
      exec .loopOutFrameSent s =
        .next
          { s with
            loop := { s.loop with out := .spacing, repeatQueue := s.loop.repeatQueue.drop 1 } }) ∧
    (∀ f e more, s.loop.out = .sending f .inserted → s.loop.insertQueue = e :: more →
      e.restartReply = false →
      exec .loopOutFrameSent s =
        .next { s with loop := { s.loop with out := .spacing, insertQueue := more } }) ∧
    (∀ f e more, s.loop.out = .sending f .inserted → s.loop.insertQueue = e :: more →
      e.restartReply = true →
      exec .loopOutFrameSent s =
        .next
          (restartEffect { s with loop := { s.loop with out := .spacing, insertQueue := more } }))

/-! ## The Command Unit -/

/-- The end of every command (R153, R158, R166, R182): its REPLY, with the command's kind and tag, the status and
the data, goes to the COMMAND's source at the end of the Insert Queue where at least one place is free, and is
not sent otherwise; and the oldest waiting COMMAND is carried out next.  A COMMAND row of any kind that comes while
another COMMAND is being carried out, or a RESTART waits to take effect, is its arrival (assumption 4): it waits
behind at most three others, and with four waiting is discarded with LOOP_OVERRUN (R156).  A step with no row
waiting carries out the COMMAND the Command Unit holds, however it came in, exactly as that COMMAND's own row does
(R166; the step is assumption 1's). -/
def Obligations.RepliesOfferedInTurn : Prop :=
  (∀ (src kind tag : Byte) (a : Answer),
    let t := a.state
    let next : CommandUnit :=
      { t.command with current := t.command.waiting.head?, waiting := t.command.waiting.drop 1 }
    let reply : LoopFrame :=
      { dest := src, source := byte t.loop.station, kind := 1#8, edh := false, eda := false,
        hops := 0, payload := [kind, tag, statusCode a.status] ++ a.data }
    (t.loop.insertQueue.length < 16 →
      finish src kind tag a =
        { t with
          loop :=
            { t.loop with
              insertQueue := t.loop.insertQueue ++ [{ frame := reply, restartReply := false }] },
          command := next }) ∧
    (16 ≤ t.loop.insertQueue.length → finish src kind tag a = { t with command := next })) ∧
  (∀ (s : State) (c : LoopCommand) (row : Instr),
    s.resetHeld = false →
    (∃ r ∈ commandRows, ∃ src tag args,
        row = r.2.2 src tag args ∧ c = namedCommand src r.1 tag (r.2.1 ++ args)) ∨
      row = .unknownCommand c.source c.payload →
    (∀ other, s.command.current = some other → other ≠ c ∨ s.command.restarting = true →
      (s.command.waiting.length < 4 →
        exec row s =
          .next { s with command := { s.command with waiting := s.command.waiting ++ [c] } }) ∧
      (4 ≤ s.command.waiting.length → exec row s = .next (raise (.loopOverrun, none) s))) ∧
    (s.pending = [] → s.command.current = some c → s.command.restarting = false →
      step s = exec row s))

/-- A command is refused as a whole (R167): whatever the command and its arguments, an answer whose status is
neither OK nor ADJUSTED leaves the whole machine as it was, and carries no data.  That a refused TABLE READ carries
none is the model's choice (assumption 40): R182 gives the data of its REPLY and does not speak of a refused one. -/
def Obligations.RefusalChangesNothing : Prop :=
  ∀ (kind : Nat) (answer : List Byte → State → Answer) (args : List Byte) (s : State),
    answerOf kind = some answer → (answer args s).status ≠ .ok → (answer args s).status ≠ .adjusted →
    (answer args s).state = s ∧ (answer args s).data = []

/-- READ STATUS answers OK with the status block, 112 bytes (R171, R184), and changes nothing; TABLE READ of a
range within a table answers the records of the range, as many whole ones as fit in a REPLY, ADJUSTED where
that is not all of them, and changes nothing (R169); a range beyond the table is refused, with a REPLY that carries no
data, which is the model's choice (assumption 40).  Where the layout of the block leaves a value open (the return state,
the WB selection, the first mismatch, absent setpoints, bits assigned to nothing), its bytes are the model's
(assumptions 12, 15, 16, 44, 48). -/
def Obligations.StatusAndTablesRead : Prop :=
  ∀ (s : State) (src tag : Byte),
    (∀ args, s.carries (namedCommand src 0#8 tag args) →
      exec (.readStatus src tag args) s =
        .next (finish src 0#8 tag { status := .ok, data := statusBlock s, state := s })) ∧
    (s.climate.zones.length = 4 → s.events.sources.length = 4 →
      (∀ e, s.evaluator.latest = some e → e.slots.length ≤ 16) → (statusBlock s).length = 112) ∧
    (∀ (table first count : Byte) (rest : List Byte) (size : Nat) (records : List (List Byte)),
      s.carries (namedCommand src 2#8 tag (table :: first :: count :: rest)) →
      tableRecords table.toNat s = some (size, records) → 1 ≤ count.toNat →
      (first.toNat + count.toNat ≤ records.length →
        let n := min count.toNat (114 / size)
        exec (.tableRead src tag (table :: first :: count :: rest)) s =
          .next
            (finish src 2#8 tag
              { status := if n < count.toNat then .adjusted else .ok,
                data :=
                  [table, first, byte n] ++ ((records.drop first.toNat).take n).flatten,
                state := s })) ∧
      (records.length < first.toNat + count.toNat →
        exec (.tableRead src tag (table :: first :: count :: rest)) s =
          .next (finish src 2#8 tag (.refuse .badArgument s))))

/-- TABLE WRITE by table code (R168): codes 0 to 8 are the writes of the nine writable tables, each as its own
row (that a TABLE_WRITE row may carry the code of a table with a row of its own is the model's, assumption 33), and
the read-only tables and codes that name no table are refused.  A write of several step records puts each in its
place and touches no other, and one faulty record refuses the whole (R167); one of several Pass-through entries, or
of one LINE_PARAMS value, stores what it carries (R4, R164).  A COMMAND whose kind names no command, or whose payload
is shorter than two bytes, is answered UNKNOWN_COMMAND (R167, R182). -/
def Obligations.WritesGoToTheirTables : Prop :=
  ∀ (s : State) (src tag : Byte) (args : List Byte),
    (s.carries (namedCommand src 1#8 tag (0#8 :: args)) →
      exec (.tableWrite src tag (0#8 :: args)) s = exec (.tableWriteProbe src tag args) s) ∧
    (s.carries (namedCommand src 1#8 tag (1#8 :: args)) →
      exec (.tableWrite src tag (1#8 :: args)) s = exec (.tableWriteAirpoint src tag args) s) ∧
    (s.carries (namedCommand src 1#8 tag (2#8 :: args)) →
      exec (.tableWrite src tag (2#8 :: args)) s = exec (.tableWriteActuator src tag args) s) ∧
    (s.carries (namedCommand src 1#8 tag (3#8 :: args)) →
      exec (.tableWrite src tag (3#8 :: args)) s = exec (.tableWriteCalibration src tag args) s) ∧
    (s.carries (namedCommand src 1#8 tag (4#8 :: args)) →
      exec (.tableWrite src tag (4#8 :: args)) s = exec (.tableWriteSchedule src tag args) s) ∧
    (s.carries (namedCommand src 1#8 tag (5#8 :: args)) →
      exec (.tableWrite src tag (5#8 :: args)) s = exec (.tableWriteChargeParams src tag args) s) ∧
    (s.carries (namedCommand src 1#8 tag (6#8 :: args)) →
      exec (.tableWrite src tag (6#8 :: args)) s = exec (.tableWriteClimateParams src tag args) s) ∧
    (s.carries (namedCommand src 1#8 tag (7#8 :: args)) →
      exec (.tableWrite src tag (7#8 :: args)) s = exec (.tableWriteLineParams src tag args) s) ∧
    (s.carries (namedCommand src 1#8 tag (8#8 :: args)) →
      exec (.tableWrite src tag (8#8 :: args)) s = exec (.tableWritePassList src tag args) s) ∧
    (∀ (i : Byte) (v : Nat), i.toNat < 9 → v < 65536 →
      s.carries (namedCommand src 1#8 tag ([7#8, i, 1#8] ++ le16 v)) →
      let w := max (lineRange i.toNat).1 (min (lineRange i.toNat).2 v)
      exec (.tableWrite src tag ([7#8, i, 1#8] ++ le16 v)) s =
        .next
          (finish src 1#8 tag
            (.done (decide (v ≠ w)) { s with lineParams := s.lineParams.set i.toNat w }))) ∧
    (∀ k k' r r' : Byte, ∀ kind kind' response response',
      nodeKindOf k = some kind → nodeKindOf k' = some kind' → responseOf r = some response →
      responseOf r' = some response' →
      s.carries (namedCommand src 1#8 tag [8#8, 3#8, 2#8, k, r, k', r']) →
      exec (.tableWrite src tag [8#8, 3#8, 2#8, k, r, k', r']) s =
        .next
          (finish src 1#8 tag
            (.ok
              { s with
                loop :=
                  { s.loop with
                    passList :=
                      (s.loop.passList.set 3 (some (kind, response))).set 4
                        (some (kind', response')) } }))) ∧
    (∀ k r : Byte, ∀ kind response, nodeKindOf k = some kind → responseOf r = some response →
      s.carries (namedCommand src 1#8 tag [8#8, 0#8, 1#8, k, r]) →
      exec (.tableWrite src tag [8#8, 0#8, 1#8, k, r]) s =
        .next
          (finish src 1#8 tag
            (.ok
              { s with
                loop := { s.loop with passList := s.loop.passList.set 0 (some (kind, response)) } }))) ∧
    (∀ table : Byte, 9 ≤ table.toNat → s.carries (namedCommand src 1#8 tag (table :: args)) →
      exec (.tableWrite src tag (table :: args)) s =
        .next (finish src 1#8 tag (.refuse .badArgument s))) ∧
    (∀ (first : Byte) (records : List (List Byte)),
      let write := first :: byte records.length :: records.flatten
      let last := first.toNat + records.length
      let k := s.schedule.charge.step
      s.carries (namedCommand src 1#8 tag (4#8 :: write)) → s.schedule.steps.length = 24 →
      1 ≤ records.length → last ≤ 24 → (∀ b ∈ records, b.length = 15) →
      s.schedule.charge.state.active = false ∨ k < first.toNat ∨ last ≤ k →
      ((∀ b ∈ records, ∃ r, parseStep b = some (r, false)) →
        ∃ t, exec (.tableWriteSchedule src tag write) s = .next (finish src 1#8 tag (.ok t)) ∧
          exec (.tableWrite src tag (4#8 :: write)) s = .next (finish src 1#8 tag (.ok t)) ∧
          { t with schedule := { t.schedule with steps := s.schedule.steps } } = s ∧
          (∀ j, j < first.toNat ∨ last ≤ j → t.schedule.steps[j]? = s.schedule.steps[j]?) ∧
          ∀ j b r, records[j]? = some b → parseStep b = some (r, false) →
            t.schedule.steps[first.toNat + j]? = some (some r)) ∧
      ((∃ b ∈ records, parseStep b = none) →
        exec (.tableWriteSchedule src tag write) s =
          .next (finish src 1#8 tag (.refuse .badArgument s)))) ∧
    (∀ kind : Byte, 20 ≤ kind.toNat → s.carries { source := src, payload := kind :: tag :: args } →
      exec (.unknownCommand src (kind :: tag :: args)) s =
        .next (finish src kind tag (.refuse .unknownCommand s))) ∧
    (∀ kind : Byte, s.carries { source := src, payload := [kind] } →
      exec (.unknownCommand src [kind]) s =
        .next (finish src kind 0#8 (.refuse .unknownCommand s))) ∧
    (s.carries { source := src, payload := [] } →
      exec (.unknownCommand src []) s = .next (finish src 0#8 0#8 (.refuse .unknownCommand s)))

/-! ## Writes to the node and actuator tables -/

/-- A write of one PROBE record (R40, R41, R45, R167): line address `a` (0 is absent), group `g` and zone `z`
clamped, Include `y`; what the record gives for the other fields, `rest`, is ignored.  With the address as it
was, only the configuration changes; with another, the slot is cleared, its search returns to its start, and the
outcome of a READ in flight is marked to be dropped.  A duplicate address and an address above 126 are
refused. -/
def Obligations.ProbeRecordWritten : Prop :=
  ∀ (s : State) (src tag i a g z y : Byte) (rest : List Byte) (p : ProbeRecord),
    let record := [i, 1#8, a, g, z, y] ++ rest
    s.carries (namedCommand src 1#8 tag (0#8 :: record)) → rest.length = 31 →
    s.nodes.probes[i.toNat]? = some p → i.toNat < 64 → y.toNat ≤ 1 →
    let address := if a.toNat = 0 then none else some a.toNat
    let adjusted := decide (7 < g.toNat ∨ z.toNat < 1 ∨ 4 < z.toNat)
    let kept : ProbeRecord :=
      { p with group := min 7 g.toNat, zone := max 1 (min 4 z.toNat), incl := decide (y.toNat = 1) }
    let fresh : ProbeRecord :=
      { kept with
        node :=
          { NodeRecord.blank with
            address := address, state := if a.toNat = 0 then .empty else .unseen },
        reading := none }
    let unique (q : ProbeRecord) :=
      uniqueAddresses
        (configuredRecords (s.nodes.probes.set i.toNat q) s.nodes.airs s.outputs.entries)
    (a.toNat ≤ 126 → p.node.address = address → unique kept = true →
      exec (.tableWriteProbe src tag record) s =
        .next
          (finish src 1#8 tag
            (.done adjusted
              { s with nodes := { s.nodes with probes := s.nodes.probes.set i.toNat kept } }))) ∧
    (a.toNat ≤ 126 → p.node.address ≠ address → unique fresh = true →
      exec (.tableWriteProbe src tag record) s =
        .next
          (finish src 1#8 tag
            (.done adjusted
              { s with
                nodes :=
                  { s.nodes with
                    probes := s.nodes.probes.set i.toNat fresh,
                    dropMark :=
                      s.nodes.dropMark ||
                        decide (s.plp.request.map Request.owner = some (.probe i.toNat)) },
                line :=
                  { s.line with
                    probeSearch :=
                      s.line.probeSearch.set i.toNat { polarity := .normal, tally := 0 } } }))) ∧
    (a.toNat ≤ 126 → p.node.address ≠ address → unique fresh = false →
      exec (.tableWriteProbe src tag record) s =
        .next (finish src 1#8 tag (.refuse .badArgument s))) ∧
    (126 < a.toNat →
      exec (.tableWriteProbe src tag record) s =
        .next (finish src 1#8 tag (.refuse .badArgument s)))

/-- A write of one AIRPOINT record (R31, R37, R41, R42, R44, R45): role `r` (ZONE_DB 0 with a zone 1..4, WB 1,
REFERENCE 2, the zone of the last two ignored).  With the address as it was, only role and zone change; with
another, the entry is cleared with its temperature absent and its count 255, and its poll-due mark and search
return to their start.  An EXPLICIT WB selection returns to DEFAULT when an entry it names stops being a
configured WB point. -/
def Obligations.AirRecordWritten : Prop :=
  ∀ (s : State) (src tag i a r z : Byte) (rest : List Byte) (p : AirRecord) (role : AirRole),
    let record := [i, 1#8, a, r, z] ++ rest
    s.carries (namedCommand src 1#8 tag (1#8 :: record)) → rest.length = 17 →
    s.nodes.airs[i.toNat]? = some p → i.toNat < 8 → a.toNat ≤ 126 → roleOf r = some role →
    let address := if a.toNat = 0 then none else some a.toNat
    let zone := if role = .zoneDb then some z.toNat else none
    let kept : AirRecord := { p with role := role, zone := zone }
    let fresh : AirRecord :=
      { node :=
          { NodeRecord.blank with
            address := address, state := if a.toNat = 0 then .empty else .unseen },
        role := role, zone := zone, lastTemp := none, cycles := 255 }
    let legal (q : AirRecord) :=
      uniqueAddresses
          (configuredRecords s.nodes.probes (s.nodes.airs.set i.toNat q) s.outputs.entries) = true ∧
        allDistinct (zoneDbZones (s.nodes.airs.set i.toNat q)) = true
    let wb :=
      match s.nodes.wb with
      | .explicit x y =>
        if (i.toNat = x ∨ i.toNat = y) ∧ (a.toNat = 0 ∨ role ≠ .wb) then .default
        else .explicit x y
      | .default => .default
    (role = .zoneDb → z.toNat = 0 ∨ 4 < z.toNat →
      exec (.tableWriteAirpoint src tag record) s =
        .next (finish src 1#8 tag (.refuse .badArgument s))) ∧
    (role ≠ .zoneDb ∨ (1 ≤ z.toNat ∧ z.toNat ≤ 4) →
      (p.node.address = address → legal kept →
        exec (.tableWriteAirpoint src tag record) s =
          .next
            (finish src 1#8 tag
              (.ok
                { s with
                  nodes := { s.nodes with airs := s.nodes.airs.set i.toNat kept, wb := wb } }))) ∧
      (p.node.address ≠ address → legal fresh →
        exec (.tableWriteAirpoint src tag record) s =
          .next
            (finish src 1#8 tag
              (.ok
                { s with
                  nodes :=
                    { s.nodes with
                      airs := s.nodes.airs.set i.toNat fresh, wb := wb,
                      dropMark :=
                        s.nodes.dropMark ||
                          decide (s.plp.request.map Request.owner = some (.air i.toNat)) },
                  line :=
                    { s.line with
                      airSearch :=
                        s.line.airSearch.set i.toNat { polarity := .normal, tally := 0 },
                      pollDue := s.line.pollDue.set i.toNat false } }))) ∧
      (p.node.address ≠ address → ¬legal fresh →
        exec (.tableWriteAirpoint src tag record) s =
          .next (finish src 1#8 tag (.refuse .badArgument s))))

/-- A write of one ACTUATOR record that is judged without a structural fault, `c` with `adjusted` (R36, R142,
R145, R146): a set, changed or cleared address clears the outcome fields, the owed count and the retry wait, and
starts or stops the refresh timer; an address as it was keeps them, but for the change of the kind of the
function; and every commanded value is formed again.  How a record is judged is the table of R142, with the bytes of
R183: a fault is an address above 126, a function or an override that is none, a safe or FORCE value that is not of
the function's kind (FORCE only with mode FORCE), and HOLD where the kind is not that of the entry's function; the HEAT
zone is clamped to 1..4 and a percentage to 100 (FFh among them, and a fan code no percentage: assumption 29). -/
def Obligations.ActuatorRecordWritten : Prop :=
  (∀ (s : State) (src tag i : Byte) (bytes : List Byte) (a : Actuator) (c : ActuatorConfig)
    (adjusted : Bool),
    s.carries (namedCommand src 1#8 tag ([2#8, i, 1#8] ++ bytes)) → bytes.length = 13 →
    i.toNat < 12 → s.outputs.entries[i.toNat]? = some a →
    let stored : Actuator :=
      { a with address := c.address, function := c.function, safe := c.safe, override := c.override }
    let unique (b : Actuator) :=
      uniqueAddresses
        (configuredRecords s.nodes.probes s.nodes.airs (s.outputs.entries.set i.toNat b))
    let inFlight := decide (s.plp.request.map Request.owner = some (.actuator i.toNat))
    let changesKind := decide (a.function.isFan ≠ c.function.isFan)
    (parseActuator a bytes = none →
      exec (.tableWriteActuator src tag ([i, 1#8] ++ bytes)) s =
        .next (finish src 1#8 tag (.refuse .badArgument s))) ∧
    (parseActuator a bytes = some (c, adjusted) → a.address = c.address →
      a.function.isFan = c.function.isFan ∨ a.address = none → unique stored = true →
      exec (.tableWriteActuator src tag ([i, 1#8] ++ bytes)) s =
        .next
          (finish src 1#8 tag
            (.done adjusted
              (formAll
                { s with
                  outputs :=
                    { s.outputs with
                      entries := s.outputs.entries.set i.toNat stored,
                      kindMark := s.outputs.kindMark || (changesKind && inFlight) } })))) ∧
    (parseActuator a bytes = some (c, adjusted) → a.address = c.address → a.address ≠ none →
      a.function.isFan ≠ c.function.isFan →
      let changed : Actuator :=
        { stored with acknowledged := none, echoed := none, mismatches := 0 }
      unique changed = true →
      exec (.tableWriteActuator src tag ([i, 1#8] ++ bytes)) s =
        .next
          (finish src 1#8 tag
            (.done adjusted
              (formAll
                { s with
                  outputs :=
                    { s.outputs with
                      entries := s.outputs.entries.set i.toNat changed,
                      kindMark := s.outputs.kindMark || inFlight } })))) ∧
    (parseActuator a bytes = some (c, adjusted) → a.address ≠ c.address →
      let fresh : Actuator :=
        { stored with
          acknowledged := none, echoed := none, state := .unseen, mismatches := 0, failed := 0,
          owed := 0 }
      unique fresh = true →
      exec (.tableWriteActuator src tag ([i, 1#8] ++ bytes)) s =
        .next
          (finish src 1#8 tag
            (.done adjusted
              (formAll
                { s with
                  outputs :=
                    { s.outputs with
                      entries := s.outputs.entries.set i.toNat fresh,
                      dropMark := s.outputs.dropMark || inFlight,
                      kindMark := s.outputs.kindMark || (changesKind && inFlight) },
                  line :=
                    { s.line with
                      refreshTimers :=
                        s.line.refreshTimers.set i.toNat
                          (c.address.map fun _ => s.lineParams.refresh),
                      retryWait := s.line.retryWait.set i.toNat false } }))))) ∧
  (∀ (present : Actuator) (a f z safe mode force : Byte) (rest : List Byte),
    let bytes := [a, f, z, safe, mode, force] ++ rest
    let fan := f.toNat = 3
    let fanByte (b : Byte) := b = 0xF0#8 ∨ b = 0xF1#8 ∨ b = 0xF2#8
    let value (b : Byte) : ActValue :=
      if fan then
        .fan (if b = 0xF0#8 then .stop else if b = 0xF1#8 then .forward else .reverse)
      else .percent (min 100 b.toNat)
    let fault :=
      126 < a.toNat ∨ 3 < f.toNat ∨ 2 < mode.toNat ∨ ¬(fan ↔ fanByte safe) ∨
        (mode.toNat = 2 ∧ ¬(fan ↔ fanByte force)) ∨
        (mode.toNat = 1 ∧ ¬(fan ↔ present.function = .fan))
    (fault → parseActuator present bytes = none) ∧
    (¬fault →
      parseActuator present bytes =
        some
          ({ address := if a.toNat = 0 then none else some a.toNat,
             function :=
               if f.toNat = 0 then .heat (max 1 (min 4 z.toNat))
               else if f.toNat = 1 then .vent
               else if f.toNat = 2 then .spray
               else .fan,
             safe := value safe,
             override :=
               if mode.toNat = 0 then .none
               else if mode.toNat = 1 then .hold
               else .force (value force) },
           decide
             ((f.toNat = 0 ∧ (z.toNat < 1 ∨ 4 < z.toNat)) ∨ (¬fan ∧ 100 < safe.toNat) ∨
               (¬fan ∧ mode.toNat = 2 ∧ 100 < force.toNat)))))

/-! ## Writes to the parameter tables -/

/-- A write of one parameter (R4, R24, R56, R84, R99, R126, R137, R167): the value is clamped to its range and
answered ADJUSTED where it was outside.  A LINE_PARAMS value changes that parameter alone, auto-survey (a mark;
that a code above 1 is refused is the model's reading, assumption 14) among them; a CLIMATE_PARAMS value as well,
but for the reversal timer that a write of the reversal interval starts or stops with the fans running; a
CHARGE_PARAMS value bounds the two counters, and a step count that the active charge needs is refused IN_USE (that a
step count of FFFFh is clamped to 24 as any other is the model's reading, assumption 11).  A write of one CALIBRATION group, one step record or one Pass-through entry judged without a structural
fault (R70, R97, R98, R164) replaces that record and nothing else; a step record of the current step of an
active charge is refused IN_USE; a structural fault is refused BAD_ARGUMENT.  What a fault is and what is clamped are
the tables of R70, R97 and R98, with the bytes of R183: for a group, a count of 1 or above 12 or not the number of
breakpoints carried, one carried after an unused position, one out of range or out of order; for a step, a code that
names no value or a criterion its phase does not allow.  That a DB or depression target of 8000h or more is above its
range is the model's reading (assumption 45). -/
def Obligations.ParametersAndRecordsWritten : Prop :=
  (∀ (s : State) (src tag i : Byte) (v : Nat), v < 65536 →
    (s.carries (namedCommand src 1#8 tag ([7#8, i, 1#8] ++ le16 v)) → i.toNat < 9 →
      let w := max (lineRange i.toNat).1 (min (lineRange i.toNat).2 v)
      exec (.tableWriteLineParams src tag ([i, 1#8] ++ le16 v)) s =
        .next
          (finish src 1#8 tag
            (.done (decide (v ≠ w)) { s with lineParams := s.lineParams.set i.toNat w }))) ∧
    (s.carries (namedCommand src 1#8 tag ([7#8, 9#8, 1#8] ++ le16 v)) →
      (v ≤ 1 →
        exec (.tableWriteLineParams src tag ([9#8, 1#8] ++ le16 v)) s =
          .next
            (finish src 1#8 tag
              (.ok { s with lineParams := { s.lineParams with autoSurvey := decide (v = 1) } }))) ∧
      (1 < v →
        exec (.tableWriteLineParams src tag ([9#8, 1#8] ++ le16 v)) s =
          .next (finish src 1#8 tag (.refuse .badArgument s)))) ∧
    (s.carries (namedCommand src 1#8 tag ([6#8, i, 1#8] ++ le16 v)) → i.toNat < 9 →
      let w := climateClamp i.toNat v
      exec (.tableWriteClimateParams src tag ([i, 1#8] ++ le16 v)) s =
        .next
          (finish src 1#8 tag
            (.done (decide (v ≠ w))
              { s with
                climate :=
                  { s.climate with
                    params := s.climate.params.set i.toNat w,
                    reversalTimer :=
                      if i.toNat = 7 ∧ (s.climate.fan = .forward ∨ s.climate.fan = .reverse) then
                        (if w = 0 then none
                          else some (s.climate.reversalTimer.getD w))
                      else s.climate.reversalTimer } }))) ∧
    (s.carries (namedCommand src 1#8 tag ([5#8, i, 1#8] ++ le16 v)) → i.toNat < 13 →
      let w := max (chargeRange i.toNat).1 (min (chargeRange i.toNat).2 v)
      let params := s.schedule.params.set i.toNat w
      let c := s.schedule.charge
      let inUse :=
        i.toNat = 3 ∧ c.state.active = true ∧
          ¬(c.step < w ∧ ∀ k, k < w → s.schedule.stepAt k ≠ none)
      (¬inUse →
        exec (.tableWriteChargeParams src tag ([i, 1#8] ++ le16 v)) s =
          .next
            (finish src 1#8 tag
              (.done (decide (v ≠ w))
                { s with
                  schedule :=
                    { s.schedule with
                      params := params,
                      charge :=
                        { c with
                          confirmation := min params.c c.confirmation,
                          blinds := min params.b c.blinds } } }))) ∧
      (inUse →
        exec (.tableWriteChargeParams src tag ([i, 1#8] ++ le16 v)) s =
          .next (finish src 1#8 tag (.refuse .refusedInUse s))))) ∧
  (∀ (s : State) (src tag i : Byte) (bytes : List Byte),
    (s.carries (namedCommand src 1#8 tag ([3#8, i, 1#8] ++ bytes)) → i.toNat < 8 →
      bytes.length = 50 →
      (∀ g adjusted, parseGroup bytes = some (g, adjusted) →
        exec (.tableWriteCalibration src tag ([i, 1#8] ++ bytes)) s =
          .next
            (finish src 1#8 tag
              (.done adjusted { s with calibration := s.calibration.set i.toNat g }))) ∧
      (parseGroup bytes = none →
        exec (.tableWriteCalibration src tag ([i, 1#8] ++ bytes)) s =
          .next (finish src 1#8 tag (.refuse .badArgument s)))) ∧
    (s.carries (namedCommand src 1#8 tag ([4#8, i, 1#8] ++ bytes)) → i.toNat < 24 →
      bytes.length = 15 →
      let current := s.schedule.charge.state.active = true ∧ i.toNat = s.schedule.charge.step
      (∀ r adjusted, parseStep bytes = some (r, adjusted) → ¬current →
        exec (.tableWriteSchedule src tag ([i, 1#8] ++ bytes)) s =
          .next
            (finish src 1#8 tag
              (.done adjusted
                { s with
                  schedule :=
                    { s.schedule with steps := s.schedule.steps.set i.toNat (some r) } }))) ∧
      (∀ r adjusted, parseStep bytes = some (r, adjusted) → current →
        exec (.tableWriteSchedule src tag ([i, 1#8] ++ bytes)) s =
          .next (finish src 1#8 tag (.refuse .refusedInUse s))) ∧
      (parseStep bytes = none →
        exec (.tableWriteSchedule src tag ([i, 1#8] ++ bytes)) s =
          .next (finish src 1#8 tag (.refuse .badArgument s)))) ∧
    (s.carries (namedCommand src 1#8 tag ([8#8, i, 1#8] ++ bytes)) → i.toNat < 5 →
      bytes.length = 2 →
      (∀ e adjusted, parsePass bytes = some (e, adjusted) →
        exec (.tableWritePassList src tag ([i, 1#8] ++ bytes)) s =
          .next
            (finish src 1#8 tag
              (.ok { s with loop := { s.loop with passList := s.loop.passList.set i.toNat e } }))) ∧
      (parsePass bytes = none →
        exec (.tableWritePassList src tag ([i, 1#8] ++ bytes)) s =
          .next (finish src 1#8 tag (.refuse .badArgument s))))) ∧
  (∀ (count slope : Byte) (positions : List (Nat × Nat)),
    positions.length = 12 → (∀ p ∈ positions, p.1 < 65536 ∧ p.2 < 65536) →
    let bytes := [count] ++ positions.flatMap (fun p => le16 p.1 ++ le16 p.2) ++ [slope]
    let unused : Nat × Nat := (65535, 65535)
    let carried := positions.filter fun p => decide (p ≠ unused)
    let fault :=
      count.toNat = 1 ∨ 12 < count.toNat ∨ carried.length ≠ count.toNat ∨
        (∃ (i j : Nat) (p : Nat × Nat), i < j ∧ positions[i]? = some unused ∧ positions[j]? = some p ∧ p ≠ unused) ∨
        (∃ p ∈ carried, p.1 < 1 ∨ 4094 < p.1 ∨ 999 < p.2) ∨
        (∃ (i : Nat) (a b : Nat × Nat), carried[i]? = some a ∧ carried[i + 1]? = some b ∧ (b.1 ≤ a.1 ∨ a.2 < b.2))
    (fault → parseGroup bytes = none) ∧
    (¬fault →
      parseGroup bytes =
        some ({ points := carried, slope := min 15 slope.toNat }, decide (15 < slope.toNat)))) ∧
  (∀ (ph cr od limit trim : Byte) (v db dep least most : Nat),
    v < 65536 → db < 65536 → dep < 65536 → least < 65536 → most < 65536 →
    let bytes :=
      [ph, cr] ++ le16 v ++ le16 db ++ le16 dep ++ le16 least ++ le16 most ++ [od, limit, trim]
    let low := if cr.toNat = 3 then 1 else 0
    let high := if cr.toNat = 3 then 9999 else 999
    let allowed :=
      (ph.toNat ≤ 2 ∧ cr.toNat = 3) ∨ (ph.toNat = 0 ∧ (cr.toNat = 0 ∨ cr.toNat = 2)) ∨
        (ph.toNat = 1 ∧ cr.toNat = 1)
    (¬allowed ∨ 1 < od.toNat → parseStep bytes = none) ∧
    (allowed → od.toNat ≤ 1 →
      parseStep bytes =
        some
          ({ phase :=
               if ph.toNat = 0 then .dry else if ph.toNat = 1 then .equalize else .condition,
             criterion :=
               if cr.toNat = 0 then .ctrlBelow
               else if cr.toNat = 1 then .wettestBelow
               else if cr.toNat = 2 then .driestBelow
               else .dwell,
             value := max low (min high v), dbTarget := min 1200 db, depTarget := min 400 dep,
             minDwell := min 9999 least, maxDwell := min 9999 most,
             overdue := if od.toNat = 0 then .alarm else .advance,
             rateLimit := min 200 limit.toNat, rateTrim := min 100 trim.toNat },
           decide
             (v < low ∨ high < v ∨ 1200 < db ∨ 400 < dep ∨ 9999 < least ∨ 9999 < most ∨
               200 < limit.toNat ∨ 100 < trim.toNat)))) ∧
  (∀ k r : Byte,
    (k = 0xFF#8 → r = 0xFF#8 → parsePass [k, r] = some (none, false)) ∧
    (∀ kind response, nodeKindOf k = some kind → responseOf r = some response →
      parsePass [k, r] = some (some (kind, response), false)) ∧
    (¬(k = 0xFF#8 ∧ r = 0xFF#8) → 2 < k.toNat ∨ 3 < r.toNat → parsePass [k, r] = none))

/-! ## The commands of a charge -/

/-- START CHARGE (R92, R101, R102, R129): in IDLE or COMPLETE with a consistent schedule the charge begins at
step 0 with active DB from the fresh zones, the history is emptied, the fans run FORWARD and the demands are
present at 0; in every other case it is refused STATE.  A schedule is consistent when the step count is present, every
step below it is loaded, and no phase goes backward in the order DRY, EQUALIZE, CONDITION (R101).  Active DB starts
at the mean of the fresh zone temperatures, each taken as 0..120.0, rounded half up, or at 20.0 with no fresh zone
(R102). -/
def Obligations.ChargeStarts : Prop :=
  (∀ (s : State) (src tag : Byte) (args : List Byte) (r : StepRecord),
    s.carries (namedCommand src 3#8 tag args) →
    let c := s.schedule.charge
    let accepted :=
      (c.state = .idle ∨ c.state = .complete) ∧ s.schedule.consistent = true
    let db := startDb s.nodes.freshZones
    (accepted → s.schedule.stepAt 0 = some r →
      exec (.startCharge src tag args) s =
        .next
          (finish src 3#8 tag
            (.ok
              (formAll
                { s with
                  schedule :=
                    { s.schedule with
                      charge :=
                        { number := (c.number + 1) % 65536, state := .warmup, returnState := none,
                          causes := { operator := false, blind := false }, step := 0, dwell := 0,
                          minute := 0, warmMinutes := 0, coolMinutes := 0, confirmation := 0,
                          blinds := 0, trim := false, stepOverdue := false, warmOverdue := false,
                          setpoints :=
                            some
                              { targetDb := r.dbTarget, targetDep := r.depTarget, activeDb := db,
                                activeDep := 0, wbTarget := db },
                          result := none, noted := c.noted, amendment := c.amendment } },
                  evaluator := { s.evaluator with history := [] },
                  climate :=
                    { s.climate with
                      fan := .forward, coastTimer := none, vent := some 0, spray := some 0,
                      reversalTimer :=
                        if s.climate.params.reversal = 0 then none
                        else some s.climate.params.reversal,
                      zones :=
                        s.climate.eachZone fun z l =>
                          { l with
                            demand := if (s.nodes.zoneDb z).isSome then some 0 else none,
                            value := 0, mode := .tracking, stale := 0 } } })))) ∧
    (¬accepted →
      exec (.startCharge src tag args) s = .next (finish src 3#8 tag (.refuse .refusedState s)))) ∧
  (∀ e : Schedule,
    e.consistent = true ↔
      ∃ n, e.params.stepCount = some n ∧ (∀ i, i < n → e.stepAt i ≠ none) ∧
        ∀ i a b, i + 1 < n → e.stepAt i = some a → e.stepAt (i + 1) = some b →
          (a.phase = .equalize → b.phase ≠ .dry) ∧ (a.phase = .condition → b.phase = .condition)) ∧
  (startDb [] = 200 ∧
    ∀ fresh : List Int, fresh ≠ [] →
      startDb fresh =
        (2 * (fresh.map fun t => (max 0 (min 1200 t)).toNat).sum + fresh.length) /
          (2 * fresh.length))

/-- HOLD and RESUME (R112, R113): HOLD enters HOLD from WARMUP and RUNNING with HOLD_ENTERED at the current step,
and adds OPERATOR in HOLD; RESUME removes OPERATOR, and with no cause left the charge returns to the state it
was held from; in the other cases both are refused STATE.  That the NOTICE of HOLD_ENTERED stands before the REPLY is
the model's choice (assumption 28). -/
def Obligations.HoldAndResume : Prop :=
  ∀ (s : State) (src tag : Byte) (args : List Byte),
    let c := s.schedule.charge
    let put (c : Charge) : State := { s with schedule := { s.schedule with charge := c } }
    (s.carries (namedCommand src 4#8 tag args) →
      (c.state = .warmup →
        exec (.hold src tag args) s =
          .next
            (finish src 4#8 tag
              (.ok
                (raise (.holdEntered, some c.step)
                  (put
                    { c with
                      state := .hold, returnState := some .warmup,
                      causes := { operator := true, blind := false } }))))) ∧
      (c.state = .running →
        exec (.hold src tag args) s =
          .next
            (finish src 4#8 tag
              (.ok
                (raise (.holdEntered, some c.step)
                  (put
                    { c with
                      state := .hold, returnState := some .running,
                      causes := { operator := true, blind := false } }))))) ∧
      (c.state = .hold →
        exec (.hold src tag args) s =
          .next
            (finish src 4#8 tag
              (.ok (put { c with causes := { operator := true, blind := c.causes.blind } })))) ∧
      (c.state = .idle ∨ c.state = .cooldown ∨ c.state = .complete →
        exec (.hold src tag args) s = .next (finish src 4#8 tag (.refuse .refusedState s)))) ∧
    (s.carries (namedCommand src 5#8 tag args) →
      (c.state = .hold → c.causes.operator = true → c.causes.blind = true →
        exec (.resume src tag args) s =
          .next
            (finish src 5#8 tag
              (.ok (put { c with causes := { operator := false, blind := true } })))) ∧
      (c.state = .hold → c.causes.operator = true → c.causes.blind = false →
        c.returnState = some .warmup →
        exec (.resume src tag args) s =
          .next
            (finish src 5#8 tag
              (.ok
                (put
                  { c with
                    state := .warmup, returnState := none,
                    causes := { operator := false, blind := false } })))) ∧
      (c.state = .hold → c.causes.operator = true → c.causes.blind = false →
        c.returnState = some .running →
        exec (.resume src tag args) s =
          .next
            (finish src 5#8 tag
              (.ok
                (put
                  { c with
                    state := .running, returnState := none,
                    causes := { operator := false, blind := false } })))) ∧
      (c.state ≠ .hold ∨ c.causes.operator = false →
        exec (.resume src tag args) s = .next (finish src 5#8 tag (.refuse .refusedState s))))

/-- SET STEP `k` (R115): in HOLD with `k` below the step count the pending amendment is written (R118), `k`
becomes the current step with its targets, the dwell, the counter and the two marks start afresh, STEP_CHANGED
is raised with `k` and the step pulse starts, and a return state WARMUP becomes RUNNING; in HOLD with another `k`
it is refused BAD_ARGUMENT, in another state STATE.  ADVANCE (R111, R114): in RUNNING and HOLD, with a next step
in the schedule, it does the same for the next step whatever the dwell and the counter; from the last step it leaves
for COOLDOWN with FINISHED noted, the pulse started and the cooldown demands at once (R119); in the other states it
is refused STATE.  That a NOTICE stands before the REPLY (assumption 28) and that the state is judged before the step
(assumption 32) are the model's. -/
def Obligations.SetStepAndAdvance : Prop :=
  (∀ (s : State) (src tag k : Byte) (rest : List Byte),
    s.carries (namedCommand src 7#8 tag (k :: rest)) →
    let c := s.schedule.charge
    let steps :=
      match c.amendment with
      | some (i, r) => s.schedule.steps.set i (some r)
      | none => s.schedule.steps
    let inSchedule := ∃ n, s.schedule.params.stepCount = some n ∧ k.toNat < n
    (∀ r sp, c.state = .hold → inSchedule → (steps[k.toNat]?).join = some r →
      c.setpoints = some sp →
      exec (.setStep src tag (k :: rest)) s =
        .next
          (finish src 7#8 tag
            (.ok
              (raise (.stepChanged, some k.toNat)
                { s with
                  events := { s.events with stepPulse := true },
                  schedule :=
                    { s.schedule with
                      steps := steps,
                      charge :=
                        { c with
                          returnState :=
                            if c.returnState = some .warmup then some .running else c.returnState,
                          step := k.toNat, dwell := 0, confirmation := 0, trim := false,
                          stepOverdue := false, amendment := none,
                          setpoints :=
                            some
                              { sp with
                                targetDb := r.dbTarget, targetDep := r.depTarget } } } })))) ∧
    (c.state = .hold → ¬inSchedule →
      exec (.setStep src tag (k :: rest)) s =
        .next (finish src 7#8 tag (.refuse .badArgument s))) ∧
    (c.state ≠ .hold →
      exec (.setStep src tag (k :: rest)) s =
        .next (finish src 7#8 tag (.refuse .refusedState s)))) ∧
  (∀ (s : State) (src tag : Byte) (args : List Byte) (r : StepRecord) (sp : Setpoints) (n : Nat),
    s.carries (namedCommand src 6#8 tag args) →
    let c := s.schedule.charge
    let steps :=
      match c.amendment with
      | some (i, r) => s.schedule.steps.set i (some r)
      | none => s.schedule.steps
    (c.state = .running ∨ c.state = .hold → s.schedule.params.stepCount = some n → c.step + 1 < n →
      (steps[c.step + 1]?).join = some r → c.setpoints = some sp →
      exec (.advance src tag args) s =
        .next
          (finish src 6#8 tag
            (.ok
              (raise (.stepChanged, some (c.step + 1))
                { s with
                  events := { s.events with stepPulse := true },
                  schedule :=
                    { s.schedule with
                      steps := steps,
                      charge :=
                        { c with
                          returnState :=
                            if c.returnState = some .warmup then some .running else c.returnState,
                          step := c.step + 1, dwell := 0, confirmation := 0, trim := false,
                          stepOverdue := false, amendment := none,
                          setpoints :=
                            some
                              { sp with
                                targetDb := r.dbTarget, targetDep := r.depTarget } } } })))) ∧
    (c.state = .running ∨ c.state = .hold → s.schedule.params.stepCount = some n → n ≤ c.step + 1 →
      exec (.advance src tag args) s =
        .next
          (finish src 6#8 tag
            (.ok
              (formAll
                { s with
                  events := { s.events with stepPulse := true },
                  schedule :=
                    { s.schedule with
                      steps := steps,
                      charge :=
                        { c with
                          state := .cooldown, coolMinutes := 0, returnState := none,
                          causes := { operator := false, blind := false }, dwell := 0,
                          confirmation := 0, trim := false, stepOverdue := false,
                          amendment := none, noted := some .finished } },
                  climate :=
                    { s.climate with
                      zones :=
                        s.climate.zones.map fun l =>
                          { l with
                            demand := l.demand.map fun _ => 0, value := 0, mode := .tracking,
                            stale := 0 },
                      spray := some 0,
                      vent :=
                        some
                          (if s.climate.fan = .coastR ∨ s.climate.fan = .coastF then 0
                            else s.schedule.params.coolVent) } })))) ∧
    (c.state = .idle ∨ c.state = .warmup ∨ c.state = .cooldown ∨ c.state = .complete →
      exec (.advance src tag args) s = .next (finish src 6#8 tag (.refuse .refusedState s))))

/-- ABORT CHARGE, by the table of R120: WARMUP, RUNNING and HOLD enter COOLDOWN with ABORTED noted; COOLDOWN
becomes COMPLETE at once with result ABORTED, the pending amendment written, CHARGE_COMPLETE raised and the
Climate Unit in safe mode; IDLE and COMPLETE refuse it STATE.  That the NOTICE of CHARGE_COMPLETE stands before the
REPLY is the model's choice (assumption 28). -/
def Obligations.AbortEndsCharge : Prop :=
  ∀ (s : State) (src tag : Byte) (args : List Byte), s.carries (namedCommand src 8#8 tag args) →
    let c := s.schedule.charge
    (c.state = .warmup ∨ c.state = .running ∨ c.state = .hold →
      exec (.abortCharge src tag args) s =
        .next
          (finish src 8#8 tag
            (.ok
              (formAll
                { s with
                  schedule :=
                    { s.schedule with
                      charge :=
                        { c with
                          state := .cooldown, coolMinutes := 0, returnState := none,
                          causes := { operator := false, blind := false }, trim := false,
                          noted := some .aborted } },
                  climate :=
                    { s.climate with
                      zones :=
                        s.climate.zones.map fun l =>
                          { l with
                            demand := l.demand.map fun _ => 0, value := 0, mode := .tracking,
                            stale := 0 },
                      spray := some 0,
                      vent :=
                        some
                          (if s.climate.fan = .coastR ∨ s.climate.fan = .coastF then 0
                            else s.schedule.params.coolVent) } })))) ∧
    (c.state = .cooldown →
      exec (.abortCharge src tag args) s =
        .next
          (finish src 8#8 tag
            (.ok
              (raise (.chargeComplete, none)
                (formAll
                  { s with
                    schedule :=
                      { s.schedule with
                        steps :=
                          (match c.amendment with
                            | some (i, r) => s.schedule.steps.set i (some r)
                            | none => s.schedule.steps),
                        charge :=
                          { c with
                            state := .complete, result := some .aborted, noted := none,
                            amendment := none } },
                    climate := { Climate.powerOn with params := s.climate.params } }))))) ∧
    (c.state = .idle ∨ c.state = .complete →
      exec (.abortCharge src tag args) s = .next (finish src 8#8 tag (.refuse .refusedState s)))

/-- STEP AMEND of a record that is judged without a structural fault, by the table of R116: for the current step
of an active charge it becomes the pending amendment, or is refused BUSY while one is pending; for any other
step, or with no charge active, it is written to the table at once.  A structural fault, or an index above 23, is
refused BAD_ARGUMENT. -/
def Obligations.StepAmended : Prop :=
  ∀ (s : State) (src tag i : Byte) (bytes : List Byte),
    s.carries (namedCommand src 9#8 tag (i :: bytes)) → bytes.length = 15 →
    let c := s.schedule.charge
    let current := c.state.active = true ∧ i.toNat = c.step
    (∀ r adjusted, i.toNat < 24 → parseStep bytes = some (r, adjusted) → current →
      c.amendment = none →
      exec (.stepAmend src tag (i :: bytes)) s =
        .next
          (finish src 9#8 tag
            (.done adjusted
              { s with
                schedule :=
                  { s.schedule with charge := { c with amendment := some (i.toNat, r) } } }))) ∧
    (∀ r adjusted, i.toNat < 24 → parseStep bytes = some (r, adjusted) → current →
      c.amendment ≠ none →
      exec (.stepAmend src tag (i :: bytes)) s =
        .next (finish src 9#8 tag (.refuse .refusedBusy s))) ∧
    (∀ r adjusted, i.toNat < 24 → parseStep bytes = some (r, adjusted) → ¬current →
      exec (.stepAmend src tag (i :: bytes)) s =
        .next
          (finish src 9#8 tag
            (.done adjusted
              { s with
                schedule :=
                  { s.schedule with steps := s.schedule.steps.set i.toNat (some r) } }))) ∧
    (24 ≤ i.toNat ∨ parseStep bytes = none →
      exec (.stepAmend src tag (i :: bytes)) s =
        .next (finish src 9#8 tag (.refuse .badArgument s)))

/-! ## The other commands -/

/-- OVERRIDE (R143, R144, R145): mode NONE, HOLD and FORCE set the entry's override, a percentage above 100
clamped and answered ADJUSTED; a value of the wrong kind and an index above 11 are refused.  Each entry's
commanded value is then formed: HOLD keeps it, FORCE gives its value, NONE the demand of its function, or its
safe value where that is NONE.  That FFh is a percentage above 100, and that a fan code is a value of the wrong kind
for a percent function, are the model's readings (assumption 29). -/
def Obligations.OverrideSetsSource : Prop :=
  ∀ (s : State) (src tag i mode v : Byte) (rest : List Byte) (a : Actuator),
    s.carries (namedCommand src 10#8 tag (i :: mode :: v :: rest)) →
    s.outputs.entries.length = 12 →
    let put (o : Override) : State :=
      formAll
        { s with
          outputs :=
            { s.outputs with
              entries := s.outputs.entries.set i.toNat { a with override := o } } }
    (s.outputs.entries[i.toNat]? = some a → mode = 0#8 →
      exec (.override src tag (i :: mode :: v :: rest)) s =
        .next (finish src 10#8 tag (.ok (put .none)))) ∧
    (s.outputs.entries[i.toNat]? = some a → mode = 1#8 →
      exec (.override src tag (i :: mode :: v :: rest)) s =
        .next (finish src 10#8 tag (.ok (put .hold)))) ∧
    (s.outputs.entries[i.toNat]? = some a → mode = 2#8 → a.function ≠ .fan → fanOf v = none →
      exec (.override src tag (i :: mode :: v :: rest)) s =
        .next
          (finish src 10#8 tag
            (.done (decide (100 < v.toNat)) (put (.force (.percent (min 100 v.toNat))))))) ∧
    (∀ f, s.outputs.entries[i.toNat]? = some a → mode = 2#8 → a.function = .fan →
      fanOf v = some f →
      exec (.override src tag (i :: mode :: v :: rest)) s =
        .next (finish src 10#8 tag (.ok (put (.force (.fan f)))))) ∧
    (12 ≤ i.toNat ∨ 3 ≤ mode.toNat ∨
        (s.outputs.entries[i.toNat]? = some a ∧ mode = 2#8 ∧
          ((a.function = .fan ∧ fanOf v = none) ∨ (a.function ≠ .fan ∧ fanOf v ≠ none))) →
      exec (.override src tag (i :: mode :: v :: rest)) s =
        .next (finish src 10#8 tag (.refuse .badArgument s))) ∧
    ∀ (j : Nat) (b : Actuator), s.outputs.entries[j]? = some b →
      (formAll s).outputs.entries[j]? =
        some
          { b with
            commanded :=
              match b.override, s.climate.demandOf b.function with
              | .hold, _ => b.commanded
              | .force v, _ => v
              | .none, some d => d
              | .none, none => b.safe }

/-- WB SELECT, by the table of R43: two different configured WB entries make the selection EXPLICIT, answered OK;
two equal ones make it DEFAULT, answered ADJUSTED; any other index is refused BAD_ARGUMENT. -/
def Obligations.WbSelectionJudged : Prop :=
  ∀ (s : State) (src tag p q : Byte) (rest : List Byte),
    s.carries (namedCommand src 11#8 tag (p :: q :: rest)) →
    let wb (i : Byte) :=
      ∃ a, s.nodes.airs[i.toNat]? = some a ∧ a.node.address ≠ none ∧ a.role = .wb
    (wb p → wb q → p ≠ q →
      exec (.wbSelect src tag (p :: q :: rest)) s =
        .next
          (finish src 11#8 tag
            (.ok { s with nodes := { s.nodes with wb := .explicit p.toNat q.toNat } }))) ∧
    (wb p → wb q → p = q →
      exec (.wbSelect src tag (p :: q :: rest)) s =
        .next
          (finish src 11#8 tag (.done true { s with nodes := { s.nodes with wb := .default } }))) ∧
    (¬wb p ∨ ¬wb q →
      exec (.wbSelect src tag (p :: q :: rest)) s =
        .next (finish src 11#8 tag (.refuse .badArgument s)))

/-- SURVEY START and SURVEY ABORT, by the tables of R62 and R67: a start in IDLE clears the map and the comparison
and names address 1, and is refused BUSY otherwise; an abort ends a survey with no PING in flight at once, lets
one with a PING in flight end with it, and is refused STATE in IDLE.  A delivered PING outcome is entered in the
map by the table of R64, and no ping is then in flight; in a survey that runs, the next address is named (R63), or
after address 126 the survey completes: the count goes on, the comparison of map and tables is kept (R66),
SURVEY_DONE is latched, and SURVEY_MISMATCH where a count is above 0, with the lowest mismatching address, or else the
lowest unknown one, as detail (R65), whatever the Monitor makes of the outcome (R69); one that was aborted ends
there with none of these (R67). -/
def Obligations.SurveyStartsAndStops : Prop :=
  (∀ (s : State) (src tag : Byte) (args : List Byte),
    let v := s.survey
    (s.carries (namedCommand src 12#8 tag args) →
      (v.condition = .idle →
        exec (.surveyStart src tag args) s =
          .next
            (finish src 12#8 tag
              (.ok
                { s with
                  survey :=
                    { v with
                      condition := .running, next := some 1, inFlight := none, comparison := none,
                      map := v.map.map fun _ => .notSurveyed } }))) ∧
      (v.condition ≠ .idle →
        exec (.surveyStart src tag args) s = .next (finish src 12#8 tag (.refuse .refusedBusy s)))) ∧
    (s.carries (namedCommand src 13#8 tag args) →
      (v.condition = .idle →
        exec (.surveyAbort src tag args) s =
          .next (finish src 13#8 tag (.refuse .refusedState s))) ∧
      (v.condition = .running → v.inFlight = none →
        exec (.surveyAbort src tag args) s =
          .next
            (finish src 13#8 tag
              (.ok { s with survey := { v with condition := .idle, next := none } }))) ∧
      (v.condition = .running → v.inFlight ≠ none →
        exec (.surveyAbort src tag args) s =
          .next
            (finish src 13#8 tag
              (.ok { s with survey := { v with condition := .stopping, next := none } }))) ∧
      (v.condition = .stopping →
        exec (.surveyAbort src tag args) s = .next (finish src 13#8 tag (.ok s))))) ∧
  (∀ (o : OutcomeRecord) (s : State) (a : Nat),
    o.request.owner = .survey a → s.survey.condition ≠ .idle →
    let v := s.survey
    let t := deliver o s
    let entered (m : MapEntry) : List MapEntry := v.map.set (a - 1) m
    let w := t.survey
    let at_ (b : Nat) := w.map.getD (b - 1) .notSurveyed
    let matched (r : Nat × NodeKind) := ∃ c, at_ r.1 = .answered r.2 c
    let unknown (b : Nat) :=
      1 ≤ b ∧ b ≤ v.map.length ∧ (∃ k c, at_ b = .answered k c) ∧ ∀ r ∈ s.records, r.1 ≠ b
    w.inFlight = none ∧
    (o.outcome = .miss → w.map = entered .noAnswer) ∧
    (o.outcome = .bad ∨ o.outcome = .jabber → w.map = entered .garbled) ∧
    (∀ g, o.outcome = .good → o.response = some g →
      (∀ x y rest k c, g.kind = .ident → g.payload = x :: y :: rest → nodeKindOf x = some k →
        checkOf y = some c → w.map = entered (.answered k c)) ∧
      (g.kind ≠ .ident ∨ g.payload.length < 2 ∨ nodeKindOf (byteAt g.payload 0) = none ∨
          checkOf (byteAt g.payload 1) = none → w.map = entered .garbled)) ∧
    (v.condition = .running → a < 126 →
      w.condition = .running ∧ w.next = some (a + 1) ∧ w.count = v.count ∧
        w.comparison = v.comparison) ∧
    (v.condition = .running → 126 ≤ a →
      w.condition = .idle ∧ w.next = none ∧ w.count = (v.count + 1) % 256 ∧
      ∃ (wrong right : List (Nat × NodeKind)) (strangers : List Nat) (c : Comparison),
        w.comparison = some c ∧
        (wrong ++ right).Perm s.records ∧ (∀ r ∈ right, matched r) ∧ (∀ r ∈ wrong, ¬matched r) ∧
        strangers.Nodup ∧ (∀ b, b ∈ strangers ↔ unknown b) ∧
        c.mismatches = wrong.length ∧ c.unknowns = strangers.length ∧
        (c.first = none ↔ wrong = []) ∧
        (∀ b, c.first = some b → (∃ r ∈ wrong, r.1 = b) ∧ ∀ r ∈ wrong, b ≤ r.1) ∧
        (s.events.flags.length = 25 →
          t.events.latched 7 = true ∧
          (s.events.flags[8]? = some { set := false, detail := none } →
            (wrong = [] → strangers = [] →
              t.events.flags[8]? = some { set := false, detail := none }) ∧
            (wrong ≠ [] → t.events.flags[8]? = some { set := true, detail := c.first }) ∧
            (wrong = [] → strangers ≠ [] →
              ∃ b ∈ strangers, (∀ d ∈ strangers, b ≤ d) ∧
                t.events.flags[8]? = some { set := true, detail := some b })))) ∧
    (v.condition = .stopping →
      w.condition = .idle ∧ w.next = none ∧ w.count = v.count ∧ w.comparison = v.comparison ∧
        t.events.flags[7]? = s.events.flags[7]? ∧ t.events.flags[8]? = s.events.flags[8]?))

/-- CLEAR EVENTS clears every event of its set, flag and detail, and no other (R177); SET EVENT MASK replaces the
mask (R176); a number above 24 in the set is refused BAD_ARGUMENT, and neither changes anything then. -/
def Obligations.EventSetsTaken : Prop :=
  ∀ (s : State) (src tag : Byte) (set : Nat) (rest : List Byte), set < 2 ^ 32 →
    (s.carries (namedCommand src 16#8 tag (le32 set ++ rest)) →
      (set < 2 ^ 25 →
        ∃ t, exec (.clearEvents src tag (le32 set ++ rest)) s = .next (finish src 16#8 tag (.ok t)) ∧
          { t with events := s.events } = s ∧
          { t.events with flags := s.events.flags } = s.events ∧
          ∀ (n : Nat) (f : EventFlag), s.events.flags[n]? = some f →
            t.events.flags[n]? =
              some (if set.testBit n = true then { set := false, detail := none } else f)) ∧
      (2 ^ 25 ≤ set →
        exec (.clearEvents src tag (le32 set ++ rest)) s =
          .next (finish src 16#8 tag (.refuse .badArgument s)))) ∧
    (s.carries (namedCommand src 17#8 tag (le32 set ++ rest)) →
      (set < 2 ^ 25 →
        exec (.setEventMask src tag (le32 set ++ rest)) s =
          .next
            (finish src 17#8 tag
              (.ok { s with events := { s.events with mask := BitVec.ofNat 25 set } }))) ∧
      (2 ^ 25 ≤ set →
        exec (.setEventMask src tag (le32 set ++ rest)) s =
          .next (finish src 17#8 tag (.refuse .badArgument s))))

/-- SET REPORT MODE stores mode and interval and keeps the report count and the queued frames (R170); a mode code
that names no mode is refused.  SET STATUS LINES gives each line its source, and the step pulse ends; each line is
high while its source is (R178).  A REPORT or PASS-THROUGH enters where three places stay free after it, with its
gap mark, which then is clear; otherwise REPORT_LOST is raised and the mark set (R158, R163).  An evaluation is
reported by mode: not at all, as one EVALUATION REPORT, or with the READINGS REPORT frames after it, twelve slots
that hold a reading to a frame, in slot order (R160, R161).  A climate cycle expiry counts, and at the interval the
count is 0 again and, with the mode not OFF, a STATE REPORT of the machine then is offered (R160, R162; that the
Climate Unit has acted is assumption 38, and the count with interval 0 is assumption 18; the code of its return state,
its absent setpoints and its bits assigned to nothing are assumptions 12, 44 and 48).  A GOOD outcome whose node
kind and response kind an entry of the Pass-through List holds is copied once (R164). -/
def Obligations.ReportModeAndStatusLines : Prop :=
  (∀ (s : State) (src tag m n : Byte) (rest : List Byte),
    (s.carries (namedCommand src 18#8 tag (m :: n :: rest)) →
      (∀ mode, m = 0#8 ∧ mode = .off ∨ m = 1#8 ∧ mode = .evaluation ∨ m = 2#8 ∧ mode = .full →
        exec (.setReportMode src tag (m :: n :: rest)) s =
          .next
            (finish src 18#8 tag
              (.ok { s with loop := { s.loop with mode := mode, interval := n.toNat } }))) ∧
      (3 ≤ m.toNat →
        exec (.setReportMode src tag (m :: n :: rest)) s =
          .next (finish src 18#8 tag (.refuse .badArgument s)))) ∧
    (∀ a b c d : StatusSource,
      let codes := [a, b, c, d].map statusSourceCode
      s.carries (namedCommand src 19#8 tag (codes ++ rest)) →
      exec (.setStatusLines src tag (codes ++ rest)) s =
        .next (finish src 19#8 tag (.ok { s with events := { s.events with sources := [a, b, c, d] } }))) ∧
    (s.carries (namedCommand src 19#8 tag (m :: n :: rest)) → 8 ≤ m.toNat →
      exec (.setStatusLines src tag (m :: n :: rest)) s =
        .next (finish src 19#8 tag (.refuse .badArgument s))) ∧
    (s.resetHeld = false →
      exec .stepPulseEnd s = .next { s with events := { s.events with stepPulse := false } })) ∧
  (∀ (s : State) (i : Nat) (source : StatusSource),
    s.resetHeld = false → s.events.sources[i]? = some source →
    let c := s.schedule.charge
    (s.statusLine i = true ↔
      match source with
      | .alarm => s.alarm = true
      | .chargeActive =>
        c.state = .warmup ∨ c.state = .running ∨ c.state = .hold ∨ c.state = .cooldown
      | .hold => c.state = .hold
      | .lineDown => s.nodes.health = .down
      | .stepPulse => s.events.stepPulse = true
      | .surveyRunning => s.survey.condition = .running ∨ s.survey.condition = .stopping
      | .fanCoasting => s.climate.fan = .coastR ∨ s.climate.fan = .coastF
      | .amendWait => c.amendment ≠ none)) ∧
  (∀ (s : State) (body : List Byte) (type : Byte),
    let frame (kind : Byte) (payload : List Byte) : InsertEntry :=
      { frame :=
          { dest := 0#8, source := byte s.loop.station, kind := kind, edh := false, eda := false,
            hops := 0, payload := payload },
        restartReply := false }
    let mark (b : Bool) : Byte := if b then 1#8 else 0#8
    (s.loop.insertQueue.length ≤ 12 →
      offerReport type body s =
        { s with
          loop :=
            { s.loop with
              insertQueue :=
                s.loop.insertQueue ++ [frame 2#8 ([type, mark s.loop.reportGap] ++ body)],
              reportGap := false } } ∧
      offerPass body s =
        { s with
          loop :=
            { s.loop with
              insertQueue := s.loop.insertQueue ++ [frame 4#8 ([mark s.loop.passGap] ++ body)],
              passGap := false } }) ∧
    (12 < s.loop.insertQueue.length →
      offerReport type body s =
        raise (.reportLost, none) { s with loop := { s.loop with reportGap := true } } ∧
      offerPass body s =
        raise (.reportLost, none) { s with loop := { s.loop with passGap := true } })) ∧
  (∀ (s : State) (c : Charge) (e : EvalRecord) (k : Nat),
    let held :=
      (indexed 0 s.nodes.probes).filterMap fun p => p.2.reading.map fun r => (p.1, r)
    let bodies := readingsBodies e.sweep s.nodes.probes
    let part := (held.drop (12 * k)).take 12
    (s.loop.mode = .off → reportEvaluation c e s = s) ∧
    (s.loop.mode = .evaluation → reportEvaluation c e s = offerReport 0#8 (evaluationBody c e) s) ∧
    (s.loop.mode = .full →
      reportEvaluation c e s =
        bodies.foldl (fun t b => offerReport 1#8 b t) (offerReport 0#8 (evaluationBody c e) s)) ∧
    (held.length ≤ 64 →
      bodies.length = (held.length + 11) / 12 ∧
      (k < bodies.length →
        bodies[k]? =
          some
            (le32 e.sweep ++ [byte (k + 1), byte bodies.length, byte part.length] ++
              part.flatMap (entryBytes e.sweep))))) ∧
  (∀ s : State, s.resetHeld = false → s.events.mask = 0#25 →
    let n := s.loop.interval
    let count := min 255 (s.loop.reportCount + 1)
    let due := n ≠ 0 ∧ n ≤ count
    ∃ t, exec .climateCycleExpiry s = .next t ∧
      (n = 0 ∨ due → t.loop.reportCount = 0) ∧ (n ≠ 0 → ¬due → t.loop.reportCount = count) ∧
      (¬due ∨ s.loop.mode = .off → { t.loop with reportCount := s.loop.reportCount } = s.loop) ∧
      (due → s.loop.mode ≠ .off → s.loop.insertQueue.length ≤ 12 →
        ∃ f : LoopFrame, t.loop.insertQueue = s.loop.insertQueue ++ [{ frame := f, restartReply := false }] ∧
          t.loop.reportGap = false ∧ f.dest = 0#8 ∧ f.kind = 2#8 ∧
          f.payload = [2#8, if s.loop.reportGap then 1#8 else 0#8] ++ stateBody t) ∧
      (due → s.loop.mode ≠ .off → 12 < s.loop.insertQueue.length →
        t.loop.insertQueue = s.loop.insertQueue ∧ t.loop.reportGap = true ∧
          (s.events.flags.length = 25 → t.events.latched 23 = true))) ∧
  (∀ (o : OutcomeRecord) (s : State),
    (o.response = none → passThrough o s = s) ∧
    (∀ g, o.response = some g →
      let copied (kind : NodeKind) : Prop :=
        (some (kind, g.kind) ∈ s.loop.passList →
          passThrough o s =
            offerPass
              ([byte o.request.address, nodeKindCode kind, responseCode g.kind, byte g.sequence,
                  checkCode g.check, byte g.payload.length] ++ g.payload) s) ∧
        (some (kind, g.kind) ∉ s.loop.passList → passThrough o s = s)
      (∀ i, o.request.owner = .probe i → copied .probe) ∧
      (∀ i, o.request.owner = .air i → copied .air) ∧
      (∀ i, o.request.owner = .actuator i → copied .actuator) ∧
      (∀ i k, o.request.owner = .survey i → g.kind = .ident → 1 ≤ g.payload.length →
        nodeKindOf (byteAt g.payload 0) = some k → copied k) ∧
      (∀ i, o.request.owner = .survey i →
        g.kind ≠ .ident ∨ g.payload = [] ∨ nodeKindOf (byteAt g.payload 0) = none →
        passThrough o s = s)))

/-- A raise (R175, R176): on a set flag it changes nothing; on a clear one it latches the flag with the detail,
and where the mask selects the event it offers one NOTICE to station 0 with the event number, the detail and the
latched set, which enters where a place is free (R158).  ALARM is high exactly while an event is latched and
selected. -/
def Obligations.RaiseLatches : Prop :=
  ∀ (r : Raise) (s : State) (f : EventFlag), s.events.flags[r.1.number]? = some f →
    let n := r.1.number
    let latched : EventUnit :=
      { s.events with flags := s.events.flags.set n { set := true, detail := r.2 } }
    let notice : LoopFrame :=
      { dest := 0#8, source := byte s.loop.station, kind := 3#8, edh := false, eda := false,
        hops := 0, payload := [byte n, optByte r.2] ++ le32 latched.latchedSet }
    (f.set = true → raise r s = s) ∧
    (f.set = false →
      s.events.mask.getLsbD n = false ∨ 16 ≤ s.loop.insertQueue.length →
      raise r s = { s with events := latched }) ∧
    (f.set = false → s.events.mask.getLsbD n = true → s.loop.insertQueue.length < 16 →
      raise r s =
        { s with
          events := latched,
          loop :=
            { s.loop with
              insertQueue :=
                s.loop.insertQueue ++ [{ frame := notice, restartReply := false }] } }) ∧
    (s.resetHeld = false →
      (s.alarm = true ↔
        ∃ (k : Nat) (g : EventFlag), k < 25 ∧ s.events.flags[k]? = some g ∧ g.set = true ∧
          s.events.mask.getLsbD k = true))
end

