-- ==== Sys2Proof/Decode.lean ====
section
/-! DEFINITION. Words of spec/opcode_table.json. -/

namespace Sys2Proof

/-- The command that a word spells by the table's bits: the table gives no row any bits, so no word spells
one (assumption 22).  COMMAND frames reach the K24 as LOOP_FRAME_RECEIVED. -/
def decodeTableWord (_nbits _w : Nat) : Option Instr := none

end Sys2Proof
end

