-- ==== Sys2Proof/Laws/State.lean ====
section
/-! SUPPORT. The fields that each named update of the state leaves as they were: one lemma for each field and
update, true by rfl. -/

namespace Sys2Proof.Machine

@[simp] theorem raise_resetHeld (r : Raise) (s : State) : (raise r s).resetHeld = s.resetHeld := rfl
@[simp] theorem raise_plp (r : Raise) (s : State) : (raise r s).plp = s.plp := rfl
@[simp] theorem raise_line (r : Raise) (s : State) : (raise r s).line = s.line := rfl
@[simp] theorem raise_lineParams (r : Raise) (s : State) : (raise r s).lineParams = s.lineParams := rfl
@[simp] theorem raise_nodes (r : Raise) (s : State) : (raise r s).nodes = s.nodes := rfl
@[simp] theorem raise_survey (r : Raise) (s : State) : (raise r s).survey = s.survey := rfl
@[simp] theorem raise_calibration (r : Raise) (s : State) : (raise r s).calibration = s.calibration := rfl
@[simp] theorem raise_evaluator (r : Raise) (s : State) : (raise r s).evaluator = s.evaluator := rfl
@[simp] theorem raise_schedule (r : Raise) (s : State) : (raise r s).schedule = s.schedule := rfl
@[simp] theorem raise_climate (r : Raise) (s : State) : (raise r s).climate = s.climate := rfl
@[simp] theorem raise_outputs (r : Raise) (s : State) : (raise r s).outputs = s.outputs := rfl
@[simp] theorem raise_command (r : Raise) (s : State) : (raise r s).command = s.command := rfl
@[simp] theorem raise_pending (r : Raise) (s : State) : (raise r s).pending = s.pending := rfl

@[simp] theorem startPulse_resetHeld (s : State) : (startPulse s).resetHeld = s.resetHeld := rfl
@[simp] theorem startPulse_plp (s : State) : (startPulse s).plp = s.plp := rfl
@[simp] theorem startPulse_line (s : State) : (startPulse s).line = s.line := rfl
@[simp] theorem startPulse_lineParams (s : State) : (startPulse s).lineParams = s.lineParams := rfl
@[simp] theorem startPulse_nodes (s : State) : (startPulse s).nodes = s.nodes := rfl
@[simp] theorem startPulse_survey (s : State) : (startPulse s).survey = s.survey := rfl
@[simp] theorem startPulse_calibration (s : State) : (startPulse s).calibration = s.calibration := rfl
@[simp] theorem startPulse_evaluator (s : State) : (startPulse s).evaluator = s.evaluator := rfl
@[simp] theorem startPulse_schedule (s : State) : (startPulse s).schedule = s.schedule := rfl
@[simp] theorem startPulse_climate (s : State) : (startPulse s).climate = s.climate := rfl
@[simp] theorem startPulse_outputs (s : State) : (startPulse s).outputs = s.outputs := rfl
@[simp] theorem startPulse_loop (s : State) : (startPulse s).loop = s.loop := rfl
@[simp] theorem startPulse_command (s : State) : (startPulse s).command = s.command := rfl
@[simp] theorem startPulse_pending (s : State) : (startPulse s).pending = s.pending := rfl

@[simp] theorem formAll_resetHeld (s : State) : (formAll s).resetHeld = s.resetHeld := rfl
@[simp] theorem formAll_plp (s : State) : (formAll s).plp = s.plp := rfl
@[simp] theorem formAll_line (s : State) : (formAll s).line = s.line := rfl
@[simp] theorem formAll_lineParams (s : State) : (formAll s).lineParams = s.lineParams := rfl
@[simp] theorem formAll_nodes (s : State) : (formAll s).nodes = s.nodes := rfl
@[simp] theorem formAll_survey (s : State) : (formAll s).survey = s.survey := rfl
@[simp] theorem formAll_calibration (s : State) : (formAll s).calibration = s.calibration := rfl
@[simp] theorem formAll_evaluator (s : State) : (formAll s).evaluator = s.evaluator := rfl
@[simp] theorem formAll_schedule (s : State) : (formAll s).schedule = s.schedule := rfl
@[simp] theorem formAll_climate (s : State) : (formAll s).climate = s.climate := rfl
@[simp] theorem formAll_loop (s : State) : (formAll s).loop = s.loop := rfl
@[simp] theorem formAll_command (s : State) : (formAll s).command = s.command := rfl
@[simp] theorem formAll_events (s : State) : (formAll s).events = s.events := rfl
@[simp] theorem formAll_pending (s : State) : (formAll s).pending = s.pending := rfl

@[simp] theorem enterCooldown_resetHeld (r : ChargeResult) (s : State) : (enterCooldown r s).resetHeld = s.resetHeld :=
  rfl
@[simp] theorem enterCooldown_plp (r : ChargeResult) (s : State) : (enterCooldown r s).plp = s.plp := rfl
@[simp] theorem enterCooldown_line (r : ChargeResult) (s : State) : (enterCooldown r s).line = s.line := rfl
@[simp] theorem enterCooldown_lineParams (r : ChargeResult) (s : State) : (enterCooldown r s).lineParams = s.lineParams :=
  rfl
@[simp] theorem enterCooldown_nodes (r : ChargeResult) (s : State) : (enterCooldown r s).nodes = s.nodes :=
  rfl
@[simp] theorem enterCooldown_survey (r : ChargeResult) (s : State) : (enterCooldown r s).survey = s.survey :=
  rfl
@[simp] theorem enterCooldown_calibration (r : ChargeResult) (s : State) : (enterCooldown r s).calibration = s.calibration :=
  rfl
@[simp] theorem enterCooldown_evaluator (r : ChargeResult) (s : State) : (enterCooldown r s).evaluator = s.evaluator :=
  rfl
@[simp] theorem enterCooldown_loop (r : ChargeResult) (s : State) : (enterCooldown r s).loop = s.loop := rfl
@[simp] theorem enterCooldown_command (r : ChargeResult) (s : State) : (enterCooldown r s).command = s.command :=
  rfl
@[simp] theorem enterCooldown_events (r : ChargeResult) (s : State) : (enterCooldown r s).events = s.events :=
  rfl
@[simp] theorem enterCooldown_pending (r : ChargeResult) (s : State) : (enterCooldown r s).pending = s.pending :=
  rfl

@[simp] theorem completeCharge_resetHeld (r : Option ChargeResult) (s : State) : (completeCharge r s).resetHeld = s.resetHeld :=
  rfl
@[simp] theorem completeCharge_plp (r : Option ChargeResult) (s : State) : (completeCharge r s).plp = s.plp :=
  rfl
@[simp] theorem completeCharge_line (r : Option ChargeResult) (s : State) : (completeCharge r s).line = s.line :=
  rfl
@[simp] theorem completeCharge_lineParams (r : Option ChargeResult) (s : State) : (completeCharge r s).lineParams = s.lineParams :=
  rfl
@[simp] theorem completeCharge_nodes (r : Option ChargeResult) (s : State) : (completeCharge r s).nodes = s.nodes :=
  rfl
@[simp] theorem completeCharge_survey (r : Option ChargeResult) (s : State) : (completeCharge r s).survey = s.survey :=
  rfl
@[simp] theorem completeCharge_calibration (r : Option ChargeResult) (s : State) : (completeCharge r s).calibration = s.calibration :=
  rfl
@[simp] theorem completeCharge_evaluator (r : Option ChargeResult) (s : State) : (completeCharge r s).evaluator = s.evaluator :=
  rfl
@[simp] theorem completeCharge_command (r : Option ChargeResult) (s : State) : (completeCharge r s).command = s.command :=
  rfl
@[simp] theorem completeCharge_pending (r : Option ChargeResult) (s : State) : (completeCharge r s).pending = s.pending :=
  rfl

@[simp] theorem issue_resetHeld (r : Request) (s : State) : (issue r s).resetHeld = s.resetHeld := rfl
@[simp] theorem issue_lineParams (r : Request) (s : State) : (issue r s).lineParams = s.lineParams := rfl
@[simp] theorem issue_calibration (r : Request) (s : State) : (issue r s).calibration = s.calibration := rfl
@[simp] theorem issue_evaluator (r : Request) (s : State) : (issue r s).evaluator = s.evaluator := rfl
@[simp] theorem issue_schedule (r : Request) (s : State) : (issue r s).schedule = s.schedule := rfl
@[simp] theorem issue_climate (r : Request) (s : State) : (issue r s).climate = s.climate := rfl
@[simp] theorem issue_loop (r : Request) (s : State) : (issue r s).loop = s.loop := rfl
@[simp] theorem issue_command (r : Request) (s : State) : (issue r s).command = s.command := rfl
@[simp] theorem issue_events (r : Request) (s : State) : (issue r s).events = s.events := rfl
@[simp] theorem issue_pending (r : Request) (s : State) : (issue r s).pending = s.pending := rfl

@[simp] theorem lineResetEffect_resetHeld (s : State) : (lineResetEffect s).resetHeld = s.resetHeld := rfl
@[simp] theorem lineResetEffect_lineParams (s : State) : (lineResetEffect s).lineParams = s.lineParams := rfl
@[simp] theorem lineResetEffect_calibration (s : State) : (lineResetEffect s).calibration = s.calibration :=
  rfl
@[simp] theorem lineResetEffect_evaluator (s : State) : (lineResetEffect s).evaluator = s.evaluator := rfl
@[simp] theorem lineResetEffect_schedule (s : State) : (lineResetEffect s).schedule = s.schedule := rfl
@[simp] theorem lineResetEffect_climate (s : State) : (lineResetEffect s).climate = s.climate := rfl
@[simp] theorem lineResetEffect_outputs (s : State) : (lineResetEffect s).outputs = s.outputs := rfl
@[simp] theorem lineResetEffect_loop (s : State) : (lineResetEffect s).loop = s.loop := rfl
@[simp] theorem lineResetEffect_command (s : State) : (lineResetEffect s).command = s.command := rfl
@[simp] theorem lineResetEffect_events (s : State) : (lineResetEffect s).events = s.events := rfl
@[simp] theorem lineResetEffect_pending (s : State) : (lineResetEffect s).pending = s.pending := rfl

@[simp] theorem quarantineMinute_resetHeld (s : State) : (quarantineMinute s).resetHeld = s.resetHeld := rfl
@[simp] theorem quarantineMinute_plp (s : State) : (quarantineMinute s).plp = s.plp := rfl
@[simp] theorem quarantineMinute_line (s : State) : (quarantineMinute s).line = s.line := rfl
@[simp] theorem quarantineMinute_lineParams (s : State) : (quarantineMinute s).lineParams = s.lineParams :=
  rfl
@[simp] theorem quarantineMinute_survey (s : State) : (quarantineMinute s).survey = s.survey := rfl
@[simp] theorem quarantineMinute_calibration (s : State) : (quarantineMinute s).calibration = s.calibration :=
  rfl
@[simp] theorem quarantineMinute_evaluator (s : State) : (quarantineMinute s).evaluator = s.evaluator := rfl
@[simp] theorem quarantineMinute_schedule (s : State) : (quarantineMinute s).schedule = s.schedule := rfl
@[simp] theorem quarantineMinute_climate (s : State) : (quarantineMinute s).climate = s.climate := rfl
@[simp] theorem quarantineMinute_outputs (s : State) : (quarantineMinute s).outputs = s.outputs := rfl
@[simp] theorem quarantineMinute_loop (s : State) : (quarantineMinute s).loop = s.loop := rfl
@[simp] theorem quarantineMinute_command (s : State) : (quarantineMinute s).command = s.command := rfl
@[simp] theorem quarantineMinute_events (s : State) : (quarantineMinute s).events = s.events := rfl
@[simp] theorem quarantineMinute_pending (s : State) : (quarantineMinute s).pending = s.pending := rfl

@[simp] theorem quarantineEnd_resetHeld (i : Nat) (s : State) : (quarantineEnd i s).resetHeld = s.resetHeld :=
  rfl
@[simp] theorem quarantineEnd_plp (i : Nat) (s : State) : (quarantineEnd i s).plp = s.plp := rfl
@[simp] theorem quarantineEnd_line (i : Nat) (s : State) : (quarantineEnd i s).line = s.line := rfl
@[simp] theorem quarantineEnd_lineParams (i : Nat) (s : State) : (quarantineEnd i s).lineParams = s.lineParams :=
  rfl
@[simp] theorem quarantineEnd_survey (i : Nat) (s : State) : (quarantineEnd i s).survey = s.survey := rfl
@[simp] theorem quarantineEnd_calibration (i : Nat) (s : State) : (quarantineEnd i s).calibration = s.calibration :=
  rfl
@[simp] theorem quarantineEnd_evaluator (i : Nat) (s : State) : (quarantineEnd i s).evaluator = s.evaluator :=
  rfl
@[simp] theorem quarantineEnd_schedule (i : Nat) (s : State) : (quarantineEnd i s).schedule = s.schedule :=
  rfl
@[simp] theorem quarantineEnd_climate (i : Nat) (s : State) : (quarantineEnd i s).climate = s.climate := rfl
@[simp] theorem quarantineEnd_outputs (i : Nat) (s : State) : (quarantineEnd i s).outputs = s.outputs := rfl
@[simp] theorem quarantineEnd_loop (i : Nat) (s : State) : (quarantineEnd i s).loop = s.loop := rfl
@[simp] theorem quarantineEnd_command (i : Nat) (s : State) : (quarantineEnd i s).command = s.command := rfl
@[simp] theorem quarantineEnd_events (i : Nat) (s : State) : (quarantineEnd i s).events = s.events := rfl
@[simp] theorem quarantineEnd_pending (i : Nat) (s : State) : (quarantineEnd i s).pending = s.pending := rfl

@[simp] theorem pulseEnd_resetHeld (s : State) : (pulseEnd s).resetHeld = s.resetHeld := rfl
@[simp] theorem pulseEnd_plp (s : State) : (pulseEnd s).plp = s.plp := rfl
@[simp] theorem pulseEnd_line (s : State) : (pulseEnd s).line = s.line := rfl
@[simp] theorem pulseEnd_lineParams (s : State) : (pulseEnd s).lineParams = s.lineParams := rfl
@[simp] theorem pulseEnd_nodes (s : State) : (pulseEnd s).nodes = s.nodes := rfl
@[simp] theorem pulseEnd_survey (s : State) : (pulseEnd s).survey = s.survey := rfl
@[simp] theorem pulseEnd_calibration (s : State) : (pulseEnd s).calibration = s.calibration := rfl
@[simp] theorem pulseEnd_evaluator (s : State) : (pulseEnd s).evaluator = s.evaluator := rfl
@[simp] theorem pulseEnd_schedule (s : State) : (pulseEnd s).schedule = s.schedule := rfl
@[simp] theorem pulseEnd_climate (s : State) : (pulseEnd s).climate = s.climate := rfl
@[simp] theorem pulseEnd_outputs (s : State) : (pulseEnd s).outputs = s.outputs := rfl
@[simp] theorem pulseEnd_loop (s : State) : (pulseEnd s).loop = s.loop := rfl
@[simp] theorem pulseEnd_command (s : State) : (pulseEnd s).command = s.command := rfl
@[simp] theorem pulseEnd_pending (s : State) : (pulseEnd s).pending = s.pending := rfl

@[simp] theorem withCharge_resetHeld (c : Charge) (s : State) : (s.withCharge c).resetHeld = s.resetHeld :=
  rfl
@[simp] theorem withCharge_plp (c : Charge) (s : State) : (s.withCharge c).plp = s.plp := rfl
@[simp] theorem withCharge_line (c : Charge) (s : State) : (s.withCharge c).line = s.line := rfl
@[simp] theorem withCharge_lineParams (c : Charge) (s : State) : (s.withCharge c).lineParams = s.lineParams :=
  rfl
@[simp] theorem withCharge_nodes (c : Charge) (s : State) : (s.withCharge c).nodes = s.nodes := rfl
@[simp] theorem withCharge_survey (c : Charge) (s : State) : (s.withCharge c).survey = s.survey := rfl
@[simp] theorem withCharge_calibration (c : Charge) (s : State) : (s.withCharge c).calibration = s.calibration :=
  rfl
@[simp] theorem withCharge_evaluator (c : Charge) (s : State) : (s.withCharge c).evaluator = s.evaluator :=
  rfl
@[simp] theorem withCharge_climate (c : Charge) (s : State) : (s.withCharge c).climate = s.climate := rfl
@[simp] theorem withCharge_outputs (c : Charge) (s : State) : (s.withCharge c).outputs = s.outputs := rfl
@[simp] theorem withCharge_loop (c : Charge) (s : State) : (s.withCharge c).loop = s.loop := rfl
@[simp] theorem withCharge_command (c : Charge) (s : State) : (s.withCharge c).command = s.command := rfl
@[simp] theorem withCharge_events (c : Charge) (s : State) : (s.withCharge c).events = s.events := rfl
@[simp] theorem withCharge_pending (c : Charge) (s : State) : (s.withCharge c).pending = s.pending := rfl

@[simp] theorem withWb_resetHeld (w : WbSelection) (s : State) : (s.withWb w).resetHeld = s.resetHeld := rfl
@[simp] theorem withWb_plp (w : WbSelection) (s : State) : (s.withWb w).plp = s.plp := rfl
@[simp] theorem withWb_line (w : WbSelection) (s : State) : (s.withWb w).line = s.line := rfl
@[simp] theorem withWb_lineParams (w : WbSelection) (s : State) : (s.withWb w).lineParams = s.lineParams :=
  rfl
@[simp] theorem withWb_survey (w : WbSelection) (s : State) : (s.withWb w).survey = s.survey := rfl
@[simp] theorem withWb_calibration (w : WbSelection) (s : State) : (s.withWb w).calibration = s.calibration :=
  rfl
@[simp] theorem withWb_evaluator (w : WbSelection) (s : State) : (s.withWb w).evaluator = s.evaluator := rfl
@[simp] theorem withWb_schedule (w : WbSelection) (s : State) : (s.withWb w).schedule = s.schedule := rfl
@[simp] theorem withWb_climate (w : WbSelection) (s : State) : (s.withWb w).climate = s.climate := rfl
@[simp] theorem withWb_outputs (w : WbSelection) (s : State) : (s.withWb w).outputs = s.outputs := rfl
@[simp] theorem withWb_loop (w : WbSelection) (s : State) : (s.withWb w).loop = s.loop := rfl
@[simp] theorem withWb_command (w : WbSelection) (s : State) : (s.withWb w).command = s.command := rfl
@[simp] theorem withWb_events (w : WbSelection) (s : State) : (s.withWb w).events = s.events := rfl
@[simp] theorem withWb_pending (w : WbSelection) (s : State) : (s.withWb w).pending = s.pending := rfl

@[simp] theorem writeProbes_resetHeld (v : List (Nat × ProbeConfig)) (s : State) : (writeProbes v s).resetHeld = s.resetHeld :=
  rfl
@[simp] theorem writeProbes_plp (v : List (Nat × ProbeConfig)) (s : State) : (writeProbes v s).plp = s.plp :=
  rfl
@[simp] theorem writeProbes_lineParams (v : List (Nat × ProbeConfig)) (s : State) : (writeProbes v s).lineParams = s.lineParams :=
  rfl
@[simp] theorem writeProbes_survey (v : List (Nat × ProbeConfig)) (s : State) : (writeProbes v s).survey = s.survey :=
  rfl
@[simp] theorem writeProbes_calibration (v : List (Nat × ProbeConfig)) (s : State) : (writeProbes v s).calibration = s.calibration :=
  rfl
@[simp] theorem writeProbes_evaluator (v : List (Nat × ProbeConfig)) (s : State) : (writeProbes v s).evaluator = s.evaluator :=
  rfl
@[simp] theorem writeProbes_schedule (v : List (Nat × ProbeConfig)) (s : State) : (writeProbes v s).schedule = s.schedule :=
  rfl
@[simp] theorem writeProbes_climate (v : List (Nat × ProbeConfig)) (s : State) : (writeProbes v s).climate = s.climate :=
  rfl
@[simp] theorem writeProbes_outputs (v : List (Nat × ProbeConfig)) (s : State) : (writeProbes v s).outputs = s.outputs :=
  rfl
@[simp] theorem writeProbes_loop (v : List (Nat × ProbeConfig)) (s : State) : (writeProbes v s).loop = s.loop :=
  rfl
@[simp] theorem writeProbes_command (v : List (Nat × ProbeConfig)) (s : State) : (writeProbes v s).command = s.command :=
  rfl
@[simp] theorem writeProbes_events (v : List (Nat × ProbeConfig)) (s : State) : (writeProbes v s).events = s.events :=
  rfl
@[simp] theorem writeProbes_pending (v : List (Nat × ProbeConfig)) (s : State) : (writeProbes v s).pending = s.pending :=
  rfl

@[simp] theorem writeAirs_resetHeld (v : List (Nat × AirConfig)) (s : State) : (writeAirs v s).resetHeld = s.resetHeld :=
  rfl
@[simp] theorem writeAirs_plp (v : List (Nat × AirConfig)) (s : State) : (writeAirs v s).plp = s.plp := rfl
@[simp] theorem writeAirs_lineParams (v : List (Nat × AirConfig)) (s : State) : (writeAirs v s).lineParams = s.lineParams :=
  rfl
@[simp] theorem writeAirs_survey (v : List (Nat × AirConfig)) (s : State) : (writeAirs v s).survey = s.survey :=
  rfl
@[simp] theorem writeAirs_calibration (v : List (Nat × AirConfig)) (s : State) : (writeAirs v s).calibration = s.calibration :=
  rfl
@[simp] theorem writeAirs_evaluator (v : List (Nat × AirConfig)) (s : State) : (writeAirs v s).evaluator = s.evaluator :=
  rfl
@[simp] theorem writeAirs_schedule (v : List (Nat × AirConfig)) (s : State) : (writeAirs v s).schedule = s.schedule :=
  rfl
@[simp] theorem writeAirs_climate (v : List (Nat × AirConfig)) (s : State) : (writeAirs v s).climate = s.climate :=
  rfl
@[simp] theorem writeAirs_outputs (v : List (Nat × AirConfig)) (s : State) : (writeAirs v s).outputs = s.outputs :=
  rfl
@[simp] theorem writeAirs_loop (v : List (Nat × AirConfig)) (s : State) : (writeAirs v s).loop = s.loop := rfl
@[simp] theorem writeAirs_command (v : List (Nat × AirConfig)) (s : State) : (writeAirs v s).command = s.command :=
  rfl
@[simp] theorem writeAirs_events (v : List (Nat × AirConfig)) (s : State) : (writeAirs v s).events = s.events :=
  rfl
@[simp] theorem writeAirs_pending (v : List (Nat × AirConfig)) (s : State) : (writeAirs v s).pending = s.pending :=
  rfl

@[simp] theorem writeActuators_resetHeld (v : List (Nat × ActuatorConfig)) (s : State) : (writeActuators v s).resetHeld = s.resetHeld :=
  rfl
@[simp] theorem writeActuators_plp (v : List (Nat × ActuatorConfig)) (s : State) : (writeActuators v s).plp = s.plp :=
  rfl
@[simp] theorem writeActuators_lineParams (v : List (Nat × ActuatorConfig)) (s : State) : (writeActuators v s).lineParams = s.lineParams :=
  rfl
@[simp] theorem writeActuators_nodes (v : List (Nat × ActuatorConfig)) (s : State) : (writeActuators v s).nodes = s.nodes :=
  rfl
@[simp] theorem writeActuators_survey (v : List (Nat × ActuatorConfig)) (s : State) : (writeActuators v s).survey = s.survey :=
  rfl
@[simp] theorem writeActuators_calibration (v : List (Nat × ActuatorConfig)) (s : State) : (writeActuators v s).calibration = s.calibration :=
  rfl
@[simp] theorem writeActuators_evaluator (v : List (Nat × ActuatorConfig)) (s : State) : (writeActuators v s).evaluator = s.evaluator :=
  rfl
@[simp] theorem writeActuators_schedule (v : List (Nat × ActuatorConfig)) (s : State) : (writeActuators v s).schedule = s.schedule :=
  rfl
@[simp] theorem writeActuators_climate (v : List (Nat × ActuatorConfig)) (s : State) : (writeActuators v s).climate = s.climate :=
  rfl
@[simp] theorem writeActuators_loop (v : List (Nat × ActuatorConfig)) (s : State) : (writeActuators v s).loop = s.loop :=
  rfl
@[simp] theorem writeActuators_command (v : List (Nat × ActuatorConfig)) (s : State) : (writeActuators v s).command = s.command :=
  rfl
@[simp] theorem writeActuators_events (v : List (Nat × ActuatorConfig)) (s : State) : (writeActuators v s).events = s.events :=
  rfl
@[simp] theorem writeActuators_pending (v : List (Nat × ActuatorConfig)) (s : State) : (writeActuators v s).pending = s.pending :=
  rfl

@[simp] theorem writeSteps_resetHeld (v : List (Nat × StepRecord)) (s : State) : (writeSteps v s).resetHeld = s.resetHeld :=
  rfl
@[simp] theorem writeSteps_plp (v : List (Nat × StepRecord)) (s : State) : (writeSteps v s).plp = s.plp := rfl
@[simp] theorem writeSteps_line (v : List (Nat × StepRecord)) (s : State) : (writeSteps v s).line = s.line :=
  rfl
@[simp] theorem writeSteps_lineParams (v : List (Nat × StepRecord)) (s : State) : (writeSteps v s).lineParams = s.lineParams :=
  rfl
@[simp] theorem writeSteps_nodes (v : List (Nat × StepRecord)) (s : State) : (writeSteps v s).nodes = s.nodes :=
  rfl
@[simp] theorem writeSteps_survey (v : List (Nat × StepRecord)) (s : State) : (writeSteps v s).survey = s.survey :=
  rfl
@[simp] theorem writeSteps_calibration (v : List (Nat × StepRecord)) (s : State) : (writeSteps v s).calibration = s.calibration :=
  rfl
@[simp] theorem writeSteps_evaluator (v : List (Nat × StepRecord)) (s : State) : (writeSteps v s).evaluator = s.evaluator :=
  rfl
@[simp] theorem writeSteps_climate (v : List (Nat × StepRecord)) (s : State) : (writeSteps v s).climate = s.climate :=
  rfl
@[simp] theorem writeSteps_outputs (v : List (Nat × StepRecord)) (s : State) : (writeSteps v s).outputs = s.outputs :=
  rfl
@[simp] theorem writeSteps_loop (v : List (Nat × StepRecord)) (s : State) : (writeSteps v s).loop = s.loop :=
  rfl
@[simp] theorem writeSteps_command (v : List (Nat × StepRecord)) (s : State) : (writeSteps v s).command = s.command :=
  rfl
@[simp] theorem writeSteps_events (v : List (Nat × StepRecord)) (s : State) : (writeSteps v s).events = s.events :=
  rfl
@[simp] theorem writeSteps_pending (v : List (Nat × StepRecord)) (s : State) : (writeSteps v s).pending = s.pending :=
  rfl

@[simp] theorem writeChargeParams_resetHeld (v : List (Nat × Nat)) (s : State) : (writeChargeParams v s).resetHeld = s.resetHeld :=
  rfl
@[simp] theorem writeChargeParams_plp (v : List (Nat × Nat)) (s : State) : (writeChargeParams v s).plp = s.plp :=
  rfl
@[simp] theorem writeChargeParams_line (v : List (Nat × Nat)) (s : State) : (writeChargeParams v s).line = s.line :=
  rfl
@[simp] theorem writeChargeParams_lineParams (v : List (Nat × Nat)) (s : State) : (writeChargeParams v s).lineParams = s.lineParams :=
  rfl
@[simp] theorem writeChargeParams_nodes (v : List (Nat × Nat)) (s : State) : (writeChargeParams v s).nodes = s.nodes :=
  rfl
@[simp] theorem writeChargeParams_survey (v : List (Nat × Nat)) (s : State) : (writeChargeParams v s).survey = s.survey :=
  rfl
@[simp] theorem writeChargeParams_calibration (v : List (Nat × Nat)) (s : State) : (writeChargeParams v s).calibration = s.calibration :=
  rfl
@[simp] theorem writeChargeParams_evaluator (v : List (Nat × Nat)) (s : State) : (writeChargeParams v s).evaluator = s.evaluator :=
  rfl
@[simp] theorem writeChargeParams_climate (v : List (Nat × Nat)) (s : State) : (writeChargeParams v s).climate = s.climate :=
  rfl
@[simp] theorem writeChargeParams_outputs (v : List (Nat × Nat)) (s : State) : (writeChargeParams v s).outputs = s.outputs :=
  rfl
@[simp] theorem writeChargeParams_loop (v : List (Nat × Nat)) (s : State) : (writeChargeParams v s).loop = s.loop :=
  rfl
@[simp] theorem writeChargeParams_command (v : List (Nat × Nat)) (s : State) : (writeChargeParams v s).command = s.command :=
  rfl
@[simp] theorem writeChargeParams_events (v : List (Nat × Nat)) (s : State) : (writeChargeParams v s).events = s.events :=
  rfl
@[simp] theorem writeChargeParams_pending (v : List (Nat × Nat)) (s : State) : (writeChargeParams v s).pending = s.pending :=
  rfl

@[simp] theorem beginCharge_resetHeld (s : State) : (beginCharge s).resetHeld = s.resetHeld := rfl
@[simp] theorem beginCharge_plp (s : State) : (beginCharge s).plp = s.plp := rfl
@[simp] theorem beginCharge_line (s : State) : (beginCharge s).line = s.line := rfl
@[simp] theorem beginCharge_lineParams (s : State) : (beginCharge s).lineParams = s.lineParams := rfl
@[simp] theorem beginCharge_nodes (s : State) : (beginCharge s).nodes = s.nodes := rfl
@[simp] theorem beginCharge_survey (s : State) : (beginCharge s).survey = s.survey := rfl
@[simp] theorem beginCharge_calibration (s : State) : (beginCharge s).calibration = s.calibration := rfl
@[simp] theorem beginCharge_loop (s : State) : (beginCharge s).loop = s.loop := rfl
@[simp] theorem beginCharge_command (s : State) : (beginCharge s).command = s.command := rfl
@[simp] theorem beginCharge_events (s : State) : (beginCharge s).events = s.events := rfl
@[simp] theorem beginCharge_pending (s : State) : (beginCharge s).pending = s.pending := rfl

@[simp] theorem enterHold_resetHeld (r : ReturnState) (s : State) : (enterHold r s).resetHeld = s.resetHeld :=
  rfl
@[simp] theorem enterHold_plp (r : ReturnState) (s : State) : (enterHold r s).plp = s.plp := rfl
@[simp] theorem enterHold_line (r : ReturnState) (s : State) : (enterHold r s).line = s.line := rfl
@[simp] theorem enterHold_lineParams (r : ReturnState) (s : State) : (enterHold r s).lineParams = s.lineParams :=
  rfl
@[simp] theorem enterHold_nodes (r : ReturnState) (s : State) : (enterHold r s).nodes = s.nodes := rfl
@[simp] theorem enterHold_survey (r : ReturnState) (s : State) : (enterHold r s).survey = s.survey := rfl
@[simp] theorem enterHold_calibration (r : ReturnState) (s : State) : (enterHold r s).calibration = s.calibration :=
  rfl
@[simp] theorem enterHold_evaluator (r : ReturnState) (s : State) : (enterHold r s).evaluator = s.evaluator :=
  rfl
@[simp] theorem enterHold_climate (r : ReturnState) (s : State) : (enterHold r s).climate = s.climate := rfl
@[simp] theorem enterHold_outputs (r : ReturnState) (s : State) : (enterHold r s).outputs = s.outputs := rfl
@[simp] theorem enterHold_command (r : ReturnState) (s : State) : (enterHold r s).command = s.command := rfl
@[simp] theorem enterHold_pending (r : ReturnState) (s : State) : (enterHold r s).pending = s.pending := rfl

@[simp] theorem takeStep_resetHeld (k : Nat) (s : State) : (takeStep k s).resetHeld = s.resetHeld := rfl
@[simp] theorem takeStep_plp (k : Nat) (s : State) : (takeStep k s).plp = s.plp := rfl
@[simp] theorem takeStep_line (k : Nat) (s : State) : (takeStep k s).line = s.line := rfl
@[simp] theorem takeStep_lineParams (k : Nat) (s : State) : (takeStep k s).lineParams = s.lineParams := rfl
@[simp] theorem takeStep_nodes (k : Nat) (s : State) : (takeStep k s).nodes = s.nodes := rfl
@[simp] theorem takeStep_survey (k : Nat) (s : State) : (takeStep k s).survey = s.survey := rfl
@[simp] theorem takeStep_calibration (k : Nat) (s : State) : (takeStep k s).calibration = s.calibration := rfl
@[simp] theorem takeStep_evaluator (k : Nat) (s : State) : (takeStep k s).evaluator = s.evaluator := rfl
@[simp] theorem takeStep_climate (k : Nat) (s : State) : (takeStep k s).climate = s.climate := rfl
@[simp] theorem takeStep_outputs (k : Nat) (s : State) : (takeStep k s).outputs = s.outputs := rfl
@[simp] theorem takeStep_command (k : Nat) (s : State) : (takeStep k s).command = s.command := rfl
@[simp] theorem takeStep_pending (k : Nat) (s : State) : (takeStep k s).pending = s.pending := rfl

@[simp] theorem setOverride_resetHeld (i : Nat) (o : Override) (s : State) : (setOverride i o s).resetHeld = s.resetHeld :=
  rfl
@[simp] theorem setOverride_plp (i : Nat) (o : Override) (s : State) : (setOverride i o s).plp = s.plp := rfl
@[simp] theorem setOverride_line (i : Nat) (o : Override) (s : State) : (setOverride i o s).line = s.line :=
  rfl
@[simp] theorem setOverride_lineParams (i : Nat) (o : Override) (s : State) : (setOverride i o s).lineParams = s.lineParams :=
  rfl
@[simp] theorem setOverride_nodes (i : Nat) (o : Override) (s : State) : (setOverride i o s).nodes = s.nodes :=
  rfl
@[simp] theorem setOverride_survey (i : Nat) (o : Override) (s : State) : (setOverride i o s).survey = s.survey :=
  rfl
@[simp] theorem setOverride_calibration (i : Nat) (o : Override) (s : State) : (setOverride i o s).calibration = s.calibration :=
  rfl
@[simp] theorem setOverride_evaluator (i : Nat) (o : Override) (s : State) : (setOverride i o s).evaluator = s.evaluator :=
  rfl
@[simp] theorem setOverride_schedule (i : Nat) (o : Override) (s : State) : (setOverride i o s).schedule = s.schedule :=
  rfl
@[simp] theorem setOverride_climate (i : Nat) (o : Override) (s : State) : (setOverride i o s).climate = s.climate :=
  rfl
@[simp] theorem setOverride_loop (i : Nat) (o : Override) (s : State) : (setOverride i o s).loop = s.loop :=
  rfl
@[simp] theorem setOverride_command (i : Nat) (o : Override) (s : State) : (setOverride i o s).command = s.command :=
  rfl
@[simp] theorem setOverride_events (i : Nat) (o : Override) (s : State) : (setOverride i o s).events = s.events :=
  rfl
@[simp] theorem setOverride_pending (i : Nat) (o : Override) (s : State) : (setOverride i o s).pending = s.pending :=
  rfl

@[simp] theorem Answer.refuse_state (r : ReplyStatus) (s : State) : (Answer.refuse r s).state = s := rfl
@[simp] theorem Answer.refuse_status (r : ReplyStatus) (s : State) : (Answer.refuse r s).status = r := rfl
@[simp] theorem Answer.refuse_data (r : ReplyStatus) (s : State) : (Answer.refuse r s).data = [] := rfl
@[simp] theorem Answer.ok_state (s : State) : (Answer.ok s).state = s := rfl
@[simp] theorem Answer.ok_status (s : State) : (Answer.ok s).status = .ok := rfl
@[simp] theorem Answer.ok_data (s : State) : (Answer.ok s).data = [] := rfl
@[simp] theorem Answer.done_state (b : Bool) (s : State) : (Answer.done b s).state = s := rfl
@[simp] theorem Answer.done_data (b : Bool) (s : State) : (Answer.done b s).data = [] := rfl
@[simp] theorem readStatus_state (s : State) : (readStatus s).state = s := rfl
@[simp] theorem tableRead_state (args : List Byte) (s : State) : (tableRead args s).state = s := by
  unfold tableRead; dsimp only; (repeat' split) <;> rfl

@[simp] theorem lineReset_resetHeld (s : State) : (lineReset s).state.resetHeld = s.resetHeld := rfl
@[simp] theorem lineReset_lineParams (s : State) : (lineReset s).state.lineParams = s.lineParams := rfl
@[simp] theorem lineReset_calibration (s : State) : (lineReset s).state.calibration = s.calibration := rfl
@[simp] theorem lineReset_evaluator (s : State) : (lineReset s).state.evaluator = s.evaluator := rfl
@[simp] theorem lineReset_schedule (s : State) : (lineReset s).state.schedule = s.schedule := rfl
@[simp] theorem lineReset_climate (s : State) : (lineReset s).state.climate = s.climate := rfl
@[simp] theorem lineReset_outputs (s : State) : (lineReset s).state.outputs = s.outputs := rfl
@[simp] theorem lineReset_loop (s : State) : (lineReset s).state.loop = s.loop := rfl
@[simp] theorem lineReset_command (s : State) : (lineReset s).state.command = s.command := rfl
@[simp] theorem lineReset_events (s : State) : (lineReset s).state.events = s.events := rfl
@[simp] theorem lineReset_pending (s : State) : (lineReset s).state.pending = s.pending := rfl

@[simp] theorem heard_resetHeld (f : Bool) (s : State) : (s.heard f).resetHeld = s.resetHeld := rfl
@[simp] theorem heard_line (f : Bool) (s : State) : (s.heard f).line = s.line := rfl
@[simp] theorem heard_lineParams (f : Bool) (s : State) : (s.heard f).lineParams = s.lineParams := rfl
@[simp] theorem heard_nodes (f : Bool) (s : State) : (s.heard f).nodes = s.nodes := rfl
@[simp] theorem heard_survey (f : Bool) (s : State) : (s.heard f).survey = s.survey := rfl
@[simp] theorem heard_calibration (f : Bool) (s : State) : (s.heard f).calibration = s.calibration := rfl
@[simp] theorem heard_evaluator (f : Bool) (s : State) : (s.heard f).evaluator = s.evaluator := rfl
@[simp] theorem heard_schedule (f : Bool) (s : State) : (s.heard f).schedule = s.schedule := rfl
@[simp] theorem heard_climate (f : Bool) (s : State) : (s.heard f).climate = s.climate := rfl
@[simp] theorem heard_outputs (f : Bool) (s : State) : (s.heard f).outputs = s.outputs := rfl
@[simp] theorem heard_loop (f : Bool) (s : State) : (s.heard f).loop = s.loop := rfl
@[simp] theorem heard_command (f : Bool) (s : State) : (s.heard f).command = s.command := rfl
@[simp] theorem heard_events (f : Bool) (s : State) : (s.heard f).events = s.events := rfl
@[simp] theorem heard_pending (f : Bool) (s : State) : (s.heard f).pending = s.pending := rfl

/-! ## The receiver and loop-in -/

@[simp] theorem heard_receiver (f : Bool) (s : State) : (s.heard f).plp.receiver = .afterChar f := rfl
@[simp] theorem takeRequest_receiver (p : Plp) (l : LineParams) (r : Request) :
    (p.takeRequest l r).receiver = p.receiver.mute := rfl
@[simp] theorem pollSent_receiver (p : Plp) (l : LatchedParams) : (p.pollSent l).receiver = p.receiver := rfl
@[simp] theorem toIdle_receiver (p : Plp) : p.toIdle.receiver = p.receiver := rfl
@[simp] theorem countChar_receiver (p : Plp) : p.countChar.receiver = p.receiver := rfl
@[simp] theorem insert_loopIn (p : LoopPort) (f : LoopFrame) (b : Bool) :
    (p.insert f b).loopIn = p.loopIn := rfl
@[simp] theorem sendRepeated_loopIn (p : LoopPort) (f : LoopFrame) (n : Nat) :
    (p.sendRepeated f n).loopIn = p.loopIn := rfl
@[simp] theorem sendInserted_loopIn (p : LoopPort) (f : LoopFrame) :
    (p.sendInserted f).loopIn = p.loopIn := rfl
@[simp] theorem restart_loopIn (p : LoopPort) :
    p.restart.loopIn = p.loopIn.restart p.loopRx := rfl
@[simp] theorem insert_loopRx (p : LoopPort) (f : LoopFrame) (b : Bool) :
    (p.insert f b).loopRx = p.loopRx := rfl
@[simp] theorem sendRepeated_loopRx (p : LoopPort) (f : LoopFrame) (n : Nat) :
    (p.sendRepeated f n).loopRx = p.loopRx := rfl
@[simp] theorem sendInserted_loopRx (p : LoopPort) (f : LoopFrame) :
    (p.sendInserted f).loopRx = p.loopRx := rfl
@[simp] theorem restart_loopRx (p : LoopPort) : p.restart.loopRx = p.loopRx := rfl

/-! ## Sending a poll -/

@[simp] theorem sendFor_phase (n : Nat) (p : Plp) : (p.sendFor n).phase = p.phase := by
  unfold Plp.sendFor; dsimp only; (repeat' split) <;> rfl
@[simp] theorem sendFor_request (n : Nat) (p : Plp) : (p.sendFor n).request = p.request := by
  unfold Plp.sendFor; dsimp only; (repeat' split) <;> rfl
@[simp] theorem sendFor_latched (n : Nat) (p : Plp) : (p.sendFor n).latched = p.latched := by
  unfold Plp.sendFor; dsimp only; (repeat' split) <;> rfl
@[simp] theorem sendFor_poll (n : Nat) (p : Plp) : (p.sendFor n).poll = p.poll := by
  unfold Plp.sendFor; dsimp only; (repeat' split) <;> rfl
@[simp] theorem sendFor_responseTimer (n : Nat) (p : Plp) : (p.sendFor n).responseTimer = p.responseTimer := by
  unfold Plp.sendFor; dsimp only; (repeat' split) <;> rfl
@[simp] theorem sendFor_count (n : Nat) (p : Plp) : (p.sendFor n).count = p.count := by
  unfold Plp.sendFor; dsimp only; (repeat' split) <;> rfl
@[simp] theorem sendFor_sync (n : Nat) (p : Plp) : (p.sendFor n).sync = p.sync := by
  unfold Plp.sendFor; dsimp only; (repeat' split) <;> rfl
@[simp] theorem sendFor_fields (n : Nat) (p : Plp) : (p.sendFor n).fields = p.fields := by
  unfold Plp.sendFor; dsimp only; (repeat' split) <;> rfl
@[simp] theorem sendFor_declaredEnd (n : Nat) (p : Plp) : (p.sendFor n).declaredEnd = p.declaredEnd := by
  unfold Plp.sendFor; dsimp only; (repeat' split) <;> rfl
@[simp] theorem sendFor_faults (n : Nat) (p : Plp) : (p.sendFor n).faults = p.faults := by
  unfold Plp.sendFor; dsimp only; (repeat' split) <;> rfl
@[simp] theorem sendFor_rateHigh (n : Nat) (p : Plp) : (p.sendFor n).rateHigh = p.rateHigh := by
  unfold Plp.sendFor; dsimp only; (repeat' split) <;> rfl
@[simp] theorem sendFor_receiver (n : Nat) (p : Plp) : (p.sendFor n).receiver = p.receiver := by
  unfold Plp.sendFor; dsimp only; (repeat' split) <;> rfl

end Sys2Proof.Machine
end

