-- ==== Sys2Proof/Laws/Frames.lean ====
section
/-! SUPPORT. Frames: the fields that each composed operation leaves as they were. -/

namespace Sys2Proof.Machine

@[simp] theorem raiseAll_resetHeld (rs : List Raise) (s : State) : (raiseAll rs s).resetHeld = s.resetHeld := by
  induction rs generalizing s with
  | nil => rfl
  | cons r rs ih => exact (ih (raise r s)).trans (raise_resetHeld r s)
@[simp] theorem raiseAll_plp (rs : List Raise) (s : State) : (raiseAll rs s).plp = s.plp := by
  induction rs generalizing s with
  | nil => rfl
  | cons r rs ih => exact (ih (raise r s)).trans (raise_plp r s)
@[simp] theorem raiseAll_line (rs : List Raise) (s : State) : (raiseAll rs s).line = s.line := by
  induction rs generalizing s with
  | nil => rfl
  | cons r rs ih => exact (ih (raise r s)).trans (raise_line r s)
@[simp] theorem raiseAll_lineParams (rs : List Raise) (s : State) : (raiseAll rs s).lineParams = s.lineParams := by
  induction rs generalizing s with
  | nil => rfl
  | cons r rs ih => exact (ih (raise r s)).trans (raise_lineParams r s)
@[simp] theorem raiseAll_nodes (rs : List Raise) (s : State) : (raiseAll rs s).nodes = s.nodes := by
  induction rs generalizing s with
  | nil => rfl
  | cons r rs ih => exact (ih (raise r s)).trans (raise_nodes r s)
@[simp] theorem raiseAll_survey (rs : List Raise) (s : State) : (raiseAll rs s).survey = s.survey := by
  induction rs generalizing s with
  | nil => rfl
  | cons r rs ih => exact (ih (raise r s)).trans (raise_survey r s)
@[simp] theorem raiseAll_calibration (rs : List Raise) (s : State) : (raiseAll rs s).calibration = s.calibration := by
  induction rs generalizing s with
  | nil => rfl
  | cons r rs ih => exact (ih (raise r s)).trans (raise_calibration r s)
@[simp] theorem raiseAll_evaluator (rs : List Raise) (s : State) : (raiseAll rs s).evaluator = s.evaluator := by
  induction rs generalizing s with
  | nil => rfl
  | cons r rs ih => exact (ih (raise r s)).trans (raise_evaluator r s)
@[simp] theorem raiseAll_schedule (rs : List Raise) (s : State) : (raiseAll rs s).schedule = s.schedule := by
  induction rs generalizing s with
  | nil => rfl
  | cons r rs ih => exact (ih (raise r s)).trans (raise_schedule r s)
@[simp] theorem raiseAll_climate (rs : List Raise) (s : State) : (raiseAll rs s).climate = s.climate := by
  induction rs generalizing s with
  | nil => rfl
  | cons r rs ih => exact (ih (raise r s)).trans (raise_climate r s)
@[simp] theorem raiseAll_outputs (rs : List Raise) (s : State) : (raiseAll rs s).outputs = s.outputs := by
  induction rs generalizing s with
  | nil => rfl
  | cons r rs ih => exact (ih (raise r s)).trans (raise_outputs r s)
@[simp] theorem raiseAll_command (rs : List Raise) (s : State) : (raiseAll rs s).command = s.command := by
  induction rs generalizing s with
  | nil => rfl
  | cons r rs ih => exact (ih (raise r s)).trans (raise_command r s)
@[simp] theorem raiseAll_pending (rs : List Raise) (s : State) : (raiseAll rs s).pending = s.pending := by
  induction rs generalizing s with
  | nil => rfl
  | cons r rs ih => exact (ih (raise r s)).trans (raise_pending r s)

@[simp] theorem offerReport_resetHeld (t : Byte) (b : List Byte) (s : State) : (offerReport t b s).resetHeld = s.resetHeld :=
  by unfold offerReport; (repeat' split) <;> simp
@[simp] theorem offerReport_plp (t : Byte) (b : List Byte) (s : State) : (offerReport t b s).plp = s.plp :=
  by unfold offerReport; (repeat' split) <;> simp
@[simp] theorem offerReport_line (t : Byte) (b : List Byte) (s : State) : (offerReport t b s).line = s.line :=
  by unfold offerReport; (repeat' split) <;> simp
@[simp] theorem offerReport_lineParams (t : Byte) (b : List Byte) (s : State) : (offerReport t b s).lineParams = s.lineParams :=
  by unfold offerReport; (repeat' split) <;> simp
@[simp] theorem offerReport_nodes (t : Byte) (b : List Byte) (s : State) : (offerReport t b s).nodes = s.nodes :=
  by unfold offerReport; (repeat' split) <;> simp
@[simp] theorem offerReport_survey (t : Byte) (b : List Byte) (s : State) : (offerReport t b s).survey = s.survey :=
  by unfold offerReport; (repeat' split) <;> simp
@[simp] theorem offerReport_calibration (t : Byte) (b : List Byte) (s : State) : (offerReport t b s).calibration = s.calibration :=
  by unfold offerReport; (repeat' split) <;> simp
@[simp] theorem offerReport_evaluator (t : Byte) (b : List Byte) (s : State) : (offerReport t b s).evaluator = s.evaluator :=
  by unfold offerReport; (repeat' split) <;> simp
@[simp] theorem offerReport_schedule (t : Byte) (b : List Byte) (s : State) : (offerReport t b s).schedule = s.schedule :=
  by unfold offerReport; (repeat' split) <;> simp
@[simp] theorem offerReport_climate (t : Byte) (b : List Byte) (s : State) : (offerReport t b s).climate = s.climate :=
  by unfold offerReport; (repeat' split) <;> simp
@[simp] theorem offerReport_outputs (t : Byte) (b : List Byte) (s : State) : (offerReport t b s).outputs = s.outputs :=
  by unfold offerReport; (repeat' split) <;> simp
@[simp] theorem offerReport_command (t : Byte) (b : List Byte) (s : State) : (offerReport t b s).command = s.command :=
  by unfold offerReport; (repeat' split) <;> simp
@[simp] theorem offerReport_pending (t : Byte) (b : List Byte) (s : State) : (offerReport t b s).pending = s.pending :=
  by unfold offerReport; (repeat' split) <;> simp

@[simp] theorem offerPass_resetHeld (b : List Byte) (s : State) : (offerPass b s).resetHeld = s.resetHeld :=
  by unfold offerPass; (repeat' split) <;> simp
@[simp] theorem offerPass_plp (b : List Byte) (s : State) : (offerPass b s).plp = s.plp :=
  by unfold offerPass; (repeat' split) <;> simp
@[simp] theorem offerPass_line (b : List Byte) (s : State) : (offerPass b s).line = s.line :=
  by unfold offerPass; (repeat' split) <;> simp
@[simp] theorem offerPass_lineParams (b : List Byte) (s : State) : (offerPass b s).lineParams = s.lineParams :=
  by unfold offerPass; (repeat' split) <;> simp
@[simp] theorem offerPass_nodes (b : List Byte) (s : State) : (offerPass b s).nodes = s.nodes :=
  by unfold offerPass; (repeat' split) <;> simp
@[simp] theorem offerPass_survey (b : List Byte) (s : State) : (offerPass b s).survey = s.survey :=
  by unfold offerPass; (repeat' split) <;> simp
@[simp] theorem offerPass_calibration (b : List Byte) (s : State) : (offerPass b s).calibration = s.calibration :=
  by unfold offerPass; (repeat' split) <;> simp
@[simp] theorem offerPass_evaluator (b : List Byte) (s : State) : (offerPass b s).evaluator = s.evaluator :=
  by unfold offerPass; (repeat' split) <;> simp
@[simp] theorem offerPass_schedule (b : List Byte) (s : State) : (offerPass b s).schedule = s.schedule :=
  by unfold offerPass; (repeat' split) <;> simp
@[simp] theorem offerPass_climate (b : List Byte) (s : State) : (offerPass b s).climate = s.climate :=
  by unfold offerPass; (repeat' split) <;> simp
@[simp] theorem offerPass_outputs (b : List Byte) (s : State) : (offerPass b s).outputs = s.outputs :=
  by unfold offerPass; (repeat' split) <;> simp
@[simp] theorem offerPass_command (b : List Byte) (s : State) : (offerPass b s).command = s.command :=
  by unfold offerPass; (repeat' split) <;> simp
@[simp] theorem offerPass_pending (b : List Byte) (s : State) : (offerPass b s).pending = s.pending :=
  by unfold offerPass; (repeat' split) <;> simp

@[simp] theorem transition_resetHeld (s : State) : (transition s).resetHeld = s.resetHeld :=
  by unfold transition; (repeat' split) <;> simp
@[simp] theorem transition_plp (s : State) : (transition s).plp = s.plp :=
  by unfold transition; (repeat' split) <;> simp
@[simp] theorem transition_line (s : State) : (transition s).line = s.line :=
  by unfold transition; (repeat' split) <;> simp
@[simp] theorem transition_lineParams (s : State) : (transition s).lineParams = s.lineParams :=
  by unfold transition; (repeat' split) <;> simp
@[simp] theorem transition_nodes (s : State) : (transition s).nodes = s.nodes :=
  by unfold transition; (repeat' split) <;> simp
@[simp] theorem transition_survey (s : State) : (transition s).survey = s.survey :=
  by unfold transition; (repeat' split) <;> simp
@[simp] theorem transition_calibration (s : State) : (transition s).calibration = s.calibration :=
  by unfold transition; (repeat' split) <;> simp
@[simp] theorem transition_evaluator (s : State) : (transition s).evaluator = s.evaluator :=
  by unfold transition; (repeat' split) <;> simp
@[simp] theorem transition_command (s : State) : (transition s).command = s.command :=
  by unfold transition; (repeat' split) <;> simp
@[simp] theorem transition_pending (s : State) : (transition s).pending = s.pending :=
  by unfold transition; (repeat' split) <;> simp

@[simp] theorem warmupTests_resetHeld (s : State) : (warmupTests s).resetHeld = s.resetHeld :=
  by unfold warmupTests; (repeat' split) <;> simp
@[simp] theorem warmupTests_plp (s : State) : (warmupTests s).plp = s.plp :=
  by unfold warmupTests; (repeat' split) <;> simp
@[simp] theorem warmupTests_line (s : State) : (warmupTests s).line = s.line :=
  by unfold warmupTests; (repeat' split) <;> simp
@[simp] theorem warmupTests_lineParams (s : State) : (warmupTests s).lineParams = s.lineParams :=
  by unfold warmupTests; (repeat' split) <;> simp
@[simp] theorem warmupTests_nodes (s : State) : (warmupTests s).nodes = s.nodes :=
  by unfold warmupTests; (repeat' split) <;> simp
@[simp] theorem warmupTests_survey (s : State) : (warmupTests s).survey = s.survey :=
  by unfold warmupTests; (repeat' split) <;> simp
@[simp] theorem warmupTests_calibration (s : State) : (warmupTests s).calibration = s.calibration :=
  by unfold warmupTests; (repeat' split) <;> simp
@[simp] theorem warmupTests_evaluator (s : State) : (warmupTests s).evaluator = s.evaluator :=
  by unfold warmupTests; (repeat' split) <;> simp
@[simp] theorem warmupTests_climate (s : State) : (warmupTests s).climate = s.climate :=
  by unfold warmupTests; (repeat' split) <;> simp
@[simp] theorem warmupTests_outputs (s : State) : (warmupTests s).outputs = s.outputs :=
  by unfold warmupTests; (repeat' split) <;> simp
@[simp] theorem warmupTests_command (s : State) : (warmupTests s).command = s.command :=
  by unfold warmupTests; (repeat' split) <;> simp
@[simp] theorem warmupTests_pending (s : State) : (warmupTests s).pending = s.pending :=
  by unfold warmupTests; (repeat' split) <;> simp

@[simp] theorem runningTests_resetHeld (s : State) : (runningTests s).resetHeld = s.resetHeld :=
  by unfold runningTests; (repeat' split) <;> simp
@[simp] theorem runningTests_plp (s : State) : (runningTests s).plp = s.plp :=
  by unfold runningTests; (repeat' split) <;> simp
@[simp] theorem runningTests_line (s : State) : (runningTests s).line = s.line :=
  by unfold runningTests; (repeat' split) <;> simp
@[simp] theorem runningTests_lineParams (s : State) : (runningTests s).lineParams = s.lineParams :=
  by unfold runningTests; (repeat' split) <;> simp
@[simp] theorem runningTests_nodes (s : State) : (runningTests s).nodes = s.nodes :=
  by unfold runningTests; (repeat' split) <;> simp
@[simp] theorem runningTests_survey (s : State) : (runningTests s).survey = s.survey :=
  by unfold runningTests; (repeat' split) <;> simp
@[simp] theorem runningTests_calibration (s : State) : (runningTests s).calibration = s.calibration :=
  by unfold runningTests; (repeat' split) <;> simp
@[simp] theorem runningTests_evaluator (s : State) : (runningTests s).evaluator = s.evaluator :=
  by unfold runningTests; (repeat' split) <;> simp
@[simp] theorem runningTests_command (s : State) : (runningTests s).command = s.command :=
  by unfold runningTests; (repeat' split) <;> simp
@[simp] theorem runningTests_pending (s : State) : (runningTests s).pending = s.pending :=
  by unfold runningTests; (repeat' split) <;> simp

@[simp] theorem cooldownTest_resetHeld (s : State) : (cooldownTest s).resetHeld = s.resetHeld :=
  by unfold cooldownTest; (repeat' split) <;> simp
@[simp] theorem cooldownTest_plp (s : State) : (cooldownTest s).plp = s.plp :=
  by unfold cooldownTest; (repeat' split) <;> simp
@[simp] theorem cooldownTest_line (s : State) : (cooldownTest s).line = s.line :=
  by unfold cooldownTest; (repeat' split) <;> simp
@[simp] theorem cooldownTest_lineParams (s : State) : (cooldownTest s).lineParams = s.lineParams :=
  by unfold cooldownTest; (repeat' split) <;> simp
@[simp] theorem cooldownTest_nodes (s : State) : (cooldownTest s).nodes = s.nodes :=
  by unfold cooldownTest; (repeat' split) <;> simp
@[simp] theorem cooldownTest_survey (s : State) : (cooldownTest s).survey = s.survey :=
  by unfold cooldownTest; (repeat' split) <;> simp
@[simp] theorem cooldownTest_calibration (s : State) : (cooldownTest s).calibration = s.calibration :=
  by unfold cooldownTest; (repeat' split) <;> simp
@[simp] theorem cooldownTest_evaluator (s : State) : (cooldownTest s).evaluator = s.evaluator :=
  by unfold cooldownTest; (repeat' split) <;> simp
@[simp] theorem cooldownTest_command (s : State) : (cooldownTest s).command = s.command :=
  by unfold cooldownTest; (repeat' split) <;> simp
@[simp] theorem cooldownTest_pending (s : State) : (cooldownTest s).pending = s.pending :=
  by unfold cooldownTest; (repeat' split) <;> simp

@[simp] theorem scheduleMinute_resetHeld (s : State) : (scheduleMinute s).resetHeld = s.resetHeld :=
  by unfold scheduleMinute; (repeat' split) <;> simp
@[simp] theorem scheduleMinute_plp (s : State) : (scheduleMinute s).plp = s.plp :=
  by unfold scheduleMinute; (repeat' split) <;> simp
@[simp] theorem scheduleMinute_line (s : State) : (scheduleMinute s).line = s.line :=
  by unfold scheduleMinute; (repeat' split) <;> simp
@[simp] theorem scheduleMinute_lineParams (s : State) : (scheduleMinute s).lineParams = s.lineParams :=
  by unfold scheduleMinute; (repeat' split) <;> simp
@[simp] theorem scheduleMinute_nodes (s : State) : (scheduleMinute s).nodes = s.nodes :=
  by unfold scheduleMinute; (repeat' split) <;> simp
@[simp] theorem scheduleMinute_survey (s : State) : (scheduleMinute s).survey = s.survey :=
  by unfold scheduleMinute; (repeat' split) <;> simp
@[simp] theorem scheduleMinute_calibration (s : State) : (scheduleMinute s).calibration = s.calibration :=
  by unfold scheduleMinute; (repeat' split) <;> simp
@[simp] theorem scheduleMinute_evaluator (s : State) : (scheduleMinute s).evaluator = s.evaluator :=
  by unfold scheduleMinute; (repeat' split) <;> simp
@[simp] theorem scheduleMinute_command (s : State) : (scheduleMinute s).command = s.command :=
  by unfold scheduleMinute; (repeat' split) <;> simp
@[simp] theorem scheduleMinute_pending (s : State) : (scheduleMinute s).pending = s.pending :=
  by unfold scheduleMinute; (repeat' split) <;> simp

@[simp] theorem applyEvaluation_resetHeld (e : EvalRecord) (s : State) : (applyEvaluation e s).resetHeld = s.resetHeld :=
  by unfold applyEvaluation; simp
@[simp] theorem applyEvaluation_plp (e : EvalRecord) (s : State) : (applyEvaluation e s).plp = s.plp :=
  by unfold applyEvaluation; simp
@[simp] theorem applyEvaluation_line (e : EvalRecord) (s : State) : (applyEvaluation e s).line = s.line :=
  by unfold applyEvaluation; simp
@[simp] theorem applyEvaluation_lineParams (e : EvalRecord) (s : State) : (applyEvaluation e s).lineParams = s.lineParams :=
  by unfold applyEvaluation; simp
@[simp] theorem applyEvaluation_nodes (e : EvalRecord) (s : State) : (applyEvaluation e s).nodes = s.nodes :=
  by unfold applyEvaluation; simp
@[simp] theorem applyEvaluation_survey (e : EvalRecord) (s : State) : (applyEvaluation e s).survey = s.survey :=
  by unfold applyEvaluation; simp
@[simp] theorem applyEvaluation_calibration (e : EvalRecord) (s : State) : (applyEvaluation e s).calibration = s.calibration :=
  by unfold applyEvaluation; simp
@[simp] theorem applyEvaluation_evaluator (e : EvalRecord) (s : State) : (applyEvaluation e s).evaluator = s.evaluator :=
  by unfold applyEvaluation; simp
@[simp] theorem applyEvaluation_climate (e : EvalRecord) (s : State) : (applyEvaluation e s).climate = s.climate :=
  by unfold applyEvaluation; simp
@[simp] theorem applyEvaluation_outputs (e : EvalRecord) (s : State) : (applyEvaluation e s).outputs = s.outputs :=
  by unfold applyEvaluation; simp
@[simp] theorem applyEvaluation_command (e : EvalRecord) (s : State) : (applyEvaluation e s).command = s.command :=
  by unfold applyEvaluation; simp
@[simp] theorem applyEvaluation_pending (e : EvalRecord) (s : State) : (applyEvaluation e s).pending = s.pending :=
  by unfold applyEvaluation; simp

theorem offerReports_resetHeld (t : Byte) (bs : List (List Byte)) (s : State) :
    (bs.foldl (fun s b => offerReport t b s) s).resetHeld = s.resetHeld := by
  induction bs generalizing s with
  | nil => rfl
  | cons b bs ih => exact (ih (offerReport t b s)).trans (offerReport_resetHeld t b s)
@[simp] theorem reportEvaluation_resetHeld (c : Charge) (e : EvalRecord) (s : State) : (reportEvaluation c e s).resetHeld = s.resetHeld := by
  unfold reportEvaluation; split <;> simp [offerReports_resetHeld]
theorem offerReports_plp (t : Byte) (bs : List (List Byte)) (s : State) :
    (bs.foldl (fun s b => offerReport t b s) s).plp = s.plp := by
  induction bs generalizing s with
  | nil => rfl
  | cons b bs ih => exact (ih (offerReport t b s)).trans (offerReport_plp t b s)
@[simp] theorem reportEvaluation_plp (c : Charge) (e : EvalRecord) (s : State) : (reportEvaluation c e s).plp = s.plp := by
  unfold reportEvaluation; split <;> simp [offerReports_plp]
theorem offerReports_line (t : Byte) (bs : List (List Byte)) (s : State) :
    (bs.foldl (fun s b => offerReport t b s) s).line = s.line := by
  induction bs generalizing s with
  | nil => rfl
  | cons b bs ih => exact (ih (offerReport t b s)).trans (offerReport_line t b s)
@[simp] theorem reportEvaluation_line (c : Charge) (e : EvalRecord) (s : State) : (reportEvaluation c e s).line = s.line := by
  unfold reportEvaluation; split <;> simp [offerReports_line]
theorem offerReports_lineParams (t : Byte) (bs : List (List Byte)) (s : State) :
    (bs.foldl (fun s b => offerReport t b s) s).lineParams = s.lineParams := by
  induction bs generalizing s with
  | nil => rfl
  | cons b bs ih => exact (ih (offerReport t b s)).trans (offerReport_lineParams t b s)
@[simp] theorem reportEvaluation_lineParams (c : Charge) (e : EvalRecord) (s : State) : (reportEvaluation c e s).lineParams = s.lineParams := by
  unfold reportEvaluation; split <;> simp [offerReports_lineParams]
theorem offerReports_nodes (t : Byte) (bs : List (List Byte)) (s : State) :
    (bs.foldl (fun s b => offerReport t b s) s).nodes = s.nodes := by
  induction bs generalizing s with
  | nil => rfl
  | cons b bs ih => exact (ih (offerReport t b s)).trans (offerReport_nodes t b s)
@[simp] theorem reportEvaluation_nodes (c : Charge) (e : EvalRecord) (s : State) : (reportEvaluation c e s).nodes = s.nodes := by
  unfold reportEvaluation; split <;> simp [offerReports_nodes]
theorem offerReports_survey (t : Byte) (bs : List (List Byte)) (s : State) :
    (bs.foldl (fun s b => offerReport t b s) s).survey = s.survey := by
  induction bs generalizing s with
  | nil => rfl
  | cons b bs ih => exact (ih (offerReport t b s)).trans (offerReport_survey t b s)
@[simp] theorem reportEvaluation_survey (c : Charge) (e : EvalRecord) (s : State) : (reportEvaluation c e s).survey = s.survey := by
  unfold reportEvaluation; split <;> simp [offerReports_survey]
theorem offerReports_calibration (t : Byte) (bs : List (List Byte)) (s : State) :
    (bs.foldl (fun s b => offerReport t b s) s).calibration = s.calibration := by
  induction bs generalizing s with
  | nil => rfl
  | cons b bs ih => exact (ih (offerReport t b s)).trans (offerReport_calibration t b s)
@[simp] theorem reportEvaluation_calibration (c : Charge) (e : EvalRecord) (s : State) : (reportEvaluation c e s).calibration = s.calibration := by
  unfold reportEvaluation; split <;> simp [offerReports_calibration]
theorem offerReports_evaluator (t : Byte) (bs : List (List Byte)) (s : State) :
    (bs.foldl (fun s b => offerReport t b s) s).evaluator = s.evaluator := by
  induction bs generalizing s with
  | nil => rfl
  | cons b bs ih => exact (ih (offerReport t b s)).trans (offerReport_evaluator t b s)
@[simp] theorem reportEvaluation_evaluator (c : Charge) (e : EvalRecord) (s : State) : (reportEvaluation c e s).evaluator = s.evaluator := by
  unfold reportEvaluation; split <;> simp [offerReports_evaluator]
theorem offerReports_schedule (t : Byte) (bs : List (List Byte)) (s : State) :
    (bs.foldl (fun s b => offerReport t b s) s).schedule = s.schedule := by
  induction bs generalizing s with
  | nil => rfl
  | cons b bs ih => exact (ih (offerReport t b s)).trans (offerReport_schedule t b s)
@[simp] theorem reportEvaluation_schedule (c : Charge) (e : EvalRecord) (s : State) : (reportEvaluation c e s).schedule = s.schedule := by
  unfold reportEvaluation; split <;> simp [offerReports_schedule]
theorem offerReports_climate (t : Byte) (bs : List (List Byte)) (s : State) :
    (bs.foldl (fun s b => offerReport t b s) s).climate = s.climate := by
  induction bs generalizing s with
  | nil => rfl
  | cons b bs ih => exact (ih (offerReport t b s)).trans (offerReport_climate t b s)
@[simp] theorem reportEvaluation_climate (c : Charge) (e : EvalRecord) (s : State) : (reportEvaluation c e s).climate = s.climate := by
  unfold reportEvaluation; split <;> simp [offerReports_climate]
theorem offerReports_outputs (t : Byte) (bs : List (List Byte)) (s : State) :
    (bs.foldl (fun s b => offerReport t b s) s).outputs = s.outputs := by
  induction bs generalizing s with
  | nil => rfl
  | cons b bs ih => exact (ih (offerReport t b s)).trans (offerReport_outputs t b s)
@[simp] theorem reportEvaluation_outputs (c : Charge) (e : EvalRecord) (s : State) : (reportEvaluation c e s).outputs = s.outputs := by
  unfold reportEvaluation; split <;> simp [offerReports_outputs]
theorem offerReports_command (t : Byte) (bs : List (List Byte)) (s : State) :
    (bs.foldl (fun s b => offerReport t b s) s).command = s.command := by
  induction bs generalizing s with
  | nil => rfl
  | cons b bs ih => exact (ih (offerReport t b s)).trans (offerReport_command t b s)
@[simp] theorem reportEvaluation_command (c : Charge) (e : EvalRecord) (s : State) : (reportEvaluation c e s).command = s.command := by
  unfold reportEvaluation; split <;> simp [offerReports_command]
theorem offerReports_pending (t : Byte) (bs : List (List Byte)) (s : State) :
    (bs.foldl (fun s b => offerReport t b s) s).pending = s.pending := by
  induction bs generalizing s with
  | nil => rfl
  | cons b bs ih => exact (ih (offerReport t b s)).trans (offerReport_pending t b s)
@[simp] theorem reportEvaluation_pending (c : Charge) (e : EvalRecord) (s : State) : (reportEvaluation c e s).pending = s.pending := by
  unfold reportEvaluation; split <;> simp [offerReports_pending]

@[simp] theorem countStateReport_resetHeld (s : State) : (countStateReport s).resetHeld = s.resetHeld :=
  by unfold countStateReport; (repeat' split) <;> simp
@[simp] theorem countStateReport_plp (s : State) : (countStateReport s).plp = s.plp :=
  by unfold countStateReport; (repeat' split) <;> simp
@[simp] theorem countStateReport_line (s : State) : (countStateReport s).line = s.line :=
  by unfold countStateReport; (repeat' split) <;> simp
@[simp] theorem countStateReport_lineParams (s : State) : (countStateReport s).lineParams = s.lineParams :=
  by unfold countStateReport; (repeat' split) <;> simp
@[simp] theorem countStateReport_nodes (s : State) : (countStateReport s).nodes = s.nodes :=
  by unfold countStateReport; (repeat' split) <;> simp
@[simp] theorem countStateReport_survey (s : State) : (countStateReport s).survey = s.survey :=
  by unfold countStateReport; (repeat' split) <;> simp
@[simp] theorem countStateReport_calibration (s : State) : (countStateReport s).calibration = s.calibration :=
  by unfold countStateReport; (repeat' split) <;> simp
@[simp] theorem countStateReport_evaluator (s : State) : (countStateReport s).evaluator = s.evaluator :=
  by unfold countStateReport; (repeat' split) <;> simp
@[simp] theorem countStateReport_schedule (s : State) : (countStateReport s).schedule = s.schedule :=
  by unfold countStateReport; (repeat' split) <;> simp
@[simp] theorem countStateReport_climate (s : State) : (countStateReport s).climate = s.climate :=
  by unfold countStateReport; (repeat' split) <;> simp
@[simp] theorem countStateReport_outputs (s : State) : (countStateReport s).outputs = s.outputs :=
  by unfold countStateReport; (repeat' split) <;> simp
@[simp] theorem countStateReport_command (s : State) : (countStateReport s).command = s.command :=
  by unfold countStateReport; (repeat' split) <;> simp
@[simp] theorem countStateReport_pending (s : State) : (countStateReport s).pending = s.pending :=
  by unfold countStateReport; (repeat' split) <;> simp

@[simp] theorem passThrough_resetHeld (o : OutcomeRecord) (s : State) : (passThrough o s).resetHeld = s.resetHeld :=
  by unfold passThrough; (repeat' split) <;> simp
@[simp] theorem passThrough_plp (o : OutcomeRecord) (s : State) : (passThrough o s).plp = s.plp :=
  by unfold passThrough; (repeat' split) <;> simp
@[simp] theorem passThrough_line (o : OutcomeRecord) (s : State) : (passThrough o s).line = s.line :=
  by unfold passThrough; (repeat' split) <;> simp
@[simp] theorem passThrough_lineParams (o : OutcomeRecord) (s : State) : (passThrough o s).lineParams = s.lineParams :=
  by unfold passThrough; (repeat' split) <;> simp
@[simp] theorem passThrough_nodes (o : OutcomeRecord) (s : State) : (passThrough o s).nodes = s.nodes :=
  by unfold passThrough; (repeat' split) <;> simp
@[simp] theorem passThrough_survey (o : OutcomeRecord) (s : State) : (passThrough o s).survey = s.survey :=
  by unfold passThrough; (repeat' split) <;> simp
@[simp] theorem passThrough_calibration (o : OutcomeRecord) (s : State) : (passThrough o s).calibration = s.calibration :=
  by unfold passThrough; (repeat' split) <;> simp
@[simp] theorem passThrough_evaluator (o : OutcomeRecord) (s : State) : (passThrough o s).evaluator = s.evaluator :=
  by unfold passThrough; (repeat' split) <;> simp
@[simp] theorem passThrough_schedule (o : OutcomeRecord) (s : State) : (passThrough o s).schedule = s.schedule :=
  by unfold passThrough; (repeat' split) <;> simp
@[simp] theorem passThrough_climate (o : OutcomeRecord) (s : State) : (passThrough o s).climate = s.climate :=
  by unfold passThrough; (repeat' split) <;> simp
@[simp] theorem passThrough_outputs (o : OutcomeRecord) (s : State) : (passThrough o s).outputs = s.outputs :=
  by unfold passThrough; (repeat' split) <;> simp
@[simp] theorem passThrough_command (o : OutcomeRecord) (s : State) : (passThrough o s).command = s.command :=
  by unfold passThrough; (repeat' split) <;> simp
@[simp] theorem passThrough_pending (o : OutcomeRecord) (s : State) : (passThrough o s).pending = s.pending :=
  by unfold passThrough; (repeat' split) <;> simp

@[simp] theorem runEvaluation_resetHeld (n : Nat) (s : State) : (runEvaluation n s).resetHeld = s.resetHeld :=
  by unfold runEvaluation; simp
@[simp] theorem runEvaluation_plp (n : Nat) (s : State) : (runEvaluation n s).plp = s.plp :=
  by unfold runEvaluation; simp
@[simp] theorem runEvaluation_line (n : Nat) (s : State) : (runEvaluation n s).line = s.line :=
  by unfold runEvaluation; simp
@[simp] theorem runEvaluation_lineParams (n : Nat) (s : State) : (runEvaluation n s).lineParams = s.lineParams :=
  by unfold runEvaluation; simp
@[simp] theorem runEvaluation_survey (n : Nat) (s : State) : (runEvaluation n s).survey = s.survey :=
  by unfold runEvaluation; simp
@[simp] theorem runEvaluation_calibration (n : Nat) (s : State) : (runEvaluation n s).calibration = s.calibration :=
  by unfold runEvaluation; simp
@[simp] theorem runEvaluation_climate (n : Nat) (s : State) : (runEvaluation n s).climate = s.climate :=
  by unfold runEvaluation; simp
@[simp] theorem runEvaluation_outputs (n : Nat) (s : State) : (runEvaluation n s).outputs = s.outputs :=
  by unfold runEvaluation; simp
@[simp] theorem runEvaluation_command (n : Nat) (s : State) : (runEvaluation n s).command = s.command :=
  by unfold runEvaluation; simp
@[simp] theorem runEvaluation_pending (n : Nat) (s : State) : (runEvaluation n s).pending = s.pending :=
  by unfold runEvaluation; simp

@[simp] theorem ownerProbe_resetHeld (i : Nat) (o : OutcomeRecord) (s : State) : (ownerProbe i o s).resetHeld = s.resetHeld :=
  by unfold ownerProbe; (repeat' split) <;> simp
@[simp] theorem ownerProbe_plp (i : Nat) (o : OutcomeRecord) (s : State) : (ownerProbe i o s).plp = s.plp :=
  by unfold ownerProbe; (repeat' split) <;> simp
@[simp] theorem ownerProbe_line (i : Nat) (o : OutcomeRecord) (s : State) : (ownerProbe i o s).line = s.line :=
  by unfold ownerProbe; (repeat' split) <;> simp
@[simp] theorem ownerProbe_lineParams (i : Nat) (o : OutcomeRecord) (s : State) : (ownerProbe i o s).lineParams = s.lineParams :=
  by unfold ownerProbe; (repeat' split) <;> simp
@[simp] theorem ownerProbe_survey (i : Nat) (o : OutcomeRecord) (s : State) : (ownerProbe i o s).survey = s.survey :=
  by unfold ownerProbe; (repeat' split) <;> simp
@[simp] theorem ownerProbe_calibration (i : Nat) (o : OutcomeRecord) (s : State) : (ownerProbe i o s).calibration = s.calibration :=
  by unfold ownerProbe; (repeat' split) <;> simp
@[simp] theorem ownerProbe_evaluator (i : Nat) (o : OutcomeRecord) (s : State) : (ownerProbe i o s).evaluator = s.evaluator :=
  by unfold ownerProbe; (repeat' split) <;> simp
@[simp] theorem ownerProbe_schedule (i : Nat) (o : OutcomeRecord) (s : State) : (ownerProbe i o s).schedule = s.schedule :=
  by unfold ownerProbe; (repeat' split) <;> simp
@[simp] theorem ownerProbe_climate (i : Nat) (o : OutcomeRecord) (s : State) : (ownerProbe i o s).climate = s.climate :=
  by unfold ownerProbe; (repeat' split) <;> simp
@[simp] theorem ownerProbe_outputs (i : Nat) (o : OutcomeRecord) (s : State) : (ownerProbe i o s).outputs = s.outputs :=
  by unfold ownerProbe; (repeat' split) <;> simp
@[simp] theorem ownerProbe_command (i : Nat) (o : OutcomeRecord) (s : State) : (ownerProbe i o s).command = s.command :=
  by unfold ownerProbe; (repeat' split) <;> simp
@[simp] theorem ownerProbe_pending (i : Nat) (o : OutcomeRecord) (s : State) : (ownerProbe i o s).pending = s.pending :=
  by unfold ownerProbe; (repeat' split) <;> simp

@[simp] theorem ownerAir_resetHeld (i : Nat) (o : OutcomeRecord) (s : State) : (ownerAir i o s).resetHeld = s.resetHeld :=
  by unfold ownerAir; (repeat' split) <;> simp
@[simp] theorem ownerAir_plp (i : Nat) (o : OutcomeRecord) (s : State) : (ownerAir i o s).plp = s.plp :=
  by unfold ownerAir; (repeat' split) <;> simp
@[simp] theorem ownerAir_line (i : Nat) (o : OutcomeRecord) (s : State) : (ownerAir i o s).line = s.line :=
  by unfold ownerAir; (repeat' split) <;> simp
@[simp] theorem ownerAir_lineParams (i : Nat) (o : OutcomeRecord) (s : State) : (ownerAir i o s).lineParams = s.lineParams :=
  by unfold ownerAir; (repeat' split) <;> simp
@[simp] theorem ownerAir_survey (i : Nat) (o : OutcomeRecord) (s : State) : (ownerAir i o s).survey = s.survey :=
  by unfold ownerAir; (repeat' split) <;> simp
@[simp] theorem ownerAir_calibration (i : Nat) (o : OutcomeRecord) (s : State) : (ownerAir i o s).calibration = s.calibration :=
  by unfold ownerAir; (repeat' split) <;> simp
@[simp] theorem ownerAir_evaluator (i : Nat) (o : OutcomeRecord) (s : State) : (ownerAir i o s).evaluator = s.evaluator :=
  by unfold ownerAir; (repeat' split) <;> simp
@[simp] theorem ownerAir_schedule (i : Nat) (o : OutcomeRecord) (s : State) : (ownerAir i o s).schedule = s.schedule :=
  by unfold ownerAir; (repeat' split) <;> simp
@[simp] theorem ownerAir_climate (i : Nat) (o : OutcomeRecord) (s : State) : (ownerAir i o s).climate = s.climate :=
  by unfold ownerAir; (repeat' split) <;> simp
@[simp] theorem ownerAir_outputs (i : Nat) (o : OutcomeRecord) (s : State) : (ownerAir i o s).outputs = s.outputs :=
  by unfold ownerAir; (repeat' split) <;> simp
@[simp] theorem ownerAir_command (i : Nat) (o : OutcomeRecord) (s : State) : (ownerAir i o s).command = s.command :=
  by unfold ownerAir; (repeat' split) <;> simp
@[simp] theorem ownerAir_pending (i : Nat) (o : OutcomeRecord) (s : State) : (ownerAir i o s).pending = s.pending :=
  by unfold ownerAir; (repeat' split) <;> simp

@[simp] theorem monitor_resetHeld (o : LineOutcome) (s : State) : (monitor o s).resetHeld = s.resetHeld :=
  by unfold monitor; simp
@[simp] theorem monitor_plp (o : LineOutcome) (s : State) : (monitor o s).plp = s.plp :=
  by unfold monitor; simp
@[simp] theorem monitor_line (o : LineOutcome) (s : State) : (monitor o s).line = s.line :=
  by unfold monitor; simp
@[simp] theorem monitor_lineParams (o : LineOutcome) (s : State) : (monitor o s).lineParams = s.lineParams :=
  by unfold monitor; simp
@[simp] theorem monitor_calibration (o : LineOutcome) (s : State) : (monitor o s).calibration = s.calibration :=
  by unfold monitor; simp
@[simp] theorem monitor_evaluator (o : LineOutcome) (s : State) : (monitor o s).evaluator = s.evaluator :=
  by unfold monitor; simp
@[simp] theorem monitor_schedule (o : LineOutcome) (s : State) : (monitor o s).schedule = s.schedule :=
  by unfold monitor; simp
@[simp] theorem monitor_climate (o : LineOutcome) (s : State) : (monitor o s).climate = s.climate :=
  by unfold monitor; simp
@[simp] theorem monitor_outputs (o : LineOutcome) (s : State) : (monitor o s).outputs = s.outputs :=
  by unfold monitor; simp
@[simp] theorem monitor_command (o : LineOutcome) (s : State) : (monitor o s).command = s.command :=
  by unfold monitor; simp
@[simp] theorem monitor_pending (o : LineOutcome) (s : State) : (monitor o s).pending = s.pending :=
  by unfold monitor; simp

@[simp] theorem completeSurvey_resetHeld (s : State) : (completeSurvey s).resetHeld = s.resetHeld :=
  by unfold completeSurvey; simp
@[simp] theorem completeSurvey_plp (s : State) : (completeSurvey s).plp = s.plp :=
  by unfold completeSurvey; simp
@[simp] theorem completeSurvey_line (s : State) : (completeSurvey s).line = s.line :=
  by unfold completeSurvey; simp
@[simp] theorem completeSurvey_lineParams (s : State) : (completeSurvey s).lineParams = s.lineParams :=
  by unfold completeSurvey; simp
@[simp] theorem completeSurvey_nodes (s : State) : (completeSurvey s).nodes = s.nodes :=
  by unfold completeSurvey; simp
@[simp] theorem completeSurvey_calibration (s : State) : (completeSurvey s).calibration = s.calibration :=
  by unfold completeSurvey; simp
@[simp] theorem completeSurvey_evaluator (s : State) : (completeSurvey s).evaluator = s.evaluator :=
  by unfold completeSurvey; simp
@[simp] theorem completeSurvey_schedule (s : State) : (completeSurvey s).schedule = s.schedule :=
  by unfold completeSurvey; simp
@[simp] theorem completeSurvey_climate (s : State) : (completeSurvey s).climate = s.climate :=
  by unfold completeSurvey; simp
@[simp] theorem completeSurvey_outputs (s : State) : (completeSurvey s).outputs = s.outputs :=
  by unfold completeSurvey; simp
@[simp] theorem completeSurvey_command (s : State) : (completeSurvey s).command = s.command :=
  by unfold completeSurvey; simp
@[simp] theorem completeSurvey_pending (s : State) : (completeSurvey s).pending = s.pending :=
  by unfold completeSurvey; simp

@[simp] theorem ownerSurvey_resetHeld (a : Nat) (o : OutcomeRecord) (s : State) : (ownerSurvey a o s).resetHeld = s.resetHeld :=
  by unfold ownerSurvey; (repeat' split) <;> simp
@[simp] theorem ownerSurvey_plp (a : Nat) (o : OutcomeRecord) (s : State) : (ownerSurvey a o s).plp = s.plp :=
  by unfold ownerSurvey; (repeat' split) <;> simp
@[simp] theorem ownerSurvey_line (a : Nat) (o : OutcomeRecord) (s : State) : (ownerSurvey a o s).line = s.line :=
  by unfold ownerSurvey; (repeat' split) <;> simp
@[simp] theorem ownerSurvey_lineParams (a : Nat) (o : OutcomeRecord) (s : State) : (ownerSurvey a o s).lineParams = s.lineParams :=
  by unfold ownerSurvey; (repeat' split) <;> simp
@[simp] theorem ownerSurvey_nodes (a : Nat) (o : OutcomeRecord) (s : State) : (ownerSurvey a o s).nodes = s.nodes :=
  by unfold ownerSurvey; (repeat' split) <;> simp
@[simp] theorem ownerSurvey_calibration (a : Nat) (o : OutcomeRecord) (s : State) : (ownerSurvey a o s).calibration = s.calibration :=
  by unfold ownerSurvey; (repeat' split) <;> simp
@[simp] theorem ownerSurvey_evaluator (a : Nat) (o : OutcomeRecord) (s : State) : (ownerSurvey a o s).evaluator = s.evaluator :=
  by unfold ownerSurvey; (repeat' split) <;> simp
@[simp] theorem ownerSurvey_schedule (a : Nat) (o : OutcomeRecord) (s : State) : (ownerSurvey a o s).schedule = s.schedule :=
  by unfold ownerSurvey; (repeat' split) <;> simp
@[simp] theorem ownerSurvey_climate (a : Nat) (o : OutcomeRecord) (s : State) : (ownerSurvey a o s).climate = s.climate :=
  by unfold ownerSurvey; (repeat' split) <;> simp
@[simp] theorem ownerSurvey_outputs (a : Nat) (o : OutcomeRecord) (s : State) : (ownerSurvey a o s).outputs = s.outputs :=
  by unfold ownerSurvey; (repeat' split) <;> simp
@[simp] theorem ownerSurvey_command (a : Nat) (o : OutcomeRecord) (s : State) : (ownerSurvey a o s).command = s.command :=
  by unfold ownerSurvey; (repeat' split) <;> simp
@[simp] theorem ownerSurvey_pending (a : Nat) (o : OutcomeRecord) (s : State) : (ownerSurvey a o s).pending = s.pending :=
  by unfold ownerSurvey; (repeat' split) <;> simp

@[simp] theorem ownerActuator_resetHeld (i : Nat) (o : OutcomeRecord) (s : State) : (ownerActuator i o s).resetHeld = s.resetHeld :=
  by unfold ownerActuator; (repeat' split) <;> simp
@[simp] theorem ownerActuator_plp (i : Nat) (o : OutcomeRecord) (s : State) : (ownerActuator i o s).plp = s.plp :=
  by unfold ownerActuator; (repeat' split) <;> simp
@[simp] theorem ownerActuator_line (i : Nat) (o : OutcomeRecord) (s : State) : (ownerActuator i o s).line = s.line :=
  by unfold ownerActuator; (repeat' split) <;> simp
@[simp] theorem ownerActuator_lineParams (i : Nat) (o : OutcomeRecord) (s : State) : (ownerActuator i o s).lineParams = s.lineParams :=
  by unfold ownerActuator; (repeat' split) <;> simp
@[simp] theorem ownerActuator_nodes (i : Nat) (o : OutcomeRecord) (s : State) : (ownerActuator i o s).nodes = s.nodes :=
  by unfold ownerActuator; (repeat' split) <;> simp
@[simp] theorem ownerActuator_survey (i : Nat) (o : OutcomeRecord) (s : State) : (ownerActuator i o s).survey = s.survey :=
  by unfold ownerActuator; (repeat' split) <;> simp
@[simp] theorem ownerActuator_calibration (i : Nat) (o : OutcomeRecord) (s : State) : (ownerActuator i o s).calibration = s.calibration :=
  by unfold ownerActuator; (repeat' split) <;> simp
@[simp] theorem ownerActuator_evaluator (i : Nat) (o : OutcomeRecord) (s : State) : (ownerActuator i o s).evaluator = s.evaluator :=
  by unfold ownerActuator; (repeat' split) <;> simp
@[simp] theorem ownerActuator_schedule (i : Nat) (o : OutcomeRecord) (s : State) : (ownerActuator i o s).schedule = s.schedule :=
  by unfold ownerActuator; (repeat' split) <;> simp
@[simp] theorem ownerActuator_climate (i : Nat) (o : OutcomeRecord) (s : State) : (ownerActuator i o s).climate = s.climate :=
  by unfold ownerActuator; (repeat' split) <;> simp
@[simp] theorem ownerActuator_command (i : Nat) (o : OutcomeRecord) (s : State) : (ownerActuator i o s).command = s.command :=
  by unfold ownerActuator; (repeat' split) <;> simp
@[simp] theorem ownerActuator_pending (i : Nat) (o : OutcomeRecord) (s : State) : (ownerActuator i o s).pending = s.pending :=
  by unfold ownerActuator; (repeat' split) <;> simp

@[simp] theorem completeSweep_resetHeld (s : State) : (completeSweep s).resetHeld = s.resetHeld :=
  by unfold completeSweep; simp
@[simp] theorem completeSweep_plp (s : State) : (completeSweep s).plp = s.plp := by unfold completeSweep; simp
@[simp] theorem completeSweep_lineParams (s : State) : (completeSweep s).lineParams = s.lineParams :=
  by unfold completeSweep; simp
@[simp] theorem completeSweep_survey (s : State) : (completeSweep s).survey = s.survey :=
  by unfold completeSweep; simp
@[simp] theorem completeSweep_calibration (s : State) : (completeSweep s).calibration = s.calibration :=
  by unfold completeSweep; simp
@[simp] theorem completeSweep_climate (s : State) : (completeSweep s).climate = s.climate :=
  by unfold completeSweep; simp
@[simp] theorem completeSweep_outputs (s : State) : (completeSweep s).outputs = s.outputs :=
  by unfold completeSweep; simp
@[simp] theorem completeSweep_command (s : State) : (completeSweep s).command = s.command :=
  by unfold completeSweep; simp
@[simp] theorem completeSweep_pending (s : State) : (completeSweep s).pending = s.pending :=
  by unfold completeSweep; simp

@[simp] theorem startSweep_resetHeld (s : State) : (startSweep s).resetHeld = s.resetHeld :=
  by unfold startSweep; dsimp only; (repeat' split) <;> simp
@[simp] theorem startSweep_plp (s : State) : (startSweep s).plp = s.plp :=
  by unfold startSweep; dsimp only; (repeat' split) <;> simp
@[simp] theorem startSweep_lineParams (s : State) : (startSweep s).lineParams = s.lineParams :=
  by unfold startSweep; dsimp only; (repeat' split) <;> simp
@[simp] theorem startSweep_survey (s : State) : (startSweep s).survey = s.survey :=
  by unfold startSweep; dsimp only; (repeat' split) <;> simp
@[simp] theorem startSweep_calibration (s : State) : (startSweep s).calibration = s.calibration :=
  by unfold startSweep; dsimp only; (repeat' split) <;> simp
@[simp] theorem startSweep_climate (s : State) : (startSweep s).climate = s.climate :=
  by unfold startSweep; dsimp only; (repeat' split) <;> simp
@[simp] theorem startSweep_outputs (s : State) : (startSweep s).outputs = s.outputs :=
  by unfold startSweep; dsimp only; (repeat' split) <;> simp
@[simp] theorem startSweep_command (s : State) : (startSweep s).command = s.command :=
  by unfold startSweep; dsimp only; (repeat' split) <;> simp
@[simp] theorem startSweep_pending (s : State) : (startSweep s).pending = s.pending :=
  by unfold startSweep; dsimp only; (repeat' split) <;> simp

@[simp] theorem testSweep_resetHeld (s : State) : (testSweep s).resetHeld = s.resetHeld :=
  by unfold testSweep; dsimp only; (repeat' split) <;> simp
@[simp] theorem testSweep_plp (s : State) : (testSweep s).plp = s.plp :=
  by unfold testSweep; dsimp only; (repeat' split) <;> simp
@[simp] theorem testSweep_lineParams (s : State) : (testSweep s).lineParams = s.lineParams :=
  by unfold testSweep; dsimp only; (repeat' split) <;> simp
@[simp] theorem testSweep_survey (s : State) : (testSweep s).survey = s.survey :=
  by unfold testSweep; dsimp only; (repeat' split) <;> simp
@[simp] theorem testSweep_calibration (s : State) : (testSweep s).calibration = s.calibration :=
  by unfold testSweep; dsimp only; (repeat' split) <;> simp
@[simp] theorem testSweep_climate (s : State) : (testSweep s).climate = s.climate :=
  by unfold testSweep; dsimp only; (repeat' split) <;> simp
@[simp] theorem testSweep_outputs (s : State) : (testSweep s).outputs = s.outputs :=
  by unfold testSweep; dsimp only; (repeat' split) <;> simp
@[simp] theorem testSweep_command (s : State) : (testSweep s).command = s.command :=
  by unfold testSweep; dsimp only; (repeat' split) <;> simp
@[simp] theorem testSweep_pending (s : State) : (testSweep s).pending = s.pending :=
  by unfold testSweep; dsimp only; (repeat' split) <;> simp

@[simp] theorem sweepExpiry_resetHeld (s : State) : (sweepExpiry s).resetHeld = s.resetHeld :=
  by unfold sweepExpiry; dsimp only; (repeat' split) <;> simp
@[simp] theorem sweepExpiry_plp (s : State) : (sweepExpiry s).plp = s.plp :=
  by unfold sweepExpiry; dsimp only; (repeat' split) <;> simp
@[simp] theorem sweepExpiry_lineParams (s : State) : (sweepExpiry s).lineParams = s.lineParams :=
  by unfold sweepExpiry; dsimp only; (repeat' split) <;> simp
@[simp] theorem sweepExpiry_survey (s : State) : (sweepExpiry s).survey = s.survey :=
  by unfold sweepExpiry; dsimp only; (repeat' split) <;> simp
@[simp] theorem sweepExpiry_calibration (s : State) : (sweepExpiry s).calibration = s.calibration :=
  by unfold sweepExpiry; dsimp only; (repeat' split) <;> simp
@[simp] theorem sweepExpiry_climate (s : State) : (sweepExpiry s).climate = s.climate :=
  by unfold sweepExpiry; dsimp only; (repeat' split) <;> simp
@[simp] theorem sweepExpiry_outputs (s : State) : (sweepExpiry s).outputs = s.outputs :=
  by unfold sweepExpiry; dsimp only; (repeat' split) <;> simp
@[simp] theorem sweepExpiry_command (s : State) : (sweepExpiry s).command = s.command :=
  by unfold sweepExpiry; dsimp only; (repeat' split) <;> simp
@[simp] theorem sweepExpiry_pending (s : State) : (sweepExpiry s).pending = s.pending :=
  by unfold sweepExpiry; dsimp only; (repeat' split) <;> simp

@[simp] theorem select_resetHeld (s : State) : (select s).resetHeld = s.resetHeld :=
  by unfold select; dsimp only; (repeat' split) <;> simp
@[simp] theorem select_lineParams (s : State) : (select s).lineParams = s.lineParams :=
  by unfold select; dsimp only; (repeat' split) <;> simp
@[simp] theorem select_calibration (s : State) : (select s).calibration = s.calibration :=
  by unfold select; dsimp only; (repeat' split) <;> simp
@[simp] theorem select_climate (s : State) : (select s).climate = s.climate :=
  by unfold select; dsimp only; (repeat' split) <;> simp
@[simp] theorem select_command (s : State) : (select s).command = s.command :=
  by unfold select; dsimp only; (repeat' split) <;> simp
@[simp] theorem select_pending (s : State) : (select s).pending = s.pending :=
  by unfold select; dsimp only; (repeat' split) <;> simp

@[simp] theorem creditSet_resetHeld (i : Nat) (o : LineOutcome) (s : State) : (creditSet i o s).resetHeld = s.resetHeld :=
  by unfold creditSet; (repeat' split) <;> simp
@[simp] theorem creditSet_plp (i : Nat) (o : LineOutcome) (s : State) : (creditSet i o s).plp = s.plp :=
  by unfold creditSet; (repeat' split) <;> simp
@[simp] theorem creditSet_lineParams (i : Nat) (o : LineOutcome) (s : State) : (creditSet i o s).lineParams = s.lineParams :=
  by unfold creditSet; (repeat' split) <;> simp
@[simp] theorem creditSet_nodes (i : Nat) (o : LineOutcome) (s : State) : (creditSet i o s).nodes = s.nodes :=
  by unfold creditSet; (repeat' split) <;> simp
@[simp] theorem creditSet_survey (i : Nat) (o : LineOutcome) (s : State) : (creditSet i o s).survey = s.survey :=
  by unfold creditSet; (repeat' split) <;> simp
@[simp] theorem creditSet_calibration (i : Nat) (o : LineOutcome) (s : State) : (creditSet i o s).calibration = s.calibration :=
  by unfold creditSet; (repeat' split) <;> simp
@[simp] theorem creditSet_evaluator (i : Nat) (o : LineOutcome) (s : State) : (creditSet i o s).evaluator = s.evaluator :=
  by unfold creditSet; (repeat' split) <;> simp
@[simp] theorem creditSet_schedule (i : Nat) (o : LineOutcome) (s : State) : (creditSet i o s).schedule = s.schedule :=
  by unfold creditSet; (repeat' split) <;> simp
@[simp] theorem creditSet_climate (i : Nat) (o : LineOutcome) (s : State) : (creditSet i o s).climate = s.climate :=
  by unfold creditSet; (repeat' split) <;> simp
@[simp] theorem creditSet_loop (i : Nat) (o : LineOutcome) (s : State) : (creditSet i o s).loop = s.loop :=
  by unfold creditSet; (repeat' split) <;> simp
@[simp] theorem creditSet_command (i : Nat) (o : LineOutcome) (s : State) : (creditSet i o s).command = s.command :=
  by unfold creditSet; (repeat' split) <;> simp
@[simp] theorem creditSet_events (i : Nat) (o : LineOutcome) (s : State) : (creditSet i o s).events = s.events :=
  by unfold creditSet; (repeat' split) <;> simp
@[simp] theorem creditSet_pending (i : Nat) (o : LineOutcome) (s : State) : (creditSet i o s).pending = s.pending :=
  by unfold creditSet; (repeat' split) <;> simp

@[simp] theorem deliverToOwner_resetHeld (o : OutcomeRecord) (s : State) : (deliverToOwner o s).resetHeld = s.resetHeld :=
  by unfold deliverToOwner; (repeat' split) <;> simp
@[simp] theorem deliverToOwner_plp (o : OutcomeRecord) (s : State) : (deliverToOwner o s).plp = s.plp :=
  by unfold deliverToOwner; (repeat' split) <;> simp
@[simp] theorem deliverToOwner_line (o : OutcomeRecord) (s : State) : (deliverToOwner o s).line = s.line :=
  by unfold deliverToOwner; (repeat' split) <;> simp
@[simp] theorem deliverToOwner_lineParams (o : OutcomeRecord) (s : State) : (deliverToOwner o s).lineParams = s.lineParams :=
  by unfold deliverToOwner; (repeat' split) <;> simp
@[simp] theorem deliverToOwner_calibration (o : OutcomeRecord) (s : State) : (deliverToOwner o s).calibration = s.calibration :=
  by unfold deliverToOwner; (repeat' split) <;> simp
@[simp] theorem deliverToOwner_evaluator (o : OutcomeRecord) (s : State) : (deliverToOwner o s).evaluator = s.evaluator :=
  by unfold deliverToOwner; (repeat' split) <;> simp
@[simp] theorem deliverToOwner_schedule (o : OutcomeRecord) (s : State) : (deliverToOwner o s).schedule = s.schedule :=
  by unfold deliverToOwner; (repeat' split) <;> simp
@[simp] theorem deliverToOwner_climate (o : OutcomeRecord) (s : State) : (deliverToOwner o s).climate = s.climate :=
  by unfold deliverToOwner; (repeat' split) <;> simp
@[simp] theorem deliverToOwner_command (o : OutcomeRecord) (s : State) : (deliverToOwner o s).command = s.command :=
  by unfold deliverToOwner; (repeat' split) <;> simp
@[simp] theorem deliverToOwner_pending (o : OutcomeRecord) (s : State) : (deliverToOwner o s).pending = s.pending :=
  by unfold deliverToOwner; (repeat' split) <;> simp

@[simp] theorem arbiterTake_resetHeld (b : NodeTables) (o : OutcomeRecord) (s : State) : (arbiterTake b o s).resetHeld = s.resetHeld :=
  by unfold arbiterTake; (repeat' split) <;> simp
@[simp] theorem arbiterTake_plp (b : NodeTables) (o : OutcomeRecord) (s : State) : (arbiterTake b o s).plp = s.plp :=
  by unfold arbiterTake; (repeat' split) <;> simp
@[simp] theorem arbiterTake_lineParams (b : NodeTables) (o : OutcomeRecord) (s : State) : (arbiterTake b o s).lineParams = s.lineParams :=
  by unfold arbiterTake; (repeat' split) <;> simp
@[simp] theorem arbiterTake_survey (b : NodeTables) (o : OutcomeRecord) (s : State) : (arbiterTake b o s).survey = s.survey :=
  by unfold arbiterTake; (repeat' split) <;> simp
@[simp] theorem arbiterTake_calibration (b : NodeTables) (o : OutcomeRecord) (s : State) : (arbiterTake b o s).calibration = s.calibration :=
  by unfold arbiterTake; (repeat' split) <;> simp
@[simp] theorem arbiterTake_climate (b : NodeTables) (o : OutcomeRecord) (s : State) : (arbiterTake b o s).climate = s.climate :=
  by unfold arbiterTake; (repeat' split) <;> simp
@[simp] theorem arbiterTake_command (b : NodeTables) (o : OutcomeRecord) (s : State) : (arbiterTake b o s).command = s.command :=
  by unfold arbiterTake; (repeat' split) <;> simp
@[simp] theorem arbiterTake_pending (b : NodeTables) (o : OutcomeRecord) (s : State) : (arbiterTake b o s).pending = s.pending :=
  by unfold arbiterTake; (repeat' split) <;> simp

@[simp] theorem deliver_resetHeld (o : OutcomeRecord) (s : State) : (deliver o s).resetHeld = s.resetHeld :=
  by unfold deliver; simp
@[simp] theorem deliver_lineParams (o : OutcomeRecord) (s : State) : (deliver o s).lineParams = s.lineParams :=
  by unfold deliver; simp
@[simp] theorem deliver_calibration (o : OutcomeRecord) (s : State) : (deliver o s).calibration = s.calibration :=
  by unfold deliver; simp
@[simp] theorem deliver_climate (o : OutcomeRecord) (s : State) : (deliver o s).climate = s.climate :=
  by unfold deliver; simp
@[simp] theorem deliver_command (o : OutcomeRecord) (s : State) : (deliver o s).command = s.command :=
  by unfold deliver; simp
@[simp] theorem deliver_pending (o : OutcomeRecord) (s : State) : (deliver o s).pending = s.pending :=
  by unfold deliver; simp

@[simp] theorem refreshExpiry_resetHeld (i : Nat) (s : State) : (refreshExpiry i s).resetHeld = s.resetHeld :=
  by unfold refreshExpiry; (repeat' split) <;> simp
@[simp] theorem refreshExpiry_plp (i : Nat) (s : State) : (refreshExpiry i s).plp = s.plp :=
  by unfold refreshExpiry; (repeat' split) <;> simp
@[simp] theorem refreshExpiry_lineParams (i : Nat) (s : State) : (refreshExpiry i s).lineParams = s.lineParams :=
  by unfold refreshExpiry; (repeat' split) <;> simp
@[simp] theorem refreshExpiry_nodes (i : Nat) (s : State) : (refreshExpiry i s).nodes = s.nodes :=
  by unfold refreshExpiry; (repeat' split) <;> simp
@[simp] theorem refreshExpiry_survey (i : Nat) (s : State) : (refreshExpiry i s).survey = s.survey :=
  by unfold refreshExpiry; (repeat' split) <;> simp
@[simp] theorem refreshExpiry_calibration (i : Nat) (s : State) : (refreshExpiry i s).calibration = s.calibration :=
  by unfold refreshExpiry; (repeat' split) <;> simp
@[simp] theorem refreshExpiry_evaluator (i : Nat) (s : State) : (refreshExpiry i s).evaluator = s.evaluator :=
  by unfold refreshExpiry; (repeat' split) <;> simp
@[simp] theorem refreshExpiry_schedule (i : Nat) (s : State) : (refreshExpiry i s).schedule = s.schedule :=
  by unfold refreshExpiry; (repeat' split) <;> simp
@[simp] theorem refreshExpiry_climate (i : Nat) (s : State) : (refreshExpiry i s).climate = s.climate :=
  by unfold refreshExpiry; (repeat' split) <;> simp
@[simp] theorem refreshExpiry_command (i : Nat) (s : State) : (refreshExpiry i s).command = s.command :=
  by unfold refreshExpiry; (repeat' split) <;> simp
@[simp] theorem refreshExpiry_pending (i : Nat) (s : State) : (refreshExpiry i s).pending = s.pending :=
  by unfold refreshExpiry; (repeat' split) <;> simp

@[simp] theorem climateCycle_resetHeld (s : State) : (climateCycle s).resetHeld = s.resetHeld :=
  by unfold climateCycle; (repeat' split) <;> simp
@[simp] theorem climateCycle_plp (s : State) : (climateCycle s).plp = s.plp :=
  by unfold climateCycle; (repeat' split) <;> simp
@[simp] theorem climateCycle_line (s : State) : (climateCycle s).line = s.line :=
  by unfold climateCycle; (repeat' split) <;> simp
@[simp] theorem climateCycle_lineParams (s : State) : (climateCycle s).lineParams = s.lineParams :=
  by unfold climateCycle; (repeat' split) <;> simp
@[simp] theorem climateCycle_nodes (s : State) : (climateCycle s).nodes = s.nodes :=
  by unfold climateCycle; (repeat' split) <;> simp
@[simp] theorem climateCycle_survey (s : State) : (climateCycle s).survey = s.survey :=
  by unfold climateCycle; (repeat' split) <;> simp
@[simp] theorem climateCycle_calibration (s : State) : (climateCycle s).calibration = s.calibration :=
  by unfold climateCycle; (repeat' split) <;> simp
@[simp] theorem climateCycle_evaluator (s : State) : (climateCycle s).evaluator = s.evaluator :=
  by unfold climateCycle; (repeat' split) <;> simp
@[simp] theorem climateCycle_schedule (s : State) : (climateCycle s).schedule = s.schedule :=
  by unfold climateCycle; (repeat' split) <;> simp
@[simp] theorem climateCycle_command (s : State) : (climateCycle s).command = s.command :=
  by unfold climateCycle; (repeat' split) <;> simp
@[simp] theorem climateCycle_pending (s : State) : (climateCycle s).pending = s.pending :=
  by unfold climateCycle; (repeat' split) <;> simp

@[simp] theorem climateExpiry_resetHeld (s : State) : (climateExpiry s).resetHeld = s.resetHeld :=
  by unfold climateExpiry; simp
@[simp] theorem climateExpiry_plp (s : State) : (climateExpiry s).plp = s.plp := by unfold climateExpiry; simp
@[simp] theorem climateExpiry_lineParams (s : State) : (climateExpiry s).lineParams = s.lineParams :=
  by unfold climateExpiry; simp
@[simp] theorem climateExpiry_survey (s : State) : (climateExpiry s).survey = s.survey :=
  by unfold climateExpiry; simp
@[simp] theorem climateExpiry_calibration (s : State) : (climateExpiry s).calibration = s.calibration :=
  by unfold climateExpiry; simp
@[simp] theorem climateExpiry_evaluator (s : State) : (climateExpiry s).evaluator = s.evaluator :=
  by unfold climateExpiry; simp
@[simp] theorem climateExpiry_schedule (s : State) : (climateExpiry s).schedule = s.schedule :=
  by unfold climateExpiry; simp
@[simp] theorem climateExpiry_command (s : State) : (climateExpiry s).command = s.command :=
  by unfold climateExpiry; simp
@[simp] theorem climateExpiry_pending (s : State) : (climateExpiry s).pending = s.pending :=
  by unfold climateExpiry; simp

@[simp] theorem finishAbandonment_resetHeld (s : State) : (finishAbandonment s).resetHeld = s.resetHeld :=
  by unfold finishAbandonment; (repeat' split) <;> simp
@[simp] theorem finishAbandonment_lineParams (s : State) : (finishAbandonment s).lineParams = s.lineParams :=
  by unfold finishAbandonment; (repeat' split) <;> simp
@[simp] theorem finishAbandonment_nodes (s : State) : (finishAbandonment s).nodes = s.nodes :=
  by unfold finishAbandonment; (repeat' split) <;> simp
@[simp] theorem finishAbandonment_survey (s : State) : (finishAbandonment s).survey = s.survey :=
  by unfold finishAbandonment; (repeat' split) <;> simp
@[simp] theorem finishAbandonment_calibration (s : State) : (finishAbandonment s).calibration = s.calibration :=
  by unfold finishAbandonment; (repeat' split) <;> simp
@[simp] theorem finishAbandonment_evaluator (s : State) : (finishAbandonment s).evaluator = s.evaluator :=
  by unfold finishAbandonment; (repeat' split) <;> simp
@[simp] theorem finishAbandonment_schedule (s : State) : (finishAbandonment s).schedule = s.schedule :=
  by unfold finishAbandonment; (repeat' split) <;> simp
@[simp] theorem finishAbandonment_climate (s : State) : (finishAbandonment s).climate = s.climate :=
  by unfold finishAbandonment; (repeat' split) <;> simp
@[simp] theorem finishAbandonment_outputs (s : State) : (finishAbandonment s).outputs = s.outputs :=
  by unfold finishAbandonment; (repeat' split) <;> simp
@[simp] theorem finishAbandonment_loop (s : State) : (finishAbandonment s).loop = s.loop :=
  by unfold finishAbandonment; (repeat' split) <;> simp
@[simp] theorem finishAbandonment_command (s : State) : (finishAbandonment s).command = s.command :=
  by unfold finishAbandonment; (repeat' split) <;> simp
@[simp] theorem finishAbandonment_events (s : State) : (finishAbandonment s).events = s.events :=
  by unfold finishAbandonment; (repeat' split) <;> simp
@[simp] theorem finishAbandonment_pending (s : State) : (finishAbandonment s).pending = s.pending :=
  by unfold finishAbandonment; (repeat' split) <;> simp

@[simp] theorem leadEnd_resetHeld (s : State) : (leadEnd s).resetHeld = s.resetHeld :=
  by unfold leadEnd; (repeat' split) <;> simp
@[simp] theorem leadEnd_line (s : State) : (leadEnd s).line = s.line :=
  by unfold leadEnd; (repeat' split) <;> simp
@[simp] theorem leadEnd_lineParams (s : State) : (leadEnd s).lineParams = s.lineParams :=
  by unfold leadEnd; (repeat' split) <;> simp
@[simp] theorem leadEnd_nodes (s : State) : (leadEnd s).nodes = s.nodes :=
  by unfold leadEnd; (repeat' split) <;> simp
@[simp] theorem leadEnd_survey (s : State) : (leadEnd s).survey = s.survey :=
  by unfold leadEnd; (repeat' split) <;> simp
@[simp] theorem leadEnd_calibration (s : State) : (leadEnd s).calibration = s.calibration :=
  by unfold leadEnd; (repeat' split) <;> simp
@[simp] theorem leadEnd_evaluator (s : State) : (leadEnd s).evaluator = s.evaluator :=
  by unfold leadEnd; (repeat' split) <;> simp
@[simp] theorem leadEnd_schedule (s : State) : (leadEnd s).schedule = s.schedule :=
  by unfold leadEnd; (repeat' split) <;> simp
@[simp] theorem leadEnd_climate (s : State) : (leadEnd s).climate = s.climate :=
  by unfold leadEnd; (repeat' split) <;> simp
@[simp] theorem leadEnd_outputs (s : State) : (leadEnd s).outputs = s.outputs :=
  by unfold leadEnd; (repeat' split) <;> simp
@[simp] theorem leadEnd_loop (s : State) : (leadEnd s).loop = s.loop :=
  by unfold leadEnd; (repeat' split) <;> simp
@[simp] theorem leadEnd_command (s : State) : (leadEnd s).command = s.command :=
  by unfold leadEnd; (repeat' split) <;> simp
@[simp] theorem leadEnd_events (s : State) : (leadEnd s).events = s.events :=
  by unfold leadEnd; (repeat' split) <;> simp
@[simp] theorem leadEnd_pending (s : State) : (leadEnd s).pending = s.pending :=
  by unfold leadEnd; (repeat' split) <;> simp

@[simp] theorem pollSent_resetHeld (s : State) : (pollSent s).resetHeld = s.resetHeld :=
  by unfold pollSent; (repeat' split) <;> simp
@[simp] theorem pollSent_line (s : State) : (pollSent s).line = s.line :=
  by unfold pollSent; (repeat' split) <;> simp
@[simp] theorem pollSent_lineParams (s : State) : (pollSent s).lineParams = s.lineParams :=
  by unfold pollSent; (repeat' split) <;> simp
@[simp] theorem pollSent_nodes (s : State) : (pollSent s).nodes = s.nodes :=
  by unfold pollSent; (repeat' split) <;> simp
@[simp] theorem pollSent_survey (s : State) : (pollSent s).survey = s.survey :=
  by unfold pollSent; (repeat' split) <;> simp
@[simp] theorem pollSent_calibration (s : State) : (pollSent s).calibration = s.calibration :=
  by unfold pollSent; (repeat' split) <;> simp
@[simp] theorem pollSent_evaluator (s : State) : (pollSent s).evaluator = s.evaluator :=
  by unfold pollSent; (repeat' split) <;> simp
@[simp] theorem pollSent_schedule (s : State) : (pollSent s).schedule = s.schedule :=
  by unfold pollSent; (repeat' split) <;> simp
@[simp] theorem pollSent_climate (s : State) : (pollSent s).climate = s.climate :=
  by unfold pollSent; (repeat' split) <;> simp
@[simp] theorem pollSent_outputs (s : State) : (pollSent s).outputs = s.outputs :=
  by unfold pollSent; (repeat' split) <;> simp
@[simp] theorem pollSent_loop (s : State) : (pollSent s).loop = s.loop :=
  by unfold pollSent; (repeat' split) <;> simp
@[simp] theorem pollSent_command (s : State) : (pollSent s).command = s.command :=
  by unfold pollSent; (repeat' split) <;> simp
@[simp] theorem pollSent_events (s : State) : (pollSent s).events = s.events :=
  by unfold pollSent; (repeat' split) <;> simp
@[simp] theorem pollSent_pending (s : State) : (pollSent s).pending = s.pending :=
  by unfold pollSent; (repeat' split) <;> simp

@[simp] theorem lagEnd_resetHeld (s : State) : (lagEnd s).resetHeld = s.resetHeld :=
  by unfold lagEnd; (repeat' split) <;> simp
@[simp] theorem lagEnd_lineParams (s : State) : (lagEnd s).lineParams = s.lineParams :=
  by unfold lagEnd; (repeat' split) <;> simp
@[simp] theorem lagEnd_nodes (s : State) : (lagEnd s).nodes = s.nodes :=
  by unfold lagEnd; (repeat' split) <;> simp
@[simp] theorem lagEnd_survey (s : State) : (lagEnd s).survey = s.survey :=
  by unfold lagEnd; (repeat' split) <;> simp
@[simp] theorem lagEnd_calibration (s : State) : (lagEnd s).calibration = s.calibration :=
  by unfold lagEnd; (repeat' split) <;> simp
@[simp] theorem lagEnd_evaluator (s : State) : (lagEnd s).evaluator = s.evaluator :=
  by unfold lagEnd; (repeat' split) <;> simp
@[simp] theorem lagEnd_schedule (s : State) : (lagEnd s).schedule = s.schedule :=
  by unfold lagEnd; (repeat' split) <;> simp
@[simp] theorem lagEnd_climate (s : State) : (lagEnd s).climate = s.climate :=
  by unfold lagEnd; (repeat' split) <;> simp
@[simp] theorem lagEnd_outputs (s : State) : (lagEnd s).outputs = s.outputs :=
  by unfold lagEnd; (repeat' split) <;> simp
@[simp] theorem lagEnd_loop (s : State) : (lagEnd s).loop = s.loop :=
  by unfold lagEnd; (repeat' split) <;> simp
@[simp] theorem lagEnd_command (s : State) : (lagEnd s).command = s.command :=
  by unfold lagEnd; (repeat' split) <;> simp
@[simp] theorem lagEnd_events (s : State) : (lagEnd s).events = s.events :=
  by unfold lagEnd; (repeat' split) <;> simp
@[simp] theorem lagEnd_pending (s : State) : (lagEnd s).pending = s.pending :=
  by unfold lagEnd; (repeat' split) <;> simp

@[simp] theorem decideOutcome_resetHeld (j : Bool) (s : State) : (decideOutcome j s).resetHeld = s.resetHeld :=
  by unfold decideOutcome; (repeat' split) <;> simp
@[simp] theorem decideOutcome_lineParams (j : Bool) (s : State) : (decideOutcome j s).lineParams = s.lineParams :=
  by unfold decideOutcome; (repeat' split) <;> simp
@[simp] theorem decideOutcome_calibration (j : Bool) (s : State) : (decideOutcome j s).calibration = s.calibration :=
  by unfold decideOutcome; (repeat' split) <;> simp
@[simp] theorem decideOutcome_climate (j : Bool) (s : State) : (decideOutcome j s).climate = s.climate :=
  by unfold decideOutcome; (repeat' split) <;> simp
@[simp] theorem decideOutcome_command (j : Bool) (s : State) : (decideOutcome j s).command = s.command :=
  by unfold decideOutcome; (repeat' split) <;> simp
@[simp] theorem decideOutcome_pending (j : Bool) (s : State) : (decideOutcome j s).pending = s.pending :=
  by unfold decideOutcome; (repeat' split) <;> simp

@[simp] theorem takeCharacter_resetHeld (c : LineBits) (f : Bool) (s : State) : (takeCharacter c f s).resetHeld = s.resetHeld :=
  by unfold takeCharacter; dsimp only; (repeat' split) <;> simp
@[simp] theorem takeCharacter_lineParams (c : LineBits) (f : Bool) (s : State) : (takeCharacter c f s).lineParams = s.lineParams :=
  by unfold takeCharacter; dsimp only; (repeat' split) <;> simp
@[simp] theorem takeCharacter_calibration (c : LineBits) (f : Bool) (s : State) : (takeCharacter c f s).calibration = s.calibration :=
  by unfold takeCharacter; dsimp only; (repeat' split) <;> simp
@[simp] theorem takeCharacter_climate (c : LineBits) (f : Bool) (s : State) : (takeCharacter c f s).climate = s.climate :=
  by unfold takeCharacter; dsimp only; (repeat' split) <;> simp
@[simp] theorem takeCharacter_command (c : LineBits) (f : Bool) (s : State) : (takeCharacter c f s).command = s.command :=
  by unfold takeCharacter; dsimp only; (repeat' split) <;> simp
@[simp] theorem takeCharacter_pending (c : LineBits) (f : Bool) (s : State) : (takeCharacter c f s).pending = s.pending :=
  by unfold takeCharacter; dsimp only; (repeat' split) <;> simp

/-! A sixteenth of the raw line, and a row of them. -/

@[simp] theorem hearLevel_resetHeld (s : State) (raw : Bool) : (hearLevel s raw).resetHeld = s.resetHeld :=
  by unfold hearLevel; dsimp only; split <;> simp
@[simp] theorem hearLevel_lineParams (s : State) (raw : Bool) : (hearLevel s raw).lineParams = s.lineParams :=
  by unfold hearLevel; dsimp only; split <;> simp
@[simp] theorem hearLevel_calibration (s : State) (raw : Bool) : (hearLevel s raw).calibration = s.calibration :=
  by unfold hearLevel; dsimp only; split <;> simp
@[simp] theorem hearLevel_climate (s : State) (raw : Bool) : (hearLevel s raw).climate = s.climate :=
  by unfold hearLevel; dsimp only; split <;> simp
@[simp] theorem hearLevel_command (s : State) (raw : Bool) : (hearLevel s raw).command = s.command :=
  by unfold hearLevel; dsimp only; split <;> simp
@[simp] theorem hearLevel_pending (s : State) (raw : Bool) : (hearLevel s raw).pending = s.pending :=
  by unfold hearLevel; dsimp only; split <;> simp

@[simp] theorem hearLevels_resetHeld (raw : List Bool) (s : State) :
    (raw.foldl hearLevel s).resetHeld = s.resetHeld :=
  by induction raw generalizing s with
  | nil => rfl
  | cons b rest ih => rw [List.foldl_cons, ih, hearLevel_resetHeld]
@[simp] theorem hearLevels_lineParams (raw : List Bool) (s : State) :
    (raw.foldl hearLevel s).lineParams = s.lineParams :=
  by induction raw generalizing s with
  | nil => rfl
  | cons b rest ih => rw [List.foldl_cons, ih, hearLevel_lineParams]
@[simp] theorem hearLevels_calibration (raw : List Bool) (s : State) :
    (raw.foldl hearLevel s).calibration = s.calibration :=
  by induction raw generalizing s with
  | nil => rfl
  | cons b rest ih => rw [List.foldl_cons, ih, hearLevel_calibration]
@[simp] theorem hearLevels_climate (raw : List Bool) (s : State) :
    (raw.foldl hearLevel s).climate = s.climate :=
  by induction raw generalizing s with
  | nil => rfl
  | cons b rest ih => rw [List.foldl_cons, ih, hearLevel_climate]
@[simp] theorem hearLevels_command (raw : List Bool) (s : State) :
    (raw.foldl hearLevel s).command = s.command :=
  by induction raw generalizing s with
  | nil => rfl
  | cons b rest ih => rw [List.foldl_cons, ih, hearLevel_command]
@[simp] theorem hearLevels_pending (raw : List Bool) (s : State) :
    (raw.foldl hearLevel s).pending = s.pending :=
  by induction raw generalizing s with
  | nil => rfl
  | cons b rest ih => rw [List.foldl_cons, ih, hearLevel_pending]

@[simp] theorem characterReceived_resetHeld (l : LineSignal) (s : State) : (characterReceived l s).resetHeld = s.resetHeld :=
  by cases l <;> simp [characterReceived]
@[simp] theorem characterReceived_lineParams (l : LineSignal) (s : State) : (characterReceived l s).lineParams = s.lineParams :=
  by cases l <;> simp [characterReceived]
@[simp] theorem characterReceived_calibration (l : LineSignal) (s : State) : (characterReceived l s).calibration = s.calibration :=
  by cases l <;> simp [characterReceived]
@[simp] theorem characterReceived_climate (l : LineSignal) (s : State) : (characterReceived l s).climate = s.climate :=
  by cases l <;> simp [characterReceived]
@[simp] theorem characterReceived_command (l : LineSignal) (s : State) : (characterReceived l s).command = s.command :=
  by cases l <;> simp [characterReceived]
@[simp] theorem characterReceived_pending (l : LineSignal) (s : State) : (characterReceived l s).pending = s.pending :=
  by cases l <;> simp [characterReceived]

@[simp] theorem responseTimeout_resetHeld (s : State) : (responseTimeout s).resetHeld = s.resetHeld :=
  by unfold responseTimeout; (repeat' split) <;> simp
@[simp] theorem responseTimeout_lineParams (s : State) : (responseTimeout s).lineParams = s.lineParams :=
  by unfold responseTimeout; (repeat' split) <;> simp
@[simp] theorem responseTimeout_calibration (s : State) : (responseTimeout s).calibration = s.calibration :=
  by unfold responseTimeout; (repeat' split) <;> simp
@[simp] theorem responseTimeout_climate (s : State) : (responseTimeout s).climate = s.climate :=
  by unfold responseTimeout; (repeat' split) <;> simp
@[simp] theorem responseTimeout_command (s : State) : (responseTimeout s).command = s.command :=
  by unfold responseTimeout; (repeat' split) <;> simp
@[simp] theorem responseTimeout_pending (s : State) : (responseTimeout s).pending = s.pending :=
  by unfold responseTimeout; (repeat' split) <;> simp

@[simp] theorem gapFault_resetHeld (s : State) : (gapFault s).resetHeld = s.resetHeld :=
  by unfold gapFault; (repeat' split) <;> simp
@[simp] theorem gapFault_lineParams (s : State) : (gapFault s).lineParams = s.lineParams :=
  by unfold gapFault; (repeat' split) <;> simp
@[simp] theorem gapFault_calibration (s : State) : (gapFault s).calibration = s.calibration :=
  by unfold gapFault; (repeat' split) <;> simp
@[simp] theorem gapFault_climate (s : State) : (gapFault s).climate = s.climate :=
  by unfold gapFault; (repeat' split) <;> simp
@[simp] theorem gapFault_command (s : State) : (gapFault s).command = s.command :=
  by unfold gapFault; (repeat' split) <;> simp
@[simp] theorem gapFault_pending (s : State) : (gapFault s).pending = s.pending :=
  by unfold gapFault; (repeat' split) <;> simp

@[simp] theorem trailingWatchEnd_resetHeld (b : Bool) (s : State) : (trailingWatchEnd b s).resetHeld = s.resetHeld :=
  by unfold trailingWatchEnd; (repeat' split) <;> simp
@[simp] theorem trailingWatchEnd_lineParams (b : Bool) (s : State) : (trailingWatchEnd b s).lineParams = s.lineParams :=
  by unfold trailingWatchEnd; (repeat' split) <;> simp
@[simp] theorem trailingWatchEnd_calibration (b : Bool) (s : State) : (trailingWatchEnd b s).calibration = s.calibration :=
  by unfold trailingWatchEnd; (repeat' split) <;> simp
@[simp] theorem trailingWatchEnd_climate (b : Bool) (s : State) : (trailingWatchEnd b s).climate = s.climate :=
  by unfold trailingWatchEnd; (repeat' split) <;> simp
@[simp] theorem trailingWatchEnd_command (b : Bool) (s : State) : (trailingWatchEnd b s).command = s.command :=
  by unfold trailingWatchEnd; (repeat' split) <;> simp
@[simp] theorem trailingWatchEnd_pending (b : Bool) (s : State) : (trailingWatchEnd b s).pending = s.pending :=
  by unfold trailingWatchEnd; (repeat' split) <;> simp

@[simp] theorem restartEffect_resetHeld (s : State) : (restartEffect s).resetHeld = s.resetHeld :=
  by unfold restartEffect; simp
@[simp] theorem restartEffect_lineParams (s : State) : (restartEffect s).lineParams = s.lineParams :=
  by unfold restartEffect; simp
@[simp] theorem restartEffect_calibration (s : State) : (restartEffect s).calibration = s.calibration :=
  by unfold restartEffect; simp
@[simp] theorem restartEffect_pending (s : State) : (restartEffect s).pending = s.pending :=
  by unfold restartEffect; simp

@[simp] theorem restartNow_resetHeld (s : State) : (restartNow s).resetHeld = s.resetHeld :=
  by unfold restartNow; dsimp only; (repeat' split) <;> simp
@[simp] theorem restartNow_lineParams (s : State) : (restartNow s).lineParams = s.lineParams :=
  by unfold restartNow; dsimp only; (repeat' split) <;> simp
@[simp] theorem restartNow_calibration (s : State) : (restartNow s).calibration = s.calibration :=
  by unfold restartNow; dsimp only; (repeat' split) <;> simp
@[simp] theorem restartNow_pending (s : State) : (restartNow s).pending = s.pending :=
  by unfold restartNow; dsimp only; (repeat' split) <;> simp

@[simp] theorem repeatFrame_resetHeld (f : LoopFrame) (s : State) : (repeatFrame f s).resetHeld = s.resetHeld :=
  by unfold repeatFrame; (repeat' split) <;> simp
@[simp] theorem repeatFrame_plp (f : LoopFrame) (s : State) : (repeatFrame f s).plp = s.plp :=
  by unfold repeatFrame; (repeat' split) <;> simp
@[simp] theorem repeatFrame_line (f : LoopFrame) (s : State) : (repeatFrame f s).line = s.line :=
  by unfold repeatFrame; (repeat' split) <;> simp
@[simp] theorem repeatFrame_lineParams (f : LoopFrame) (s : State) : (repeatFrame f s).lineParams = s.lineParams :=
  by unfold repeatFrame; (repeat' split) <;> simp
@[simp] theorem repeatFrame_nodes (f : LoopFrame) (s : State) : (repeatFrame f s).nodes = s.nodes :=
  by unfold repeatFrame; (repeat' split) <;> simp
@[simp] theorem repeatFrame_survey (f : LoopFrame) (s : State) : (repeatFrame f s).survey = s.survey :=
  by unfold repeatFrame; (repeat' split) <;> simp
@[simp] theorem repeatFrame_calibration (f : LoopFrame) (s : State) : (repeatFrame f s).calibration = s.calibration :=
  by unfold repeatFrame; (repeat' split) <;> simp
@[simp] theorem repeatFrame_evaluator (f : LoopFrame) (s : State) : (repeatFrame f s).evaluator = s.evaluator :=
  by unfold repeatFrame; (repeat' split) <;> simp
@[simp] theorem repeatFrame_schedule (f : LoopFrame) (s : State) : (repeatFrame f s).schedule = s.schedule :=
  by unfold repeatFrame; (repeat' split) <;> simp
@[simp] theorem repeatFrame_climate (f : LoopFrame) (s : State) : (repeatFrame f s).climate = s.climate :=
  by unfold repeatFrame; (repeat' split) <;> simp
@[simp] theorem repeatFrame_outputs (f : LoopFrame) (s : State) : (repeatFrame f s).outputs = s.outputs :=
  by unfold repeatFrame; (repeat' split) <;> simp
@[simp] theorem repeatFrame_command (f : LoopFrame) (s : State) : (repeatFrame f s).command = s.command :=
  by unfold repeatFrame; (repeat' split) <;> simp
@[simp] theorem repeatFrame_pending (f : LoopFrame) (s : State) : (repeatFrame f s).pending = s.pending :=
  by unfold repeatFrame; (repeat' split) <;> simp

@[simp] theorem arrive_resetHeld (c : LoopCommand) (s : State) : (arrive c s).resetHeld = s.resetHeld :=
  by unfold arrive; (repeat' split) <;> simp
@[simp] theorem arrive_plp (c : LoopCommand) (s : State) : (arrive c s).plp = s.plp :=
  by unfold arrive; (repeat' split) <;> simp
@[simp] theorem arrive_line (c : LoopCommand) (s : State) : (arrive c s).line = s.line :=
  by unfold arrive; (repeat' split) <;> simp
@[simp] theorem arrive_lineParams (c : LoopCommand) (s : State) : (arrive c s).lineParams = s.lineParams :=
  by unfold arrive; (repeat' split) <;> simp
@[simp] theorem arrive_nodes (c : LoopCommand) (s : State) : (arrive c s).nodes = s.nodes :=
  by unfold arrive; (repeat' split) <;> simp
@[simp] theorem arrive_survey (c : LoopCommand) (s : State) : (arrive c s).survey = s.survey :=
  by unfold arrive; (repeat' split) <;> simp
@[simp] theorem arrive_calibration (c : LoopCommand) (s : State) : (arrive c s).calibration = s.calibration :=
  by unfold arrive; (repeat' split) <;> simp
@[simp] theorem arrive_evaluator (c : LoopCommand) (s : State) : (arrive c s).evaluator = s.evaluator :=
  by unfold arrive; (repeat' split) <;> simp
@[simp] theorem arrive_schedule (c : LoopCommand) (s : State) : (arrive c s).schedule = s.schedule :=
  by unfold arrive; (repeat' split) <;> simp
@[simp] theorem arrive_climate (c : LoopCommand) (s : State) : (arrive c s).climate = s.climate :=
  by unfold arrive; (repeat' split) <;> simp
@[simp] theorem arrive_outputs (c : LoopCommand) (s : State) : (arrive c s).outputs = s.outputs :=
  by unfold arrive; (repeat' split) <;> simp
@[simp] theorem arrive_pending (c : LoopCommand) (s : State) : (arrive c s).pending = s.pending :=
  by unfold arrive; (repeat' split) <;> simp

@[simp] theorem takeFrame_resetHeld (f : LoopFrame) (s : State) : (takeFrame f s).resetHeld = s.resetHeld :=
  by unfold takeFrame; (repeat' split) <;> simp
@[simp] theorem takeFrame_plp (f : LoopFrame) (s : State) : (takeFrame f s).plp = s.plp :=
  by unfold takeFrame; (repeat' split) <;> simp
@[simp] theorem takeFrame_line (f : LoopFrame) (s : State) : (takeFrame f s).line = s.line :=
  by unfold takeFrame; (repeat' split) <;> simp
@[simp] theorem takeFrame_lineParams (f : LoopFrame) (s : State) : (takeFrame f s).lineParams = s.lineParams :=
  by unfold takeFrame; (repeat' split) <;> simp
@[simp] theorem takeFrame_nodes (f : LoopFrame) (s : State) : (takeFrame f s).nodes = s.nodes :=
  by unfold takeFrame; (repeat' split) <;> simp
@[simp] theorem takeFrame_survey (f : LoopFrame) (s : State) : (takeFrame f s).survey = s.survey :=
  by unfold takeFrame; (repeat' split) <;> simp
@[simp] theorem takeFrame_calibration (f : LoopFrame) (s : State) : (takeFrame f s).calibration = s.calibration :=
  by unfold takeFrame; (repeat' split) <;> simp
@[simp] theorem takeFrame_evaluator (f : LoopFrame) (s : State) : (takeFrame f s).evaluator = s.evaluator :=
  by unfold takeFrame; (repeat' split) <;> simp
@[simp] theorem takeFrame_schedule (f : LoopFrame) (s : State) : (takeFrame f s).schedule = s.schedule :=
  by unfold takeFrame; (repeat' split) <;> simp
@[simp] theorem takeFrame_climate (f : LoopFrame) (s : State) : (takeFrame f s).climate = s.climate :=
  by unfold takeFrame; (repeat' split) <;> simp
@[simp] theorem takeFrame_outputs (f : LoopFrame) (s : State) : (takeFrame f s).outputs = s.outputs :=
  by unfold takeFrame; (repeat' split) <;> simp
@[simp] theorem takeFrame_pending (f : LoopFrame) (s : State) : (takeFrame f s).pending = s.pending :=
  by unfold takeFrame; (repeat' split) <;> simp

@[simp] theorem goodFrame_resetHeld (f : LoopFrame) (s : State) : (goodFrame f s).resetHeld = s.resetHeld :=
  by unfold goodFrame; (repeat' split) <;> simp
@[simp] theorem goodFrame_plp (f : LoopFrame) (s : State) : (goodFrame f s).plp = s.plp :=
  by unfold goodFrame; (repeat' split) <;> simp
@[simp] theorem goodFrame_line (f : LoopFrame) (s : State) : (goodFrame f s).line = s.line :=
  by unfold goodFrame; (repeat' split) <;> simp
@[simp] theorem goodFrame_lineParams (f : LoopFrame) (s : State) : (goodFrame f s).lineParams = s.lineParams :=
  by unfold goodFrame; (repeat' split) <;> simp
@[simp] theorem goodFrame_nodes (f : LoopFrame) (s : State) : (goodFrame f s).nodes = s.nodes :=
  by unfold goodFrame; (repeat' split) <;> simp
@[simp] theorem goodFrame_survey (f : LoopFrame) (s : State) : (goodFrame f s).survey = s.survey :=
  by unfold goodFrame; (repeat' split) <;> simp
@[simp] theorem goodFrame_calibration (f : LoopFrame) (s : State) : (goodFrame f s).calibration = s.calibration :=
  by unfold goodFrame; (repeat' split) <;> simp
@[simp] theorem goodFrame_evaluator (f : LoopFrame) (s : State) : (goodFrame f s).evaluator = s.evaluator :=
  by unfold goodFrame; (repeat' split) <;> simp
@[simp] theorem goodFrame_schedule (f : LoopFrame) (s : State) : (goodFrame f s).schedule = s.schedule :=
  by unfold goodFrame; (repeat' split) <;> simp
@[simp] theorem goodFrame_climate (f : LoopFrame) (s : State) : (goodFrame f s).climate = s.climate :=
  by unfold goodFrame; (repeat' split) <;> simp
@[simp] theorem goodFrame_outputs (f : LoopFrame) (s : State) : (goodFrame f s).outputs = s.outputs :=
  by unfold goodFrame; (repeat' split) <;> simp
@[simp] theorem goodFrame_pending (f : LoopFrame) (s : State) : (goodFrame f s).pending = s.pending :=
  by unfold goodFrame; (repeat' split) <;> simp

@[simp] theorem badFrame_resetHeld (f : LoopFrame) (s : State) : (badFrame f s).resetHeld = s.resetHeld :=
  by unfold badFrame; (repeat' split) <;> simp
@[simp] theorem badFrame_plp (f : LoopFrame) (s : State) : (badFrame f s).plp = s.plp :=
  by unfold badFrame; (repeat' split) <;> simp
@[simp] theorem badFrame_line (f : LoopFrame) (s : State) : (badFrame f s).line = s.line :=
  by unfold badFrame; (repeat' split) <;> simp
@[simp] theorem badFrame_lineParams (f : LoopFrame) (s : State) : (badFrame f s).lineParams = s.lineParams :=
  by unfold badFrame; (repeat' split) <;> simp
@[simp] theorem badFrame_nodes (f : LoopFrame) (s : State) : (badFrame f s).nodes = s.nodes :=
  by unfold badFrame; (repeat' split) <;> simp
@[simp] theorem badFrame_survey (f : LoopFrame) (s : State) : (badFrame f s).survey = s.survey :=
  by unfold badFrame; (repeat' split) <;> simp
@[simp] theorem badFrame_calibration (f : LoopFrame) (s : State) : (badFrame f s).calibration = s.calibration :=
  by unfold badFrame; (repeat' split) <;> simp
@[simp] theorem badFrame_evaluator (f : LoopFrame) (s : State) : (badFrame f s).evaluator = s.evaluator :=
  by unfold badFrame; (repeat' split) <;> simp
@[simp] theorem badFrame_schedule (f : LoopFrame) (s : State) : (badFrame f s).schedule = s.schedule :=
  by unfold badFrame; (repeat' split) <;> simp
@[simp] theorem badFrame_climate (f : LoopFrame) (s : State) : (badFrame f s).climate = s.climate :=
  by unfold badFrame; (repeat' split) <;> simp
@[simp] theorem badFrame_outputs (f : LoopFrame) (s : State) : (badFrame f s).outputs = s.outputs :=
  by unfold badFrame; (repeat' split) <;> simp
@[simp] theorem badFrame_command (f : LoopFrame) (s : State) : (badFrame f s).command = s.command :=
  by unfold badFrame; (repeat' split) <;> simp
@[simp] theorem badFrame_pending (f : LoopFrame) (s : State) : (badFrame f s).pending = s.pending :=
  by unfold badFrame; (repeat' split) <;> simp

@[simp] theorem fragment_resetHeld (c : List Byte) (s : State) : (fragment c s).resetHeld = s.resetHeld :=
  by unfold fragment; (repeat' split) <;> simp
@[simp] theorem fragment_plp (c : List Byte) (s : State) : (fragment c s).plp = s.plp :=
  by unfold fragment; (repeat' split) <;> simp
@[simp] theorem fragment_line (c : List Byte) (s : State) : (fragment c s).line = s.line :=
  by unfold fragment; (repeat' split) <;> simp
@[simp] theorem fragment_lineParams (c : List Byte) (s : State) : (fragment c s).lineParams = s.lineParams :=
  by unfold fragment; (repeat' split) <;> simp
@[simp] theorem fragment_nodes (c : List Byte) (s : State) : (fragment c s).nodes = s.nodes :=
  by unfold fragment; (repeat' split) <;> simp
@[simp] theorem fragment_survey (c : List Byte) (s : State) : (fragment c s).survey = s.survey :=
  by unfold fragment; (repeat' split) <;> simp
@[simp] theorem fragment_calibration (c : List Byte) (s : State) : (fragment c s).calibration = s.calibration :=
  by unfold fragment; (repeat' split) <;> simp
@[simp] theorem fragment_evaluator (c : List Byte) (s : State) : (fragment c s).evaluator = s.evaluator :=
  by unfold fragment; (repeat' split) <;> simp
@[simp] theorem fragment_schedule (c : List Byte) (s : State) : (fragment c s).schedule = s.schedule :=
  by unfold fragment; (repeat' split) <;> simp
@[simp] theorem fragment_climate (c : List Byte) (s : State) : (fragment c s).climate = s.climate :=
  by unfold fragment; (repeat' split) <;> simp
@[simp] theorem fragment_outputs (c : List Byte) (s : State) : (fragment c s).outputs = s.outputs :=
  by unfold fragment; (repeat' split) <;> simp
@[simp] theorem fragment_command (c : List Byte) (s : State) : (fragment c s).command = s.command :=
  by unfold fragment; (repeat' split) <;> simp
@[simp] theorem fragment_pending (c : List Byte) (s : State) : (fragment c s).pending = s.pending :=
  by unfold fragment; (repeat' split) <;> simp

@[simp] theorem frameReceived_resetHeld (c : List Byte) (f : Bool) (s : State) : (frameReceived c f s).resetHeld = s.resetHeld :=
  by unfold frameReceived; dsimp only; (repeat' split) <;> simp
@[simp] theorem frameReceived_plp (c : List Byte) (f : Bool) (s : State) : (frameReceived c f s).plp = s.plp :=
  by unfold frameReceived; dsimp only; (repeat' split) <;> simp
@[simp] theorem frameReceived_line (c : List Byte) (f : Bool) (s : State) : (frameReceived c f s).line = s.line :=
  by unfold frameReceived; dsimp only; (repeat' split) <;> simp
@[simp] theorem frameReceived_lineParams (c : List Byte) (f : Bool) (s : State) : (frameReceived c f s).lineParams = s.lineParams :=
  by unfold frameReceived; dsimp only; (repeat' split) <;> simp
@[simp] theorem frameReceived_nodes (c : List Byte) (f : Bool) (s : State) : (frameReceived c f s).nodes = s.nodes :=
  by unfold frameReceived; dsimp only; (repeat' split) <;> simp
@[simp] theorem frameReceived_survey (c : List Byte) (f : Bool) (s : State) : (frameReceived c f s).survey = s.survey :=
  by unfold frameReceived; dsimp only; (repeat' split) <;> simp
@[simp] theorem frameReceived_calibration (c : List Byte) (f : Bool) (s : State) : (frameReceived c f s).calibration = s.calibration :=
  by unfold frameReceived; dsimp only; (repeat' split) <;> simp
@[simp] theorem frameReceived_evaluator (c : List Byte) (f : Bool) (s : State) : (frameReceived c f s).evaluator = s.evaluator :=
  by unfold frameReceived; dsimp only; (repeat' split) <;> simp
@[simp] theorem frameReceived_schedule (c : List Byte) (f : Bool) (s : State) : (frameReceived c f s).schedule = s.schedule :=
  by unfold frameReceived; dsimp only; (repeat' split) <;> simp
@[simp] theorem frameReceived_climate (c : List Byte) (f : Bool) (s : State) : (frameReceived c f s).climate = s.climate :=
  by unfold frameReceived; dsimp only; (repeat' split) <;> simp
@[simp] theorem frameReceived_outputs (c : List Byte) (f : Bool) (s : State) : (frameReceived c f s).outputs = s.outputs :=
  by unfold frameReceived; dsimp only; (repeat' split) <;> simp
@[simp] theorem frameReceived_pending (c : List Byte) (f : Bool) (s : State) : (frameReceived c f s).pending = s.pending :=
  by unfold frameReceived; dsimp only; (repeat' split) <;> simp

/-! Frames that end among some characters on loop-in. -/

@[simp] theorem framesReceived_resetHeld (l : List (List Byte × Bool)) (s : State) :
    (l.foldl (fun t f => frameReceived f.1 f.2 t) s).resetHeld = s.resetHeld :=
  by induction l generalizing s with
  | nil => rfl
  | cons b rest ih => rw [List.foldl_cons, ih, frameReceived_resetHeld]
@[simp] theorem framesReceived_plp (l : List (List Byte × Bool)) (s : State) :
    (l.foldl (fun t f => frameReceived f.1 f.2 t) s).plp = s.plp :=
  by induction l generalizing s with
  | nil => rfl
  | cons b rest ih => rw [List.foldl_cons, ih, frameReceived_plp]
@[simp] theorem framesReceived_line (l : List (List Byte × Bool)) (s : State) :
    (l.foldl (fun t f => frameReceived f.1 f.2 t) s).line = s.line :=
  by induction l generalizing s with
  | nil => rfl
  | cons b rest ih => rw [List.foldl_cons, ih, frameReceived_line]
@[simp] theorem framesReceived_lineParams (l : List (List Byte × Bool)) (s : State) :
    (l.foldl (fun t f => frameReceived f.1 f.2 t) s).lineParams = s.lineParams :=
  by induction l generalizing s with
  | nil => rfl
  | cons b rest ih => rw [List.foldl_cons, ih, frameReceived_lineParams]
@[simp] theorem framesReceived_nodes (l : List (List Byte × Bool)) (s : State) :
    (l.foldl (fun t f => frameReceived f.1 f.2 t) s).nodes = s.nodes :=
  by induction l generalizing s with
  | nil => rfl
  | cons b rest ih => rw [List.foldl_cons, ih, frameReceived_nodes]
@[simp] theorem framesReceived_survey (l : List (List Byte × Bool)) (s : State) :
    (l.foldl (fun t f => frameReceived f.1 f.2 t) s).survey = s.survey :=
  by induction l generalizing s with
  | nil => rfl
  | cons b rest ih => rw [List.foldl_cons, ih, frameReceived_survey]
@[simp] theorem framesReceived_calibration (l : List (List Byte × Bool)) (s : State) :
    (l.foldl (fun t f => frameReceived f.1 f.2 t) s).calibration = s.calibration :=
  by induction l generalizing s with
  | nil => rfl
  | cons b rest ih => rw [List.foldl_cons, ih, frameReceived_calibration]
@[simp] theorem framesReceived_evaluator (l : List (List Byte × Bool)) (s : State) :
    (l.foldl (fun t f => frameReceived f.1 f.2 t) s).evaluator = s.evaluator :=
  by induction l generalizing s with
  | nil => rfl
  | cons b rest ih => rw [List.foldl_cons, ih, frameReceived_evaluator]
@[simp] theorem framesReceived_schedule (l : List (List Byte × Bool)) (s : State) :
    (l.foldl (fun t f => frameReceived f.1 f.2 t) s).schedule = s.schedule :=
  by induction l generalizing s with
  | nil => rfl
  | cons b rest ih => rw [List.foldl_cons, ih, frameReceived_schedule]
@[simp] theorem framesReceived_climate (l : List (List Byte × Bool)) (s : State) :
    (l.foldl (fun t f => frameReceived f.1 f.2 t) s).climate = s.climate :=
  by induction l generalizing s with
  | nil => rfl
  | cons b rest ih => rw [List.foldl_cons, ih, frameReceived_climate]
@[simp] theorem framesReceived_outputs (l : List (List Byte × Bool)) (s : State) :
    (l.foldl (fun t f => frameReceived f.1 f.2 t) s).outputs = s.outputs :=
  by induction l generalizing s with
  | nil => rfl
  | cons b rest ih => rw [List.foldl_cons, ih, frameReceived_outputs]
@[simp] theorem framesReceived_pending (l : List (List Byte × Bool)) (s : State) :
    (l.foldl (fun t f => frameReceived f.1 f.2 t) s).pending = s.pending :=
  by induction l generalizing s with
  | nil => rfl
  | cons b rest ih => rw [List.foldl_cons, ih, frameReceived_pending]

@[simp] theorem loopHeard_resetHeld (c : LoopSignal) (how : LoopArrival) (s : State) : (loopHeard c how s).resetHeld = s.resetHeld :=
  by unfold loopHeard; simp
@[simp] theorem loopHeard_plp (c : LoopSignal) (how : LoopArrival) (s : State) : (loopHeard c how s).plp = s.plp :=
  by unfold loopHeard; simp
@[simp] theorem loopHeard_line (c : LoopSignal) (how : LoopArrival) (s : State) : (loopHeard c how s).line = s.line :=
  by unfold loopHeard; simp
@[simp] theorem loopHeard_lineParams (c : LoopSignal) (how : LoopArrival) (s : State) : (loopHeard c how s).lineParams = s.lineParams :=
  by unfold loopHeard; simp
@[simp] theorem loopHeard_nodes (c : LoopSignal) (how : LoopArrival) (s : State) : (loopHeard c how s).nodes = s.nodes :=
  by unfold loopHeard; simp
@[simp] theorem loopHeard_survey (c : LoopSignal) (how : LoopArrival) (s : State) : (loopHeard c how s).survey = s.survey :=
  by unfold loopHeard; simp
@[simp] theorem loopHeard_calibration (c : LoopSignal) (how : LoopArrival) (s : State) : (loopHeard c how s).calibration = s.calibration :=
  by unfold loopHeard; simp
@[simp] theorem loopHeard_evaluator (c : LoopSignal) (how : LoopArrival) (s : State) : (loopHeard c how s).evaluator = s.evaluator :=
  by unfold loopHeard; simp
@[simp] theorem loopHeard_schedule (c : LoopSignal) (how : LoopArrival) (s : State) : (loopHeard c how s).schedule = s.schedule :=
  by unfold loopHeard; simp
@[simp] theorem loopHeard_climate (c : LoopSignal) (how : LoopArrival) (s : State) : (loopHeard c how s).climate = s.climate :=
  by unfold loopHeard; simp
@[simp] theorem loopHeard_outputs (c : LoopSignal) (how : LoopArrival) (s : State) : (loopHeard c how s).outputs = s.outputs :=
  by unfold loopHeard; simp
@[simp] theorem loopHeard_pending (c : LoopSignal) (how : LoopArrival) (s : State) : (loopHeard c how s).pending = s.pending :=
  by unfold loopHeard; simp

@[simp] theorem handOver_resetHeld (s : State) : (handOver s).resetHeld = s.resetHeld :=
  by unfold handOver; (repeat' split) <;> simp
@[simp] theorem handOver_plp (s : State) : (handOver s).plp = s.plp :=
  by unfold handOver; (repeat' split) <;> simp
@[simp] theorem handOver_line (s : State) : (handOver s).line = s.line :=
  by unfold handOver; (repeat' split) <;> simp
@[simp] theorem handOver_lineParams (s : State) : (handOver s).lineParams = s.lineParams :=
  by unfold handOver; (repeat' split) <;> simp
@[simp] theorem handOver_nodes (s : State) : (handOver s).nodes = s.nodes :=
  by unfold handOver; (repeat' split) <;> simp
@[simp] theorem handOver_survey (s : State) : (handOver s).survey = s.survey :=
  by unfold handOver; (repeat' split) <;> simp
@[simp] theorem handOver_calibration (s : State) : (handOver s).calibration = s.calibration :=
  by unfold handOver; (repeat' split) <;> simp
@[simp] theorem handOver_evaluator (s : State) : (handOver s).evaluator = s.evaluator :=
  by unfold handOver; (repeat' split) <;> simp
@[simp] theorem handOver_schedule (s : State) : (handOver s).schedule = s.schedule :=
  by unfold handOver; (repeat' split) <;> simp
@[simp] theorem handOver_climate (s : State) : (handOver s).climate = s.climate :=
  by unfold handOver; (repeat' split) <;> simp
@[simp] theorem handOver_outputs (s : State) : (handOver s).outputs = s.outputs :=
  by unfold handOver; (repeat' split) <;> simp
@[simp] theorem handOver_command (s : State) : (handOver s).command = s.command :=
  by unfold handOver; (repeat' split) <;> simp
@[simp] theorem handOver_events (s : State) : (handOver s).events = s.events :=
  by unfold handOver; (repeat' split) <;> simp
@[simp] theorem handOver_pending (s : State) : (handOver s).pending = s.pending :=
  by unfold handOver; (repeat' split) <;> simp

@[simp] theorem frameSent_resetHeld (s : State) : (frameSent s).resetHeld = s.resetHeld :=
  by unfold frameSent; dsimp only; (repeat' split) <;> simp
@[simp] theorem frameSent_lineParams (s : State) : (frameSent s).lineParams = s.lineParams :=
  by unfold frameSent; dsimp only; (repeat' split) <;> simp
@[simp] theorem frameSent_calibration (s : State) : (frameSent s).calibration = s.calibration :=
  by unfold frameSent; dsimp only; (repeat' split) <;> simp
@[simp] theorem frameSent_pending (s : State) : (frameSent s).pending = s.pending :=
  by unfold frameSent; dsimp only; (repeat' split) <;> simp

@[simp] theorem reversalExpiry_resetHeld (s : State) : (reversalExpiry s).resetHeld = s.resetHeld :=
  by unfold reversalExpiry; (repeat' split) <;> simp
@[simp] theorem reversalExpiry_plp (s : State) : (reversalExpiry s).plp = s.plp :=
  by unfold reversalExpiry; (repeat' split) <;> simp
@[simp] theorem reversalExpiry_line (s : State) : (reversalExpiry s).line = s.line :=
  by unfold reversalExpiry; (repeat' split) <;> simp
@[simp] theorem reversalExpiry_lineParams (s : State) : (reversalExpiry s).lineParams = s.lineParams :=
  by unfold reversalExpiry; (repeat' split) <;> simp
@[simp] theorem reversalExpiry_nodes (s : State) : (reversalExpiry s).nodes = s.nodes :=
  by unfold reversalExpiry; (repeat' split) <;> simp
@[simp] theorem reversalExpiry_survey (s : State) : (reversalExpiry s).survey = s.survey :=
  by unfold reversalExpiry; (repeat' split) <;> simp
@[simp] theorem reversalExpiry_calibration (s : State) : (reversalExpiry s).calibration = s.calibration :=
  by unfold reversalExpiry; (repeat' split) <;> simp
@[simp] theorem reversalExpiry_evaluator (s : State) : (reversalExpiry s).evaluator = s.evaluator :=
  by unfold reversalExpiry; (repeat' split) <;> simp
@[simp] theorem reversalExpiry_schedule (s : State) : (reversalExpiry s).schedule = s.schedule :=
  by unfold reversalExpiry; (repeat' split) <;> simp
@[simp] theorem reversalExpiry_loop (s : State) : (reversalExpiry s).loop = s.loop :=
  by unfold reversalExpiry; (repeat' split) <;> simp
@[simp] theorem reversalExpiry_command (s : State) : (reversalExpiry s).command = s.command :=
  by unfold reversalExpiry; (repeat' split) <;> simp
@[simp] theorem reversalExpiry_events (s : State) : (reversalExpiry s).events = s.events :=
  by unfold reversalExpiry; (repeat' split) <;> simp
@[simp] theorem reversalExpiry_pending (s : State) : (reversalExpiry s).pending = s.pending :=
  by unfold reversalExpiry; (repeat' split) <;> simp

@[simp] theorem coastExpiry_resetHeld (s : State) : (coastExpiry s).resetHeld = s.resetHeld :=
  by unfold coastExpiry; (repeat' split) <;> simp
@[simp] theorem coastExpiry_plp (s : State) : (coastExpiry s).plp = s.plp :=
  by unfold coastExpiry; (repeat' split) <;> simp
@[simp] theorem coastExpiry_line (s : State) : (coastExpiry s).line = s.line :=
  by unfold coastExpiry; (repeat' split) <;> simp
@[simp] theorem coastExpiry_lineParams (s : State) : (coastExpiry s).lineParams = s.lineParams :=
  by unfold coastExpiry; (repeat' split) <;> simp
@[simp] theorem coastExpiry_nodes (s : State) : (coastExpiry s).nodes = s.nodes :=
  by unfold coastExpiry; (repeat' split) <;> simp
@[simp] theorem coastExpiry_survey (s : State) : (coastExpiry s).survey = s.survey :=
  by unfold coastExpiry; (repeat' split) <;> simp
@[simp] theorem coastExpiry_calibration (s : State) : (coastExpiry s).calibration = s.calibration :=
  by unfold coastExpiry; (repeat' split) <;> simp
@[simp] theorem coastExpiry_evaluator (s : State) : (coastExpiry s).evaluator = s.evaluator :=
  by unfold coastExpiry; (repeat' split) <;> simp
@[simp] theorem coastExpiry_schedule (s : State) : (coastExpiry s).schedule = s.schedule :=
  by unfold coastExpiry; (repeat' split) <;> simp
@[simp] theorem coastExpiry_loop (s : State) : (coastExpiry s).loop = s.loop :=
  by unfold coastExpiry; (repeat' split) <;> simp
@[simp] theorem coastExpiry_command (s : State) : (coastExpiry s).command = s.command :=
  by unfold coastExpiry; (repeat' split) <;> simp
@[simp] theorem coastExpiry_events (s : State) : (coastExpiry s).events = s.events :=
  by unfold coastExpiry; (repeat' split) <;> simp
@[simp] theorem coastExpiry_pending (s : State) : (coastExpiry s).pending = s.pending :=
  by unfold coastExpiry; (repeat' split) <;> simp

@[simp] theorem reversalMinute_resetHeld (s : State) : (reversalMinute s).resetHeld = s.resetHeld :=
  by unfold reversalMinute; (repeat' split) <;> simp
@[simp] theorem reversalMinute_plp (s : State) : (reversalMinute s).plp = s.plp :=
  by unfold reversalMinute; (repeat' split) <;> simp
@[simp] theorem reversalMinute_line (s : State) : (reversalMinute s).line = s.line :=
  by unfold reversalMinute; (repeat' split) <;> simp
@[simp] theorem reversalMinute_lineParams (s : State) : (reversalMinute s).lineParams = s.lineParams :=
  by unfold reversalMinute; (repeat' split) <;> simp
@[simp] theorem reversalMinute_nodes (s : State) : (reversalMinute s).nodes = s.nodes :=
  by unfold reversalMinute; (repeat' split) <;> simp
@[simp] theorem reversalMinute_survey (s : State) : (reversalMinute s).survey = s.survey :=
  by unfold reversalMinute; (repeat' split) <;> simp
@[simp] theorem reversalMinute_calibration (s : State) : (reversalMinute s).calibration = s.calibration :=
  by unfold reversalMinute; (repeat' split) <;> simp
@[simp] theorem reversalMinute_evaluator (s : State) : (reversalMinute s).evaluator = s.evaluator :=
  by unfold reversalMinute; (repeat' split) <;> simp
@[simp] theorem reversalMinute_schedule (s : State) : (reversalMinute s).schedule = s.schedule :=
  by unfold reversalMinute; (repeat' split) <;> simp
@[simp] theorem reversalMinute_loop (s : State) : (reversalMinute s).loop = s.loop :=
  by unfold reversalMinute; (repeat' split) <;> simp
@[simp] theorem reversalMinute_command (s : State) : (reversalMinute s).command = s.command :=
  by unfold reversalMinute; (repeat' split) <;> simp
@[simp] theorem reversalMinute_events (s : State) : (reversalMinute s).events = s.events :=
  by unfold reversalMinute; (repeat' split) <;> simp
@[simp] theorem reversalMinute_pending (s : State) : (reversalMinute s).pending = s.pending :=
  by unfold reversalMinute; (repeat' split) <;> simp

@[simp] theorem minuteTick_resetHeld (s : State) : (minuteTick s).resetHeld = s.resetHeld :=
  by unfold minuteTick; simp
@[simp] theorem minuteTick_plp (s : State) : (minuteTick s).plp = s.plp := by unfold minuteTick; simp
@[simp] theorem minuteTick_line (s : State) : (minuteTick s).line = s.line := by unfold minuteTick; simp
@[simp] theorem minuteTick_lineParams (s : State) : (minuteTick s).lineParams = s.lineParams :=
  by unfold minuteTick; simp
@[simp] theorem minuteTick_survey (s : State) : (minuteTick s).survey = s.survey := by unfold minuteTick; simp
@[simp] theorem minuteTick_calibration (s : State) : (minuteTick s).calibration = s.calibration :=
  by unfold minuteTick; simp
@[simp] theorem minuteTick_evaluator (s : State) : (minuteTick s).evaluator = s.evaluator :=
  by unfold minuteTick; simp
@[simp] theorem minuteTick_command (s : State) : (minuteTick s).command = s.command :=
  by unfold minuteTick; simp
@[simp] theorem minuteTick_pending (s : State) : (minuteTick s).pending = s.pending :=
  by unfold minuteTick; simp

@[simp] theorem refreshSecond_resetHeld (i : Nat) (s : State) : (refreshSecond i s).resetHeld = s.resetHeld :=
  by unfold refreshSecond; (repeat' split) <;> simp
@[simp] theorem refreshSecond_plp (i : Nat) (s : State) : (refreshSecond i s).plp = s.plp :=
  by unfold refreshSecond; (repeat' split) <;> simp
@[simp] theorem refreshSecond_lineParams (i : Nat) (s : State) : (refreshSecond i s).lineParams = s.lineParams :=
  by unfold refreshSecond; (repeat' split) <;> simp
@[simp] theorem refreshSecond_nodes (i : Nat) (s : State) : (refreshSecond i s).nodes = s.nodes :=
  by unfold refreshSecond; (repeat' split) <;> simp
@[simp] theorem refreshSecond_survey (i : Nat) (s : State) : (refreshSecond i s).survey = s.survey :=
  by unfold refreshSecond; (repeat' split) <;> simp
@[simp] theorem refreshSecond_calibration (i : Nat) (s : State) : (refreshSecond i s).calibration = s.calibration :=
  by unfold refreshSecond; (repeat' split) <;> simp
@[simp] theorem refreshSecond_evaluator (i : Nat) (s : State) : (refreshSecond i s).evaluator = s.evaluator :=
  by unfold refreshSecond; (repeat' split) <;> simp
@[simp] theorem refreshSecond_schedule (i : Nat) (s : State) : (refreshSecond i s).schedule = s.schedule :=
  by unfold refreshSecond; (repeat' split) <;> simp
@[simp] theorem refreshSecond_climate (i : Nat) (s : State) : (refreshSecond i s).climate = s.climate :=
  by unfold refreshSecond; (repeat' split) <;> simp
@[simp] theorem refreshSecond_command (i : Nat) (s : State) : (refreshSecond i s).command = s.command :=
  by unfold refreshSecond; (repeat' split) <;> simp
@[simp] theorem refreshSecond_pending (i : Nat) (s : State) : (refreshSecond i s).pending = s.pending :=
  by unfold refreshSecond; (repeat' split) <;> simp

@[simp] theorem sweepSecond_resetHeld (s : State) : (sweepSecond s).resetHeld = s.resetHeld :=
  by unfold sweepSecond; (repeat' split) <;> simp
@[simp] theorem sweepSecond_plp (s : State) : (sweepSecond s).plp = s.plp :=
  by unfold sweepSecond; (repeat' split) <;> simp
@[simp] theorem sweepSecond_lineParams (s : State) : (sweepSecond s).lineParams = s.lineParams :=
  by unfold sweepSecond; (repeat' split) <;> simp
@[simp] theorem sweepSecond_survey (s : State) : (sweepSecond s).survey = s.survey :=
  by unfold sweepSecond; (repeat' split) <;> simp
@[simp] theorem sweepSecond_calibration (s : State) : (sweepSecond s).calibration = s.calibration :=
  by unfold sweepSecond; (repeat' split) <;> simp
@[simp] theorem sweepSecond_climate (s : State) : (sweepSecond s).climate = s.climate :=
  by unfold sweepSecond; (repeat' split) <;> simp
@[simp] theorem sweepSecond_outputs (s : State) : (sweepSecond s).outputs = s.outputs :=
  by unfold sweepSecond; (repeat' split) <;> simp
@[simp] theorem sweepSecond_command (s : State) : (sweepSecond s).command = s.command :=
  by unfold sweepSecond; (repeat' split) <;> simp
@[simp] theorem sweepSecond_pending (s : State) : (sweepSecond s).pending = s.pending :=
  by unfold sweepSecond; (repeat' split) <;> simp

@[simp] theorem coastSecond_resetHeld (s : State) : (coastSecond s).resetHeld = s.resetHeld :=
  by unfold coastSecond; (repeat' split) <;> simp
@[simp] theorem coastSecond_plp (s : State) : (coastSecond s).plp = s.plp :=
  by unfold coastSecond; (repeat' split) <;> simp
@[simp] theorem coastSecond_line (s : State) : (coastSecond s).line = s.line :=
  by unfold coastSecond; (repeat' split) <;> simp
@[simp] theorem coastSecond_lineParams (s : State) : (coastSecond s).lineParams = s.lineParams :=
  by unfold coastSecond; (repeat' split) <;> simp
@[simp] theorem coastSecond_nodes (s : State) : (coastSecond s).nodes = s.nodes :=
  by unfold coastSecond; (repeat' split) <;> simp
@[simp] theorem coastSecond_survey (s : State) : (coastSecond s).survey = s.survey :=
  by unfold coastSecond; (repeat' split) <;> simp
@[simp] theorem coastSecond_calibration (s : State) : (coastSecond s).calibration = s.calibration :=
  by unfold coastSecond; (repeat' split) <;> simp
@[simp] theorem coastSecond_evaluator (s : State) : (coastSecond s).evaluator = s.evaluator :=
  by unfold coastSecond; (repeat' split) <;> simp
@[simp] theorem coastSecond_schedule (s : State) : (coastSecond s).schedule = s.schedule :=
  by unfold coastSecond; (repeat' split) <;> simp
@[simp] theorem coastSecond_loop (s : State) : (coastSecond s).loop = s.loop :=
  by unfold coastSecond; (repeat' split) <;> simp
@[simp] theorem coastSecond_command (s : State) : (coastSecond s).command = s.command :=
  by unfold coastSecond; (repeat' split) <;> simp
@[simp] theorem coastSecond_events (s : State) : (coastSecond s).events = s.events :=
  by unfold coastSecond; (repeat' split) <;> simp
@[simp] theorem coastSecond_pending (s : State) : (coastSecond s).pending = s.pending :=
  by unfold coastSecond; (repeat' split) <;> simp

@[simp] theorem climateSecond_resetHeld (s : State) : (climateSecond s).resetHeld = s.resetHeld :=
  by unfold climateSecond; (repeat' split) <;> simp
@[simp] theorem climateSecond_plp (s : State) : (climateSecond s).plp = s.plp :=
  by unfold climateSecond; (repeat' split) <;> simp
@[simp] theorem climateSecond_lineParams (s : State) : (climateSecond s).lineParams = s.lineParams :=
  by unfold climateSecond; (repeat' split) <;> simp
@[simp] theorem climateSecond_survey (s : State) : (climateSecond s).survey = s.survey :=
  by unfold climateSecond; (repeat' split) <;> simp
@[simp] theorem climateSecond_calibration (s : State) : (climateSecond s).calibration = s.calibration :=
  by unfold climateSecond; (repeat' split) <;> simp
@[simp] theorem climateSecond_evaluator (s : State) : (climateSecond s).evaluator = s.evaluator :=
  by unfold climateSecond; (repeat' split) <;> simp
@[simp] theorem climateSecond_schedule (s : State) : (climateSecond s).schedule = s.schedule :=
  by unfold climateSecond; (repeat' split) <;> simp
@[simp] theorem climateSecond_command (s : State) : (climateSecond s).command = s.command :=
  by unfold climateSecond; (repeat' split) <;> simp
@[simp] theorem climateSecond_pending (s : State) : (climateSecond s).pending = s.pending :=
  by unfold climateSecond; (repeat' split) <;> simp

@[simp] theorem probeWrite_resetHeld (args : List Byte) (s : State) : (probeWrite args s).state.resetHeld = s.resetHeld :=
  by unfold probeWrite; (repeat' split) <;> simp
@[simp] theorem probeWrite_plp (args : List Byte) (s : State) : (probeWrite args s).state.plp = s.plp :=
  by unfold probeWrite; (repeat' split) <;> simp
@[simp] theorem probeWrite_lineParams (args : List Byte) (s : State) : (probeWrite args s).state.lineParams = s.lineParams :=
  by unfold probeWrite; (repeat' split) <;> simp
@[simp] theorem probeWrite_survey (args : List Byte) (s : State) : (probeWrite args s).state.survey = s.survey :=
  by unfold probeWrite; (repeat' split) <;> simp
@[simp] theorem probeWrite_calibration (args : List Byte) (s : State) : (probeWrite args s).state.calibration = s.calibration :=
  by unfold probeWrite; (repeat' split) <;> simp
@[simp] theorem probeWrite_evaluator (args : List Byte) (s : State) : (probeWrite args s).state.evaluator = s.evaluator :=
  by unfold probeWrite; (repeat' split) <;> simp
@[simp] theorem probeWrite_schedule (args : List Byte) (s : State) : (probeWrite args s).state.schedule = s.schedule :=
  by unfold probeWrite; (repeat' split) <;> simp
@[simp] theorem probeWrite_climate (args : List Byte) (s : State) : (probeWrite args s).state.climate = s.climate :=
  by unfold probeWrite; (repeat' split) <;> simp
@[simp] theorem probeWrite_outputs (args : List Byte) (s : State) : (probeWrite args s).state.outputs = s.outputs :=
  by unfold probeWrite; (repeat' split) <;> simp
@[simp] theorem probeWrite_loop (args : List Byte) (s : State) : (probeWrite args s).state.loop = s.loop :=
  by unfold probeWrite; (repeat' split) <;> simp
@[simp] theorem probeWrite_command (args : List Byte) (s : State) : (probeWrite args s).state.command = s.command :=
  by unfold probeWrite; (repeat' split) <;> simp
@[simp] theorem probeWrite_events (args : List Byte) (s : State) : (probeWrite args s).state.events = s.events :=
  by unfold probeWrite; (repeat' split) <;> simp
@[simp] theorem probeWrite_pending (args : List Byte) (s : State) : (probeWrite args s).state.pending = s.pending :=
  by unfold probeWrite; (repeat' split) <;> simp

@[simp] theorem airWrite_resetHeld (args : List Byte) (s : State) : (airWrite args s).state.resetHeld = s.resetHeld :=
  by unfold airWrite; (repeat' split) <;> simp
@[simp] theorem airWrite_plp (args : List Byte) (s : State) : (airWrite args s).state.plp = s.plp :=
  by unfold airWrite; (repeat' split) <;> simp
@[simp] theorem airWrite_lineParams (args : List Byte) (s : State) : (airWrite args s).state.lineParams = s.lineParams :=
  by unfold airWrite; (repeat' split) <;> simp
@[simp] theorem airWrite_survey (args : List Byte) (s : State) : (airWrite args s).state.survey = s.survey :=
  by unfold airWrite; (repeat' split) <;> simp
@[simp] theorem airWrite_calibration (args : List Byte) (s : State) : (airWrite args s).state.calibration = s.calibration :=
  by unfold airWrite; (repeat' split) <;> simp
@[simp] theorem airWrite_evaluator (args : List Byte) (s : State) : (airWrite args s).state.evaluator = s.evaluator :=
  by unfold airWrite; (repeat' split) <;> simp
@[simp] theorem airWrite_schedule (args : List Byte) (s : State) : (airWrite args s).state.schedule = s.schedule :=
  by unfold airWrite; (repeat' split) <;> simp
@[simp] theorem airWrite_climate (args : List Byte) (s : State) : (airWrite args s).state.climate = s.climate :=
  by unfold airWrite; (repeat' split) <;> simp
@[simp] theorem airWrite_outputs (args : List Byte) (s : State) : (airWrite args s).state.outputs = s.outputs :=
  by unfold airWrite; (repeat' split) <;> simp
@[simp] theorem airWrite_loop (args : List Byte) (s : State) : (airWrite args s).state.loop = s.loop :=
  by unfold airWrite; (repeat' split) <;> simp
@[simp] theorem airWrite_command (args : List Byte) (s : State) : (airWrite args s).state.command = s.command :=
  by unfold airWrite; (repeat' split) <;> simp
@[simp] theorem airWrite_events (args : List Byte) (s : State) : (airWrite args s).state.events = s.events :=
  by unfold airWrite; (repeat' split) <;> simp
@[simp] theorem airWrite_pending (args : List Byte) (s : State) : (airWrite args s).state.pending = s.pending :=
  by unfold airWrite; (repeat' split) <;> simp

@[simp] theorem actuatorWrite_resetHeld (args : List Byte) (s : State) : (actuatorWrite args s).state.resetHeld = s.resetHeld :=
  by unfold actuatorWrite; (repeat' split) <;> simp
@[simp] theorem actuatorWrite_plp (args : List Byte) (s : State) : (actuatorWrite args s).state.plp = s.plp :=
  by unfold actuatorWrite; (repeat' split) <;> simp
@[simp] theorem actuatorWrite_lineParams (args : List Byte) (s : State) : (actuatorWrite args s).state.lineParams = s.lineParams :=
  by unfold actuatorWrite; (repeat' split) <;> simp
@[simp] theorem actuatorWrite_nodes (args : List Byte) (s : State) : (actuatorWrite args s).state.nodes = s.nodes :=
  by unfold actuatorWrite; (repeat' split) <;> simp
@[simp] theorem actuatorWrite_survey (args : List Byte) (s : State) : (actuatorWrite args s).state.survey = s.survey :=
  by unfold actuatorWrite; (repeat' split) <;> simp
@[simp] theorem actuatorWrite_calibration (args : List Byte) (s : State) : (actuatorWrite args s).state.calibration = s.calibration :=
  by unfold actuatorWrite; (repeat' split) <;> simp
@[simp] theorem actuatorWrite_evaluator (args : List Byte) (s : State) : (actuatorWrite args s).state.evaluator = s.evaluator :=
  by unfold actuatorWrite; (repeat' split) <;> simp
@[simp] theorem actuatorWrite_schedule (args : List Byte) (s : State) : (actuatorWrite args s).state.schedule = s.schedule :=
  by unfold actuatorWrite; (repeat' split) <;> simp
@[simp] theorem actuatorWrite_climate (args : List Byte) (s : State) : (actuatorWrite args s).state.climate = s.climate :=
  by unfold actuatorWrite; (repeat' split) <;> simp
@[simp] theorem actuatorWrite_loop (args : List Byte) (s : State) : (actuatorWrite args s).state.loop = s.loop :=
  by unfold actuatorWrite; (repeat' split) <;> simp
@[simp] theorem actuatorWrite_command (args : List Byte) (s : State) : (actuatorWrite args s).state.command = s.command :=
  by unfold actuatorWrite; (repeat' split) <;> simp
@[simp] theorem actuatorWrite_events (args : List Byte) (s : State) : (actuatorWrite args s).state.events = s.events :=
  by unfold actuatorWrite; (repeat' split) <;> simp
@[simp] theorem actuatorWrite_pending (args : List Byte) (s : State) : (actuatorWrite args s).state.pending = s.pending :=
  by unfold actuatorWrite; (repeat' split) <;> simp

@[simp] theorem calibrationWrite_resetHeld (args : List Byte) (s : State) : (calibrationWrite args s).state.resetHeld = s.resetHeld :=
  by unfold calibrationWrite; (repeat' split) <;> simp
@[simp] theorem calibrationWrite_plp (args : List Byte) (s : State) : (calibrationWrite args s).state.plp = s.plp :=
  by unfold calibrationWrite; (repeat' split) <;> simp
@[simp] theorem calibrationWrite_line (args : List Byte) (s : State) : (calibrationWrite args s).state.line = s.line :=
  by unfold calibrationWrite; (repeat' split) <;> simp
@[simp] theorem calibrationWrite_lineParams (args : List Byte) (s : State) : (calibrationWrite args s).state.lineParams = s.lineParams :=
  by unfold calibrationWrite; (repeat' split) <;> simp
@[simp] theorem calibrationWrite_nodes (args : List Byte) (s : State) : (calibrationWrite args s).state.nodes = s.nodes :=
  by unfold calibrationWrite; (repeat' split) <;> simp
@[simp] theorem calibrationWrite_survey (args : List Byte) (s : State) : (calibrationWrite args s).state.survey = s.survey :=
  by unfold calibrationWrite; (repeat' split) <;> simp
@[simp] theorem calibrationWrite_evaluator (args : List Byte) (s : State) : (calibrationWrite args s).state.evaluator = s.evaluator :=
  by unfold calibrationWrite; (repeat' split) <;> simp
@[simp] theorem calibrationWrite_schedule (args : List Byte) (s : State) : (calibrationWrite args s).state.schedule = s.schedule :=
  by unfold calibrationWrite; (repeat' split) <;> simp
@[simp] theorem calibrationWrite_climate (args : List Byte) (s : State) : (calibrationWrite args s).state.climate = s.climate :=
  by unfold calibrationWrite; (repeat' split) <;> simp
@[simp] theorem calibrationWrite_outputs (args : List Byte) (s : State) : (calibrationWrite args s).state.outputs = s.outputs :=
  by unfold calibrationWrite; (repeat' split) <;> simp
@[simp] theorem calibrationWrite_loop (args : List Byte) (s : State) : (calibrationWrite args s).state.loop = s.loop :=
  by unfold calibrationWrite; (repeat' split) <;> simp
@[simp] theorem calibrationWrite_command (args : List Byte) (s : State) : (calibrationWrite args s).state.command = s.command :=
  by unfold calibrationWrite; (repeat' split) <;> simp
@[simp] theorem calibrationWrite_events (args : List Byte) (s : State) : (calibrationWrite args s).state.events = s.events :=
  by unfold calibrationWrite; (repeat' split) <;> simp
@[simp] theorem calibrationWrite_pending (args : List Byte) (s : State) : (calibrationWrite args s).state.pending = s.pending :=
  by unfold calibrationWrite; (repeat' split) <;> simp

@[simp] theorem scheduleWrite_resetHeld (args : List Byte) (s : State) : (scheduleWrite args s).state.resetHeld = s.resetHeld :=
  by unfold scheduleWrite; (repeat' split) <;> simp
@[simp] theorem scheduleWrite_plp (args : List Byte) (s : State) : (scheduleWrite args s).state.plp = s.plp :=
  by unfold scheduleWrite; (repeat' split) <;> simp
@[simp] theorem scheduleWrite_line (args : List Byte) (s : State) : (scheduleWrite args s).state.line = s.line :=
  by unfold scheduleWrite; (repeat' split) <;> simp
@[simp] theorem scheduleWrite_lineParams (args : List Byte) (s : State) : (scheduleWrite args s).state.lineParams = s.lineParams :=
  by unfold scheduleWrite; (repeat' split) <;> simp
@[simp] theorem scheduleWrite_nodes (args : List Byte) (s : State) : (scheduleWrite args s).state.nodes = s.nodes :=
  by unfold scheduleWrite; (repeat' split) <;> simp
@[simp] theorem scheduleWrite_survey (args : List Byte) (s : State) : (scheduleWrite args s).state.survey = s.survey :=
  by unfold scheduleWrite; (repeat' split) <;> simp
@[simp] theorem scheduleWrite_calibration (args : List Byte) (s : State) : (scheduleWrite args s).state.calibration = s.calibration :=
  by unfold scheduleWrite; (repeat' split) <;> simp
@[simp] theorem scheduleWrite_evaluator (args : List Byte) (s : State) : (scheduleWrite args s).state.evaluator = s.evaluator :=
  by unfold scheduleWrite; (repeat' split) <;> simp
@[simp] theorem scheduleWrite_climate (args : List Byte) (s : State) : (scheduleWrite args s).state.climate = s.climate :=
  by unfold scheduleWrite; (repeat' split) <;> simp
@[simp] theorem scheduleWrite_outputs (args : List Byte) (s : State) : (scheduleWrite args s).state.outputs = s.outputs :=
  by unfold scheduleWrite; (repeat' split) <;> simp
@[simp] theorem scheduleWrite_loop (args : List Byte) (s : State) : (scheduleWrite args s).state.loop = s.loop :=
  by unfold scheduleWrite; (repeat' split) <;> simp
@[simp] theorem scheduleWrite_command (args : List Byte) (s : State) : (scheduleWrite args s).state.command = s.command :=
  by unfold scheduleWrite; (repeat' split) <;> simp
@[simp] theorem scheduleWrite_events (args : List Byte) (s : State) : (scheduleWrite args s).state.events = s.events :=
  by unfold scheduleWrite; (repeat' split) <;> simp
@[simp] theorem scheduleWrite_pending (args : List Byte) (s : State) : (scheduleWrite args s).state.pending = s.pending :=
  by unfold scheduleWrite; (repeat' split) <;> simp

@[simp] theorem chargeParamsWrite_resetHeld (args : List Byte) (s : State) : (chargeParamsWrite args s).state.resetHeld = s.resetHeld :=
  by unfold chargeParamsWrite; (repeat' split) <;> simp
@[simp] theorem chargeParamsWrite_plp (args : List Byte) (s : State) : (chargeParamsWrite args s).state.plp = s.plp :=
  by unfold chargeParamsWrite; (repeat' split) <;> simp
@[simp] theorem chargeParamsWrite_line (args : List Byte) (s : State) : (chargeParamsWrite args s).state.line = s.line :=
  by unfold chargeParamsWrite; (repeat' split) <;> simp
@[simp] theorem chargeParamsWrite_lineParams (args : List Byte) (s : State) : (chargeParamsWrite args s).state.lineParams = s.lineParams :=
  by unfold chargeParamsWrite; (repeat' split) <;> simp
@[simp] theorem chargeParamsWrite_nodes (args : List Byte) (s : State) : (chargeParamsWrite args s).state.nodes = s.nodes :=
  by unfold chargeParamsWrite; (repeat' split) <;> simp
@[simp] theorem chargeParamsWrite_survey (args : List Byte) (s : State) : (chargeParamsWrite args s).state.survey = s.survey :=
  by unfold chargeParamsWrite; (repeat' split) <;> simp
@[simp] theorem chargeParamsWrite_calibration (args : List Byte) (s : State) : (chargeParamsWrite args s).state.calibration = s.calibration :=
  by unfold chargeParamsWrite; (repeat' split) <;> simp
@[simp] theorem chargeParamsWrite_evaluator (args : List Byte) (s : State) : (chargeParamsWrite args s).state.evaluator = s.evaluator :=
  by unfold chargeParamsWrite; (repeat' split) <;> simp
@[simp] theorem chargeParamsWrite_climate (args : List Byte) (s : State) : (chargeParamsWrite args s).state.climate = s.climate :=
  by unfold chargeParamsWrite; (repeat' split) <;> simp
@[simp] theorem chargeParamsWrite_outputs (args : List Byte) (s : State) : (chargeParamsWrite args s).state.outputs = s.outputs :=
  by unfold chargeParamsWrite; (repeat' split) <;> simp
@[simp] theorem chargeParamsWrite_loop (args : List Byte) (s : State) : (chargeParamsWrite args s).state.loop = s.loop :=
  by unfold chargeParamsWrite; (repeat' split) <;> simp
@[simp] theorem chargeParamsWrite_command (args : List Byte) (s : State) : (chargeParamsWrite args s).state.command = s.command :=
  by unfold chargeParamsWrite; (repeat' split) <;> simp
@[simp] theorem chargeParamsWrite_events (args : List Byte) (s : State) : (chargeParamsWrite args s).state.events = s.events :=
  by unfold chargeParamsWrite; (repeat' split) <;> simp
@[simp] theorem chargeParamsWrite_pending (args : List Byte) (s : State) : (chargeParamsWrite args s).state.pending = s.pending :=
  by unfold chargeParamsWrite; (repeat' split) <;> simp

@[simp] theorem climateParamsWrite_resetHeld (args : List Byte) (s : State) : (climateParamsWrite args s).state.resetHeld = s.resetHeld :=
  by unfold climateParamsWrite; (repeat' split) <;> simp
@[simp] theorem climateParamsWrite_plp (args : List Byte) (s : State) : (climateParamsWrite args s).state.plp = s.plp :=
  by unfold climateParamsWrite; (repeat' split) <;> simp
@[simp] theorem climateParamsWrite_line (args : List Byte) (s : State) : (climateParamsWrite args s).state.line = s.line :=
  by unfold climateParamsWrite; (repeat' split) <;> simp
@[simp] theorem climateParamsWrite_lineParams (args : List Byte) (s : State) : (climateParamsWrite args s).state.lineParams = s.lineParams :=
  by unfold climateParamsWrite; (repeat' split) <;> simp
@[simp] theorem climateParamsWrite_nodes (args : List Byte) (s : State) : (climateParamsWrite args s).state.nodes = s.nodes :=
  by unfold climateParamsWrite; (repeat' split) <;> simp
@[simp] theorem climateParamsWrite_survey (args : List Byte) (s : State) : (climateParamsWrite args s).state.survey = s.survey :=
  by unfold climateParamsWrite; (repeat' split) <;> simp
@[simp] theorem climateParamsWrite_calibration (args : List Byte) (s : State) : (climateParamsWrite args s).state.calibration = s.calibration :=
  by unfold climateParamsWrite; (repeat' split) <;> simp
@[simp] theorem climateParamsWrite_evaluator (args : List Byte) (s : State) : (climateParamsWrite args s).state.evaluator = s.evaluator :=
  by unfold climateParamsWrite; (repeat' split) <;> simp
@[simp] theorem climateParamsWrite_schedule (args : List Byte) (s : State) : (climateParamsWrite args s).state.schedule = s.schedule :=
  by unfold climateParamsWrite; (repeat' split) <;> simp
@[simp] theorem climateParamsWrite_outputs (args : List Byte) (s : State) : (climateParamsWrite args s).state.outputs = s.outputs :=
  by unfold climateParamsWrite; (repeat' split) <;> simp
@[simp] theorem climateParamsWrite_loop (args : List Byte) (s : State) : (climateParamsWrite args s).state.loop = s.loop :=
  by unfold climateParamsWrite; (repeat' split) <;> simp
@[simp] theorem climateParamsWrite_command (args : List Byte) (s : State) : (climateParamsWrite args s).state.command = s.command :=
  by unfold climateParamsWrite; (repeat' split) <;> simp
@[simp] theorem climateParamsWrite_events (args : List Byte) (s : State) : (climateParamsWrite args s).state.events = s.events :=
  by unfold climateParamsWrite; (repeat' split) <;> simp
@[simp] theorem climateParamsWrite_pending (args : List Byte) (s : State) : (climateParamsWrite args s).state.pending = s.pending :=
  by unfold climateParamsWrite; (repeat' split) <;> simp

@[simp] theorem lineParamsWrite_resetHeld (args : List Byte) (s : State) : (lineParamsWrite args s).state.resetHeld = s.resetHeld :=
  by unfold lineParamsWrite; (repeat' split) <;> simp
@[simp] theorem lineParamsWrite_plp (args : List Byte) (s : State) : (lineParamsWrite args s).state.plp = s.plp :=
  by unfold lineParamsWrite; (repeat' split) <;> simp
@[simp] theorem lineParamsWrite_line (args : List Byte) (s : State) : (lineParamsWrite args s).state.line = s.line :=
  by unfold lineParamsWrite; (repeat' split) <;> simp
@[simp] theorem lineParamsWrite_nodes (args : List Byte) (s : State) : (lineParamsWrite args s).state.nodes = s.nodes :=
  by unfold lineParamsWrite; (repeat' split) <;> simp
@[simp] theorem lineParamsWrite_survey (args : List Byte) (s : State) : (lineParamsWrite args s).state.survey = s.survey :=
  by unfold lineParamsWrite; (repeat' split) <;> simp
@[simp] theorem lineParamsWrite_calibration (args : List Byte) (s : State) : (lineParamsWrite args s).state.calibration = s.calibration :=
  by unfold lineParamsWrite; (repeat' split) <;> simp
@[simp] theorem lineParamsWrite_evaluator (args : List Byte) (s : State) : (lineParamsWrite args s).state.evaluator = s.evaluator :=
  by unfold lineParamsWrite; (repeat' split) <;> simp
@[simp] theorem lineParamsWrite_schedule (args : List Byte) (s : State) : (lineParamsWrite args s).state.schedule = s.schedule :=
  by unfold lineParamsWrite; (repeat' split) <;> simp
@[simp] theorem lineParamsWrite_climate (args : List Byte) (s : State) : (lineParamsWrite args s).state.climate = s.climate :=
  by unfold lineParamsWrite; (repeat' split) <;> simp
@[simp] theorem lineParamsWrite_outputs (args : List Byte) (s : State) : (lineParamsWrite args s).state.outputs = s.outputs :=
  by unfold lineParamsWrite; (repeat' split) <;> simp
@[simp] theorem lineParamsWrite_loop (args : List Byte) (s : State) : (lineParamsWrite args s).state.loop = s.loop :=
  by unfold lineParamsWrite; (repeat' split) <;> simp
@[simp] theorem lineParamsWrite_command (args : List Byte) (s : State) : (lineParamsWrite args s).state.command = s.command :=
  by unfold lineParamsWrite; (repeat' split) <;> simp
@[simp] theorem lineParamsWrite_events (args : List Byte) (s : State) : (lineParamsWrite args s).state.events = s.events :=
  by unfold lineParamsWrite; (repeat' split) <;> simp
@[simp] theorem lineParamsWrite_pending (args : List Byte) (s : State) : (lineParamsWrite args s).state.pending = s.pending :=
  by unfold lineParamsWrite; (repeat' split) <;> simp

@[simp] theorem passListWrite_resetHeld (args : List Byte) (s : State) : (passListWrite args s).state.resetHeld = s.resetHeld :=
  by unfold passListWrite; (repeat' split) <;> simp
@[simp] theorem passListWrite_plp (args : List Byte) (s : State) : (passListWrite args s).state.plp = s.plp :=
  by unfold passListWrite; (repeat' split) <;> simp
@[simp] theorem passListWrite_line (args : List Byte) (s : State) : (passListWrite args s).state.line = s.line :=
  by unfold passListWrite; (repeat' split) <;> simp
@[simp] theorem passListWrite_lineParams (args : List Byte) (s : State) : (passListWrite args s).state.lineParams = s.lineParams :=
  by unfold passListWrite; (repeat' split) <;> simp
@[simp] theorem passListWrite_nodes (args : List Byte) (s : State) : (passListWrite args s).state.nodes = s.nodes :=
  by unfold passListWrite; (repeat' split) <;> simp
@[simp] theorem passListWrite_survey (args : List Byte) (s : State) : (passListWrite args s).state.survey = s.survey :=
  by unfold passListWrite; (repeat' split) <;> simp
@[simp] theorem passListWrite_calibration (args : List Byte) (s : State) : (passListWrite args s).state.calibration = s.calibration :=
  by unfold passListWrite; (repeat' split) <;> simp
@[simp] theorem passListWrite_evaluator (args : List Byte) (s : State) : (passListWrite args s).state.evaluator = s.evaluator :=
  by unfold passListWrite; (repeat' split) <;> simp
@[simp] theorem passListWrite_schedule (args : List Byte) (s : State) : (passListWrite args s).state.schedule = s.schedule :=
  by unfold passListWrite; (repeat' split) <;> simp
@[simp] theorem passListWrite_climate (args : List Byte) (s : State) : (passListWrite args s).state.climate = s.climate :=
  by unfold passListWrite; (repeat' split) <;> simp
@[simp] theorem passListWrite_outputs (args : List Byte) (s : State) : (passListWrite args s).state.outputs = s.outputs :=
  by unfold passListWrite; (repeat' split) <;> simp
@[simp] theorem passListWrite_command (args : List Byte) (s : State) : (passListWrite args s).state.command = s.command :=
  by unfold passListWrite; (repeat' split) <;> simp
@[simp] theorem passListWrite_events (args : List Byte) (s : State) : (passListWrite args s).state.events = s.events :=
  by unfold passListWrite; (repeat' split) <;> simp
@[simp] theorem passListWrite_pending (args : List Byte) (s : State) : (passListWrite args s).state.pending = s.pending :=
  by unfold passListWrite; (repeat' split) <;> simp

@[simp] theorem startCharge_resetHeld (s : State) : (startCharge s).state.resetHeld = s.resetHeld :=
  by unfold startCharge; (repeat' split) <;> simp
@[simp] theorem startCharge_plp (s : State) : (startCharge s).state.plp = s.plp :=
  by unfold startCharge; (repeat' split) <;> simp
@[simp] theorem startCharge_line (s : State) : (startCharge s).state.line = s.line :=
  by unfold startCharge; (repeat' split) <;> simp
@[simp] theorem startCharge_lineParams (s : State) : (startCharge s).state.lineParams = s.lineParams :=
  by unfold startCharge; (repeat' split) <;> simp
@[simp] theorem startCharge_nodes (s : State) : (startCharge s).state.nodes = s.nodes :=
  by unfold startCharge; (repeat' split) <;> simp
@[simp] theorem startCharge_survey (s : State) : (startCharge s).state.survey = s.survey :=
  by unfold startCharge; (repeat' split) <;> simp
@[simp] theorem startCharge_calibration (s : State) : (startCharge s).state.calibration = s.calibration :=
  by unfold startCharge; (repeat' split) <;> simp
@[simp] theorem startCharge_loop (s : State) : (startCharge s).state.loop = s.loop :=
  by unfold startCharge; (repeat' split) <;> simp
@[simp] theorem startCharge_command (s : State) : (startCharge s).state.command = s.command :=
  by unfold startCharge; (repeat' split) <;> simp
@[simp] theorem startCharge_events (s : State) : (startCharge s).state.events = s.events :=
  by unfold startCharge; (repeat' split) <;> simp
@[simp] theorem startCharge_pending (s : State) : (startCharge s).state.pending = s.pending :=
  by unfold startCharge; (repeat' split) <;> simp

@[simp] theorem hold_resetHeld (s : State) : (hold s).state.resetHeld = s.resetHeld :=
  by unfold hold; (repeat' split) <;> simp
@[simp] theorem hold_plp (s : State) : (hold s).state.plp = s.plp := by unfold hold; (repeat' split) <;> simp
@[simp] theorem hold_line (s : State) : (hold s).state.line = s.line :=
  by unfold hold; (repeat' split) <;> simp
@[simp] theorem hold_lineParams (s : State) : (hold s).state.lineParams = s.lineParams :=
  by unfold hold; (repeat' split) <;> simp
@[simp] theorem hold_nodes (s : State) : (hold s).state.nodes = s.nodes :=
  by unfold hold; (repeat' split) <;> simp
@[simp] theorem hold_survey (s : State) : (hold s).state.survey = s.survey :=
  by unfold hold; (repeat' split) <;> simp
@[simp] theorem hold_calibration (s : State) : (hold s).state.calibration = s.calibration :=
  by unfold hold; (repeat' split) <;> simp
@[simp] theorem hold_evaluator (s : State) : (hold s).state.evaluator = s.evaluator :=
  by unfold hold; (repeat' split) <;> simp
@[simp] theorem hold_climate (s : State) : (hold s).state.climate = s.climate :=
  by unfold hold; (repeat' split) <;> simp
@[simp] theorem hold_outputs (s : State) : (hold s).state.outputs = s.outputs :=
  by unfold hold; (repeat' split) <;> simp
@[simp] theorem hold_command (s : State) : (hold s).state.command = s.command :=
  by unfold hold; (repeat' split) <;> simp
@[simp] theorem hold_pending (s : State) : (hold s).state.pending = s.pending :=
  by unfold hold; (repeat' split) <;> simp

@[simp] theorem resume_resetHeld (s : State) : (resume s).state.resetHeld = s.resetHeld :=
  by unfold resume; (repeat' split) <;> simp
@[simp] theorem resume_plp (s : State) : (resume s).state.plp = s.plp :=
  by unfold resume; (repeat' split) <;> simp
@[simp] theorem resume_line (s : State) : (resume s).state.line = s.line :=
  by unfold resume; (repeat' split) <;> simp
@[simp] theorem resume_lineParams (s : State) : (resume s).state.lineParams = s.lineParams :=
  by unfold resume; (repeat' split) <;> simp
@[simp] theorem resume_nodes (s : State) : (resume s).state.nodes = s.nodes :=
  by unfold resume; (repeat' split) <;> simp
@[simp] theorem resume_survey (s : State) : (resume s).state.survey = s.survey :=
  by unfold resume; (repeat' split) <;> simp
@[simp] theorem resume_calibration (s : State) : (resume s).state.calibration = s.calibration :=
  by unfold resume; (repeat' split) <;> simp
@[simp] theorem resume_evaluator (s : State) : (resume s).state.evaluator = s.evaluator :=
  by unfold resume; (repeat' split) <;> simp
@[simp] theorem resume_climate (s : State) : (resume s).state.climate = s.climate :=
  by unfold resume; (repeat' split) <;> simp
@[simp] theorem resume_outputs (s : State) : (resume s).state.outputs = s.outputs :=
  by unfold resume; (repeat' split) <;> simp
@[simp] theorem resume_loop (s : State) : (resume s).state.loop = s.loop :=
  by unfold resume; (repeat' split) <;> simp
@[simp] theorem resume_command (s : State) : (resume s).state.command = s.command :=
  by unfold resume; (repeat' split) <;> simp
@[simp] theorem resume_events (s : State) : (resume s).state.events = s.events :=
  by unfold resume; (repeat' split) <;> simp
@[simp] theorem resume_pending (s : State) : (resume s).state.pending = s.pending :=
  by unfold resume; (repeat' split) <;> simp

@[simp] theorem advance_resetHeld (s : State) : (advance s).state.resetHeld = s.resetHeld :=
  by unfold advance; (repeat' split) <;> simp
@[simp] theorem advance_plp (s : State) : (advance s).state.plp = s.plp :=
  by unfold advance; (repeat' split) <;> simp
@[simp] theorem advance_line (s : State) : (advance s).state.line = s.line :=
  by unfold advance; (repeat' split) <;> simp
@[simp] theorem advance_lineParams (s : State) : (advance s).state.lineParams = s.lineParams :=
  by unfold advance; (repeat' split) <;> simp
@[simp] theorem advance_nodes (s : State) : (advance s).state.nodes = s.nodes :=
  by unfold advance; (repeat' split) <;> simp
@[simp] theorem advance_survey (s : State) : (advance s).state.survey = s.survey :=
  by unfold advance; (repeat' split) <;> simp
@[simp] theorem advance_calibration (s : State) : (advance s).state.calibration = s.calibration :=
  by unfold advance; (repeat' split) <;> simp
@[simp] theorem advance_evaluator (s : State) : (advance s).state.evaluator = s.evaluator :=
  by unfold advance; (repeat' split) <;> simp
@[simp] theorem advance_command (s : State) : (advance s).state.command = s.command :=
  by unfold advance; (repeat' split) <;> simp
@[simp] theorem advance_pending (s : State) : (advance s).state.pending = s.pending :=
  by unfold advance; (repeat' split) <;> simp

@[simp] theorem setStep_resetHeld (args : List Byte) (s : State) : (setStep args s).state.resetHeld = s.resetHeld :=
  by unfold setStep; (repeat' split) <;> simp
@[simp] theorem setStep_plp (args : List Byte) (s : State) : (setStep args s).state.plp = s.plp :=
  by unfold setStep; (repeat' split) <;> simp
@[simp] theorem setStep_line (args : List Byte) (s : State) : (setStep args s).state.line = s.line :=
  by unfold setStep; (repeat' split) <;> simp
@[simp] theorem setStep_lineParams (args : List Byte) (s : State) : (setStep args s).state.lineParams = s.lineParams :=
  by unfold setStep; (repeat' split) <;> simp
@[simp] theorem setStep_nodes (args : List Byte) (s : State) : (setStep args s).state.nodes = s.nodes :=
  by unfold setStep; (repeat' split) <;> simp
@[simp] theorem setStep_survey (args : List Byte) (s : State) : (setStep args s).state.survey = s.survey :=
  by unfold setStep; (repeat' split) <;> simp
@[simp] theorem setStep_calibration (args : List Byte) (s : State) : (setStep args s).state.calibration = s.calibration :=
  by unfold setStep; (repeat' split) <;> simp
@[simp] theorem setStep_evaluator (args : List Byte) (s : State) : (setStep args s).state.evaluator = s.evaluator :=
  by unfold setStep; (repeat' split) <;> simp
@[simp] theorem setStep_climate (args : List Byte) (s : State) : (setStep args s).state.climate = s.climate :=
  by unfold setStep; (repeat' split) <;> simp
@[simp] theorem setStep_outputs (args : List Byte) (s : State) : (setStep args s).state.outputs = s.outputs :=
  by unfold setStep; (repeat' split) <;> simp
@[simp] theorem setStep_command (args : List Byte) (s : State) : (setStep args s).state.command = s.command :=
  by unfold setStep; (repeat' split) <;> simp
@[simp] theorem setStep_pending (args : List Byte) (s : State) : (setStep args s).state.pending = s.pending :=
  by unfold setStep; (repeat' split) <;> simp

@[simp] theorem abortCharge_resetHeld (s : State) : (abortCharge s).state.resetHeld = s.resetHeld :=
  by unfold abortCharge; (repeat' split) <;> simp
@[simp] theorem abortCharge_plp (s : State) : (abortCharge s).state.plp = s.plp :=
  by unfold abortCharge; (repeat' split) <;> simp
@[simp] theorem abortCharge_line (s : State) : (abortCharge s).state.line = s.line :=
  by unfold abortCharge; (repeat' split) <;> simp
@[simp] theorem abortCharge_lineParams (s : State) : (abortCharge s).state.lineParams = s.lineParams :=
  by unfold abortCharge; (repeat' split) <;> simp
@[simp] theorem abortCharge_nodes (s : State) : (abortCharge s).state.nodes = s.nodes :=
  by unfold abortCharge; (repeat' split) <;> simp
@[simp] theorem abortCharge_survey (s : State) : (abortCharge s).state.survey = s.survey :=
  by unfold abortCharge; (repeat' split) <;> simp
@[simp] theorem abortCharge_calibration (s : State) : (abortCharge s).state.calibration = s.calibration :=
  by unfold abortCharge; (repeat' split) <;> simp
@[simp] theorem abortCharge_evaluator (s : State) : (abortCharge s).state.evaluator = s.evaluator :=
  by unfold abortCharge; (repeat' split) <;> simp
@[simp] theorem abortCharge_command (s : State) : (abortCharge s).state.command = s.command :=
  by unfold abortCharge; (repeat' split) <;> simp
@[simp] theorem abortCharge_pending (s : State) : (abortCharge s).state.pending = s.pending :=
  by unfold abortCharge; (repeat' split) <;> simp

@[simp] theorem amend_resetHeld (i : Nat) (r : StepRecord) (b : Bool) (s : State) : (amend i r b s).state.resetHeld = s.resetHeld :=
  by unfold amend; (repeat' split) <;> simp
@[simp] theorem amend_plp (i : Nat) (r : StepRecord) (b : Bool) (s : State) : (amend i r b s).state.plp = s.plp :=
  by unfold amend; (repeat' split) <;> simp
@[simp] theorem amend_line (i : Nat) (r : StepRecord) (b : Bool) (s : State) : (amend i r b s).state.line = s.line :=
  by unfold amend; (repeat' split) <;> simp
@[simp] theorem amend_lineParams (i : Nat) (r : StepRecord) (b : Bool) (s : State) : (amend i r b s).state.lineParams = s.lineParams :=
  by unfold amend; (repeat' split) <;> simp
@[simp] theorem amend_nodes (i : Nat) (r : StepRecord) (b : Bool) (s : State) : (amend i r b s).state.nodes = s.nodes :=
  by unfold amend; (repeat' split) <;> simp
@[simp] theorem amend_survey (i : Nat) (r : StepRecord) (b : Bool) (s : State) : (amend i r b s).state.survey = s.survey :=
  by unfold amend; (repeat' split) <;> simp
@[simp] theorem amend_calibration (i : Nat) (r : StepRecord) (b : Bool) (s : State) : (amend i r b s).state.calibration = s.calibration :=
  by unfold amend; (repeat' split) <;> simp
@[simp] theorem amend_evaluator (i : Nat) (r : StepRecord) (b : Bool) (s : State) : (amend i r b s).state.evaluator = s.evaluator :=
  by unfold amend; (repeat' split) <;> simp
@[simp] theorem amend_climate (i : Nat) (r : StepRecord) (b : Bool) (s : State) : (amend i r b s).state.climate = s.climate :=
  by unfold amend; (repeat' split) <;> simp
@[simp] theorem amend_outputs (i : Nat) (r : StepRecord) (b : Bool) (s : State) : (amend i r b s).state.outputs = s.outputs :=
  by unfold amend; (repeat' split) <;> simp
@[simp] theorem amend_loop (i : Nat) (r : StepRecord) (b : Bool) (s : State) : (amend i r b s).state.loop = s.loop :=
  by unfold amend; (repeat' split) <;> simp
@[simp] theorem amend_command (i : Nat) (r : StepRecord) (b : Bool) (s : State) : (amend i r b s).state.command = s.command :=
  by unfold amend; (repeat' split) <;> simp
@[simp] theorem amend_events (i : Nat) (r : StepRecord) (b : Bool) (s : State) : (amend i r b s).state.events = s.events :=
  by unfold amend; (repeat' split) <;> simp
@[simp] theorem amend_pending (i : Nat) (r : StepRecord) (b : Bool) (s : State) : (amend i r b s).state.pending = s.pending :=
  by unfold amend; (repeat' split) <;> simp

@[simp] theorem stepAmend_resetHeld (args : List Byte) (s : State) : (stepAmend args s).state.resetHeld = s.resetHeld :=
  by unfold stepAmend; (repeat' split) <;> simp
@[simp] theorem stepAmend_plp (args : List Byte) (s : State) : (stepAmend args s).state.plp = s.plp :=
  by unfold stepAmend; (repeat' split) <;> simp
@[simp] theorem stepAmend_line (args : List Byte) (s : State) : (stepAmend args s).state.line = s.line :=
  by unfold stepAmend; (repeat' split) <;> simp
@[simp] theorem stepAmend_lineParams (args : List Byte) (s : State) : (stepAmend args s).state.lineParams = s.lineParams :=
  by unfold stepAmend; (repeat' split) <;> simp
@[simp] theorem stepAmend_nodes (args : List Byte) (s : State) : (stepAmend args s).state.nodes = s.nodes :=
  by unfold stepAmend; (repeat' split) <;> simp
@[simp] theorem stepAmend_survey (args : List Byte) (s : State) : (stepAmend args s).state.survey = s.survey :=
  by unfold stepAmend; (repeat' split) <;> simp
@[simp] theorem stepAmend_calibration (args : List Byte) (s : State) : (stepAmend args s).state.calibration = s.calibration :=
  by unfold stepAmend; (repeat' split) <;> simp
@[simp] theorem stepAmend_evaluator (args : List Byte) (s : State) : (stepAmend args s).state.evaluator = s.evaluator :=
  by unfold stepAmend; (repeat' split) <;> simp
@[simp] theorem stepAmend_climate (args : List Byte) (s : State) : (stepAmend args s).state.climate = s.climate :=
  by unfold stepAmend; (repeat' split) <;> simp
@[simp] theorem stepAmend_outputs (args : List Byte) (s : State) : (stepAmend args s).state.outputs = s.outputs :=
  by unfold stepAmend; (repeat' split) <;> simp
@[simp] theorem stepAmend_loop (args : List Byte) (s : State) : (stepAmend args s).state.loop = s.loop :=
  by unfold stepAmend; (repeat' split) <;> simp
@[simp] theorem stepAmend_command (args : List Byte) (s : State) : (stepAmend args s).state.command = s.command :=
  by unfold stepAmend; (repeat' split) <;> simp
@[simp] theorem stepAmend_events (args : List Byte) (s : State) : (stepAmend args s).state.events = s.events :=
  by unfold stepAmend; (repeat' split) <;> simp
@[simp] theorem stepAmend_pending (args : List Byte) (s : State) : (stepAmend args s).state.pending = s.pending :=
  by unfold stepAmend; (repeat' split) <;> simp

@[simp] theorem overrideCommand_resetHeld (args : List Byte) (s : State) : (overrideCommand args s).state.resetHeld = s.resetHeld :=
  by unfold overrideCommand; (repeat' split) <;> simp
@[simp] theorem overrideCommand_plp (args : List Byte) (s : State) : (overrideCommand args s).state.plp = s.plp :=
  by unfold overrideCommand; (repeat' split) <;> simp
@[simp] theorem overrideCommand_line (args : List Byte) (s : State) : (overrideCommand args s).state.line = s.line :=
  by unfold overrideCommand; (repeat' split) <;> simp
@[simp] theorem overrideCommand_lineParams (args : List Byte) (s : State) : (overrideCommand args s).state.lineParams = s.lineParams :=
  by unfold overrideCommand; (repeat' split) <;> simp
@[simp] theorem overrideCommand_nodes (args : List Byte) (s : State) : (overrideCommand args s).state.nodes = s.nodes :=
  by unfold overrideCommand; (repeat' split) <;> simp
@[simp] theorem overrideCommand_survey (args : List Byte) (s : State) : (overrideCommand args s).state.survey = s.survey :=
  by unfold overrideCommand; (repeat' split) <;> simp
@[simp] theorem overrideCommand_calibration (args : List Byte) (s : State) : (overrideCommand args s).state.calibration = s.calibration :=
  by unfold overrideCommand; (repeat' split) <;> simp
@[simp] theorem overrideCommand_evaluator (args : List Byte) (s : State) : (overrideCommand args s).state.evaluator = s.evaluator :=
  by unfold overrideCommand; (repeat' split) <;> simp
@[simp] theorem overrideCommand_schedule (args : List Byte) (s : State) : (overrideCommand args s).state.schedule = s.schedule :=
  by unfold overrideCommand; (repeat' split) <;> simp
@[simp] theorem overrideCommand_climate (args : List Byte) (s : State) : (overrideCommand args s).state.climate = s.climate :=
  by unfold overrideCommand; (repeat' split) <;> simp
@[simp] theorem overrideCommand_loop (args : List Byte) (s : State) : (overrideCommand args s).state.loop = s.loop :=
  by unfold overrideCommand; (repeat' split) <;> simp
@[simp] theorem overrideCommand_command (args : List Byte) (s : State) : (overrideCommand args s).state.command = s.command :=
  by unfold overrideCommand; (repeat' split) <;> simp
@[simp] theorem overrideCommand_events (args : List Byte) (s : State) : (overrideCommand args s).state.events = s.events :=
  by unfold overrideCommand; (repeat' split) <;> simp
@[simp] theorem overrideCommand_pending (args : List Byte) (s : State) : (overrideCommand args s).state.pending = s.pending :=
  by unfold overrideCommand; (repeat' split) <;> simp

@[simp] theorem wbSelect_resetHeld (args : List Byte) (s : State) : (wbSelect args s).state.resetHeld = s.resetHeld :=
  by unfold wbSelect; (repeat' split) <;> simp
@[simp] theorem wbSelect_plp (args : List Byte) (s : State) : (wbSelect args s).state.plp = s.plp :=
  by unfold wbSelect; (repeat' split) <;> simp
@[simp] theorem wbSelect_line (args : List Byte) (s : State) : (wbSelect args s).state.line = s.line :=
  by unfold wbSelect; (repeat' split) <;> simp
@[simp] theorem wbSelect_lineParams (args : List Byte) (s : State) : (wbSelect args s).state.lineParams = s.lineParams :=
  by unfold wbSelect; (repeat' split) <;> simp
@[simp] theorem wbSelect_survey (args : List Byte) (s : State) : (wbSelect args s).state.survey = s.survey :=
  by unfold wbSelect; (repeat' split) <;> simp
@[simp] theorem wbSelect_calibration (args : List Byte) (s : State) : (wbSelect args s).state.calibration = s.calibration :=
  by unfold wbSelect; (repeat' split) <;> simp
@[simp] theorem wbSelect_evaluator (args : List Byte) (s : State) : (wbSelect args s).state.evaluator = s.evaluator :=
  by unfold wbSelect; (repeat' split) <;> simp
@[simp] theorem wbSelect_schedule (args : List Byte) (s : State) : (wbSelect args s).state.schedule = s.schedule :=
  by unfold wbSelect; (repeat' split) <;> simp
@[simp] theorem wbSelect_climate (args : List Byte) (s : State) : (wbSelect args s).state.climate = s.climate :=
  by unfold wbSelect; (repeat' split) <;> simp
@[simp] theorem wbSelect_outputs (args : List Byte) (s : State) : (wbSelect args s).state.outputs = s.outputs :=
  by unfold wbSelect; (repeat' split) <;> simp
@[simp] theorem wbSelect_loop (args : List Byte) (s : State) : (wbSelect args s).state.loop = s.loop :=
  by unfold wbSelect; (repeat' split) <;> simp
@[simp] theorem wbSelect_command (args : List Byte) (s : State) : (wbSelect args s).state.command = s.command :=
  by unfold wbSelect; (repeat' split) <;> simp
@[simp] theorem wbSelect_events (args : List Byte) (s : State) : (wbSelect args s).state.events = s.events :=
  by unfold wbSelect; (repeat' split) <;> simp
@[simp] theorem wbSelect_pending (args : List Byte) (s : State) : (wbSelect args s).state.pending = s.pending :=
  by unfold wbSelect; (repeat' split) <;> simp

@[simp] theorem surveyStart_resetHeld (s : State) : (surveyStart s).state.resetHeld = s.resetHeld :=
  by unfold surveyStart; (repeat' split) <;> simp
@[simp] theorem surveyStart_plp (s : State) : (surveyStart s).state.plp = s.plp :=
  by unfold surveyStart; (repeat' split) <;> simp
@[simp] theorem surveyStart_line (s : State) : (surveyStart s).state.line = s.line :=
  by unfold surveyStart; (repeat' split) <;> simp
@[simp] theorem surveyStart_lineParams (s : State) : (surveyStart s).state.lineParams = s.lineParams :=
  by unfold surveyStart; (repeat' split) <;> simp
@[simp] theorem surveyStart_nodes (s : State) : (surveyStart s).state.nodes = s.nodes :=
  by unfold surveyStart; (repeat' split) <;> simp
@[simp] theorem surveyStart_calibration (s : State) : (surveyStart s).state.calibration = s.calibration :=
  by unfold surveyStart; (repeat' split) <;> simp
@[simp] theorem surveyStart_evaluator (s : State) : (surveyStart s).state.evaluator = s.evaluator :=
  by unfold surveyStart; (repeat' split) <;> simp
@[simp] theorem surveyStart_schedule (s : State) : (surveyStart s).state.schedule = s.schedule :=
  by unfold surveyStart; (repeat' split) <;> simp
@[simp] theorem surveyStart_climate (s : State) : (surveyStart s).state.climate = s.climate :=
  by unfold surveyStart; (repeat' split) <;> simp
@[simp] theorem surveyStart_outputs (s : State) : (surveyStart s).state.outputs = s.outputs :=
  by unfold surveyStart; (repeat' split) <;> simp
@[simp] theorem surveyStart_loop (s : State) : (surveyStart s).state.loop = s.loop :=
  by unfold surveyStart; (repeat' split) <;> simp
@[simp] theorem surveyStart_command (s : State) : (surveyStart s).state.command = s.command :=
  by unfold surveyStart; (repeat' split) <;> simp
@[simp] theorem surveyStart_events (s : State) : (surveyStart s).state.events = s.events :=
  by unfold surveyStart; (repeat' split) <;> simp
@[simp] theorem surveyStart_pending (s : State) : (surveyStart s).state.pending = s.pending :=
  by unfold surveyStart; (repeat' split) <;> simp

@[simp] theorem surveyAbort_resetHeld (s : State) : (surveyAbort s).state.resetHeld = s.resetHeld :=
  by unfold surveyAbort; (repeat' split) <;> simp
@[simp] theorem surveyAbort_plp (s : State) : (surveyAbort s).state.plp = s.plp :=
  by unfold surveyAbort; (repeat' split) <;> simp
@[simp] theorem surveyAbort_line (s : State) : (surveyAbort s).state.line = s.line :=
  by unfold surveyAbort; (repeat' split) <;> simp
@[simp] theorem surveyAbort_lineParams (s : State) : (surveyAbort s).state.lineParams = s.lineParams :=
  by unfold surveyAbort; (repeat' split) <;> simp
@[simp] theorem surveyAbort_nodes (s : State) : (surveyAbort s).state.nodes = s.nodes :=
  by unfold surveyAbort; (repeat' split) <;> simp
@[simp] theorem surveyAbort_calibration (s : State) : (surveyAbort s).state.calibration = s.calibration :=
  by unfold surveyAbort; (repeat' split) <;> simp
@[simp] theorem surveyAbort_evaluator (s : State) : (surveyAbort s).state.evaluator = s.evaluator :=
  by unfold surveyAbort; (repeat' split) <;> simp
@[simp] theorem surveyAbort_schedule (s : State) : (surveyAbort s).state.schedule = s.schedule :=
  by unfold surveyAbort; (repeat' split) <;> simp
@[simp] theorem surveyAbort_climate (s : State) : (surveyAbort s).state.climate = s.climate :=
  by unfold surveyAbort; (repeat' split) <;> simp
@[simp] theorem surveyAbort_outputs (s : State) : (surveyAbort s).state.outputs = s.outputs :=
  by unfold surveyAbort; (repeat' split) <;> simp
@[simp] theorem surveyAbort_loop (s : State) : (surveyAbort s).state.loop = s.loop :=
  by unfold surveyAbort; (repeat' split) <;> simp
@[simp] theorem surveyAbort_command (s : State) : (surveyAbort s).state.command = s.command :=
  by unfold surveyAbort; (repeat' split) <;> simp
@[simp] theorem surveyAbort_events (s : State) : (surveyAbort s).state.events = s.events :=
  by unfold surveyAbort; (repeat' split) <;> simp
@[simp] theorem surveyAbort_pending (s : State) : (surveyAbort s).state.pending = s.pending :=
  by unfold surveyAbort; (repeat' split) <;> simp

@[simp] theorem clearEvents_resetHeld (args : List Byte) (s : State) : (clearEvents args s).state.resetHeld = s.resetHeld :=
  by unfold clearEvents; (repeat' split) <;> simp
@[simp] theorem clearEvents_plp (args : List Byte) (s : State) : (clearEvents args s).state.plp = s.plp :=
  by unfold clearEvents; (repeat' split) <;> simp
@[simp] theorem clearEvents_line (args : List Byte) (s : State) : (clearEvents args s).state.line = s.line :=
  by unfold clearEvents; (repeat' split) <;> simp
@[simp] theorem clearEvents_lineParams (args : List Byte) (s : State) : (clearEvents args s).state.lineParams = s.lineParams :=
  by unfold clearEvents; (repeat' split) <;> simp
@[simp] theorem clearEvents_nodes (args : List Byte) (s : State) : (clearEvents args s).state.nodes = s.nodes :=
  by unfold clearEvents; (repeat' split) <;> simp
@[simp] theorem clearEvents_survey (args : List Byte) (s : State) : (clearEvents args s).state.survey = s.survey :=
  by unfold clearEvents; (repeat' split) <;> simp
@[simp] theorem clearEvents_calibration (args : List Byte) (s : State) : (clearEvents args s).state.calibration = s.calibration :=
  by unfold clearEvents; (repeat' split) <;> simp
@[simp] theorem clearEvents_evaluator (args : List Byte) (s : State) : (clearEvents args s).state.evaluator = s.evaluator :=
  by unfold clearEvents; (repeat' split) <;> simp
@[simp] theorem clearEvents_schedule (args : List Byte) (s : State) : (clearEvents args s).state.schedule = s.schedule :=
  by unfold clearEvents; (repeat' split) <;> simp
@[simp] theorem clearEvents_climate (args : List Byte) (s : State) : (clearEvents args s).state.climate = s.climate :=
  by unfold clearEvents; (repeat' split) <;> simp
@[simp] theorem clearEvents_outputs (args : List Byte) (s : State) : (clearEvents args s).state.outputs = s.outputs :=
  by unfold clearEvents; (repeat' split) <;> simp
@[simp] theorem clearEvents_loop (args : List Byte) (s : State) : (clearEvents args s).state.loop = s.loop :=
  by unfold clearEvents; (repeat' split) <;> simp
@[simp] theorem clearEvents_command (args : List Byte) (s : State) : (clearEvents args s).state.command = s.command :=
  by unfold clearEvents; (repeat' split) <;> simp
@[simp] theorem clearEvents_pending (args : List Byte) (s : State) : (clearEvents args s).state.pending = s.pending :=
  by unfold clearEvents; (repeat' split) <;> simp

@[simp] theorem setEventMask_resetHeld (args : List Byte) (s : State) : (setEventMask args s).state.resetHeld = s.resetHeld :=
  by unfold setEventMask; (repeat' split) <;> simp
@[simp] theorem setEventMask_plp (args : List Byte) (s : State) : (setEventMask args s).state.plp = s.plp :=
  by unfold setEventMask; (repeat' split) <;> simp
@[simp] theorem setEventMask_line (args : List Byte) (s : State) : (setEventMask args s).state.line = s.line :=
  by unfold setEventMask; (repeat' split) <;> simp
@[simp] theorem setEventMask_lineParams (args : List Byte) (s : State) : (setEventMask args s).state.lineParams = s.lineParams :=
  by unfold setEventMask; (repeat' split) <;> simp
@[simp] theorem setEventMask_nodes (args : List Byte) (s : State) : (setEventMask args s).state.nodes = s.nodes :=
  by unfold setEventMask; (repeat' split) <;> simp
@[simp] theorem setEventMask_survey (args : List Byte) (s : State) : (setEventMask args s).state.survey = s.survey :=
  by unfold setEventMask; (repeat' split) <;> simp
@[simp] theorem setEventMask_calibration (args : List Byte) (s : State) : (setEventMask args s).state.calibration = s.calibration :=
  by unfold setEventMask; (repeat' split) <;> simp
@[simp] theorem setEventMask_evaluator (args : List Byte) (s : State) : (setEventMask args s).state.evaluator = s.evaluator :=
  by unfold setEventMask; (repeat' split) <;> simp
@[simp] theorem setEventMask_schedule (args : List Byte) (s : State) : (setEventMask args s).state.schedule = s.schedule :=
  by unfold setEventMask; (repeat' split) <;> simp
@[simp] theorem setEventMask_climate (args : List Byte) (s : State) : (setEventMask args s).state.climate = s.climate :=
  by unfold setEventMask; (repeat' split) <;> simp
@[simp] theorem setEventMask_outputs (args : List Byte) (s : State) : (setEventMask args s).state.outputs = s.outputs :=
  by unfold setEventMask; (repeat' split) <;> simp
@[simp] theorem setEventMask_loop (args : List Byte) (s : State) : (setEventMask args s).state.loop = s.loop :=
  by unfold setEventMask; (repeat' split) <;> simp
@[simp] theorem setEventMask_command (args : List Byte) (s : State) : (setEventMask args s).state.command = s.command :=
  by unfold setEventMask; (repeat' split) <;> simp
@[simp] theorem setEventMask_pending (args : List Byte) (s : State) : (setEventMask args s).state.pending = s.pending :=
  by unfold setEventMask; (repeat' split) <;> simp

@[simp] theorem setStatusLines_resetHeld (args : List Byte) (s : State) : (setStatusLines args s).state.resetHeld = s.resetHeld :=
  by unfold setStatusLines; (repeat' split) <;> simp
@[simp] theorem setStatusLines_plp (args : List Byte) (s : State) : (setStatusLines args s).state.plp = s.plp :=
  by unfold setStatusLines; (repeat' split) <;> simp
@[simp] theorem setStatusLines_line (args : List Byte) (s : State) : (setStatusLines args s).state.line = s.line :=
  by unfold setStatusLines; (repeat' split) <;> simp
@[simp] theorem setStatusLines_lineParams (args : List Byte) (s : State) : (setStatusLines args s).state.lineParams = s.lineParams :=
  by unfold setStatusLines; (repeat' split) <;> simp
@[simp] theorem setStatusLines_nodes (args : List Byte) (s : State) : (setStatusLines args s).state.nodes = s.nodes :=
  by unfold setStatusLines; (repeat' split) <;> simp
@[simp] theorem setStatusLines_survey (args : List Byte) (s : State) : (setStatusLines args s).state.survey = s.survey :=
  by unfold setStatusLines; (repeat' split) <;> simp
@[simp] theorem setStatusLines_calibration (args : List Byte) (s : State) : (setStatusLines args s).state.calibration = s.calibration :=
  by unfold setStatusLines; (repeat' split) <;> simp
@[simp] theorem setStatusLines_evaluator (args : List Byte) (s : State) : (setStatusLines args s).state.evaluator = s.evaluator :=
  by unfold setStatusLines; (repeat' split) <;> simp
@[simp] theorem setStatusLines_schedule (args : List Byte) (s : State) : (setStatusLines args s).state.schedule = s.schedule :=
  by unfold setStatusLines; (repeat' split) <;> simp
@[simp] theorem setStatusLines_climate (args : List Byte) (s : State) : (setStatusLines args s).state.climate = s.climate :=
  by unfold setStatusLines; (repeat' split) <;> simp
@[simp] theorem setStatusLines_outputs (args : List Byte) (s : State) : (setStatusLines args s).state.outputs = s.outputs :=
  by unfold setStatusLines; (repeat' split) <;> simp
@[simp] theorem setStatusLines_loop (args : List Byte) (s : State) : (setStatusLines args s).state.loop = s.loop :=
  by unfold setStatusLines; (repeat' split) <;> simp
@[simp] theorem setStatusLines_command (args : List Byte) (s : State) : (setStatusLines args s).state.command = s.command :=
  by unfold setStatusLines; (repeat' split) <;> simp
@[simp] theorem setStatusLines_pending (args : List Byte) (s : State) : (setStatusLines args s).state.pending = s.pending :=
  by unfold setStatusLines; (repeat' split) <;> simp

@[simp] theorem setReportMode_resetHeld (args : List Byte) (s : State) : (setReportMode args s).state.resetHeld = s.resetHeld :=
  by unfold setReportMode; (repeat' split) <;> simp
@[simp] theorem setReportMode_plp (args : List Byte) (s : State) : (setReportMode args s).state.plp = s.plp :=
  by unfold setReportMode; (repeat' split) <;> simp
@[simp] theorem setReportMode_line (args : List Byte) (s : State) : (setReportMode args s).state.line = s.line :=
  by unfold setReportMode; (repeat' split) <;> simp
@[simp] theorem setReportMode_lineParams (args : List Byte) (s : State) : (setReportMode args s).state.lineParams = s.lineParams :=
  by unfold setReportMode; (repeat' split) <;> simp
@[simp] theorem setReportMode_nodes (args : List Byte) (s : State) : (setReportMode args s).state.nodes = s.nodes :=
  by unfold setReportMode; (repeat' split) <;> simp
@[simp] theorem setReportMode_survey (args : List Byte) (s : State) : (setReportMode args s).state.survey = s.survey :=
  by unfold setReportMode; (repeat' split) <;> simp
@[simp] theorem setReportMode_calibration (args : List Byte) (s : State) : (setReportMode args s).state.calibration = s.calibration :=
  by unfold setReportMode; (repeat' split) <;> simp
@[simp] theorem setReportMode_evaluator (args : List Byte) (s : State) : (setReportMode args s).state.evaluator = s.evaluator :=
  by unfold setReportMode; (repeat' split) <;> simp
@[simp] theorem setReportMode_schedule (args : List Byte) (s : State) : (setReportMode args s).state.schedule = s.schedule :=
  by unfold setReportMode; (repeat' split) <;> simp
@[simp] theorem setReportMode_climate (args : List Byte) (s : State) : (setReportMode args s).state.climate = s.climate :=
  by unfold setReportMode; (repeat' split) <;> simp
@[simp] theorem setReportMode_outputs (args : List Byte) (s : State) : (setReportMode args s).state.outputs = s.outputs :=
  by unfold setReportMode; (repeat' split) <;> simp
@[simp] theorem setReportMode_command (args : List Byte) (s : State) : (setReportMode args s).state.command = s.command :=
  by unfold setReportMode; (repeat' split) <;> simp
@[simp] theorem setReportMode_events (args : List Byte) (s : State) : (setReportMode args s).state.events = s.events :=
  by unfold setReportMode; (repeat' split) <;> simp
@[simp] theorem setReportMode_pending (args : List Byte) (s : State) : (setReportMode args s).state.pending = s.pending :=
  by unfold setReportMode; (repeat' split) <;> simp

@[simp] theorem finish_resetHeld (source kind tag : Byte) (a : Answer) :
    (finish source kind tag a).resetHeld = a.state.resetHeld := rfl
@[simp] theorem finish_plp (source kind tag : Byte) (a : Answer) :
    (finish source kind tag a).plp = a.state.plp := rfl
@[simp] theorem finish_line (source kind tag : Byte) (a : Answer) :
    (finish source kind tag a).line = a.state.line := rfl
@[simp] theorem finish_lineParams (source kind tag : Byte) (a : Answer) :
    (finish source kind tag a).lineParams = a.state.lineParams := rfl
@[simp] theorem finish_nodes (source kind tag : Byte) (a : Answer) :
    (finish source kind tag a).nodes = a.state.nodes := rfl
@[simp] theorem finish_survey (source kind tag : Byte) (a : Answer) :
    (finish source kind tag a).survey = a.state.survey := rfl
@[simp] theorem finish_calibration (source kind tag : Byte) (a : Answer) :
    (finish source kind tag a).calibration = a.state.calibration := rfl
@[simp] theorem finish_evaluator (source kind tag : Byte) (a : Answer) :
    (finish source kind tag a).evaluator = a.state.evaluator := rfl
@[simp] theorem finish_schedule (source kind tag : Byte) (a : Answer) :
    (finish source kind tag a).schedule = a.state.schedule := rfl
@[simp] theorem finish_climate (source kind tag : Byte) (a : Answer) :
    (finish source kind tag a).climate = a.state.climate := rfl
@[simp] theorem finish_outputs (source kind tag : Byte) (a : Answer) :
    (finish source kind tag a).outputs = a.state.outputs := rfl
@[simp] theorem finish_events (source kind tag : Byte) (a : Answer) :
    (finish source kind tag a).events = a.state.events := rfl
@[simp] theorem finish_pending (source kind tag : Byte) (a : Answer) :
    (finish source kind tag a).pending = a.state.pending := rfl
@[simp] theorem takeRestart_resetHeld (c : LoopCommand) (source kind tag : Byte) (s : State) :
    (takeRestart c source kind tag s).resetHeld = s.resetHeld := by
  unfold takeRestart; split <;> simp
@[simp] theorem takeRestart_lineParams (c : LoopCommand) (source kind tag : Byte) (s : State) :
    (takeRestart c source kind tag s).lineParams = s.lineParams := by
  unfold takeRestart; split <;> simp
@[simp] theorem takeRestart_calibration (c : LoopCommand) (source kind tag : Byte) (s : State) :
    (takeRestart c source kind tag s).calibration = s.calibration := by
  unfold takeRestart; split <;> simp
@[simp] theorem takeRestart_pending (c : LoopCommand) (source kind tag : Byte) (s : State) :
    (takeRestart c source kind tag s).pending = s.pending := by
  unfold takeRestart; split <;> simp

end Sys2Proof.Machine
end

