-- ==== Sys2Proof/Laws/Ops.lean ====
section
/-! SUPPORT. What each shared operation can do, said once: raises, queue entry, turns, numbers, table
writes, and the line addresses that records keep. -/

namespace Sys2Proof.Machine

/-! ## Numbers -/

theorem satSucc_le (limit n : Nat) : satSucc limit n ≤ limit := by unfold satSucc; omega

theorem clampNat_bounds {low high : Nat} (n : Nat) (h : low ≤ high) :
    low ≤ clampNat low high n ∧ clampNat low high n ≤ high := by unfold clampNat; omega

theorem clampNat_of_mem {low high n : Nat} (h : low ≤ n ∧ n ≤ high) : clampNat low high n = n := by
  unfold clampNat; omega

/-- A move is by at most the step, and toward the target. -/
theorem moveToward_bounds (step value target : Nat) :
    moveToward step value target ≤ value + step ∧ value ≤ moveToward step value target + step := by
  unfold moveToward; split
  · omega
  · split <;> omega

theorem moveToward_le_max (step value target : Nat) :
    moveToward step value target ≤ max value target := by
  unfold moveToward; split
  · omega
  · split <;> omega

/-! ## Raises (R175, R176) -/

@[simp] theorem raise_events (r : Raise) (s : State) : (raise r s).events = s.events.latch r := rfl

@[simp] theorem raise_loop (r : Raise) (s : State) : (raise r s).loop = s.loop.notify s.events r := rfl

@[simp] theorem raiseAll_nil (s : State) : raiseAll [] s = s := rfl

@[simp] theorem raiseAll_cons (r : Raise) (rs : List Raise) (s : State) :
    raiseAll (r :: rs) s = raiseAll rs (raise r s) := rfl

/-- A frame offered to the Insert Queue enters at its end, or the queue is full and nothing changes. -/
theorem offer_cases (p : LoopPort) (f : LoopFrame) (b : Bool) :
    (p.offer f b = p.insert f b ∧ p.insertQueue.length < 16) ∨
      (p.offer f b = p ∧ 16 ≤ p.insertQueue.length) := by
  unfold LoopPort.offer LoopPort.roomForReply
  by_cases h : p.insertQueue.length + 1 ≤ Config.insertPlaces
  · left; simp only [h, decide_true, if_true, true_and]; unfold Config.insertPlaces at h; omega
  · right; simp only [h, decide_false, Bool.false_eq_true, if_false, true_and]
    unfold Config.insertPlaces at h; omega

/-- A raise leaves the port as it was, or offers one NOTICE. -/
theorem notify_cases (p : LoopPort) (u : EventUnit) (r : Raise) :
    p.notify u r = p ∨
      p.notify u r = p.offer (p.originate 0#8 kindNotice (noticePayload r (u.latch r))) false := by
  unfold LoopPort.notify; split
  · exact .inr rfl
  · exact .inl rfl

/-- A raise latches or leaves its own flag only. -/
theorem latch_other (u : EventUnit) (r : Raise) (n : Nat) (h : r.1.number ≠ n) :
    (u.latch r).flags[n]? = u.flags[n]? := by
  simp [EventUnit.latch, h]

@[simp] theorem latch_flags_length (u : EventUnit) (r : Raise) :
    (u.latch r).flags.length = u.flags.length := by simp [EventUnit.latch]

/-- A raise clears no latched flag. -/
theorem latch_keeps (u : EventUnit) (r : Raise) (n : Nat) (h : u.latched n = true) :
    (u.latch r).latched n = true := by
  unfold EventUnit.latched EventUnit.latch at *
  simp only [List.getElem?_modify]
  revert h; cases u.flags[n]? <;> simp
  intro h; split <;> simp_all

/-- A raised event is latched. -/
theorem latch_self (u : EventUnit) (r : Raise) (h : r.1.number < u.flags.length) :
    (u.latch r).latched r.1.number = true := by
  unfold EventUnit.latched EventUnit.latch
  simp [List.getElem?_eq_getElem h]
  split <;> simp_all

theorem raiseAll_events (rs : List Raise) (s : State) :
    (raiseAll rs s).events = rs.foldl EventUnit.latch s.events := by
  induction rs generalizing s with
  | nil => rfl
  | cons r rs ih => rw [raiseAll_cons, ih]; rfl

/-- Raises that do not name an event leave its flag. -/
theorem foldl_latch_other (rs : List Raise) (u : EventUnit) (n : Nat)
    (h : ∀ r ∈ rs, r.1.number ≠ n) : (rs.foldl EventUnit.latch u).flags[n]? = u.flags[n]? := by
  induction rs generalizing u with
  | nil => rfl
  | cons r rs ih =>
    rw [List.foldl_cons, ih _ fun x hx => h x (List.mem_cons_of_mem _ hx),
      latch_other _ _ _ (h r List.mem_cons_self)]

@[simp] theorem foldl_latch_flags_length (rs : List Raise) (u : EventUnit) :
    (rs.foldl EventUnit.latch u).flags.length = u.flags.length := by
  induction rs generalizing u with
  | nil => rfl
  | cons r rs ih => rw [List.foldl_cons, ih, latch_flags_length]

theorem foldl_latch_keeps (rs : List Raise) (u : EventUnit) (n : Nat) (h : u.latched n = true) :
    (rs.foldl EventUnit.latch u).latched n = true := by
  induction rs generalizing u with
  | nil => exact h
  | cons r rs ih => rw [List.foldl_cons]; exact ih _ (latch_keeps _ _ _ h)

/-- Every event of a list of raises is latched after them. -/
theorem foldl_latch_mem (rs : List Raise) (u : EventUnit) (r : Raise) (hr : r ∈ rs)
    (h : r.1.number < u.flags.length) : (rs.foldl EventUnit.latch u).latched r.1.number = true := by
  induction rs generalizing u with
  | nil => cases hr
  | cons x rs ih =>
    rw [List.foldl_cons]
    rcases List.mem_cons.1 hr with rfl | hr
    · exact foldl_latch_keeps _ _ _ (latch_self _ _ h)
    · exact ih _ hr (by rwa [latch_flags_length])

/-! ## Reports (R158, R163) -/

/-- A report enters with at least three places left free, or raises REPORT_LOST. -/
theorem offerReport_cases (t : Byte) (b : List Byte) (s : State) :
    (s.loop.insertQueue.length ≤ 12 ∧
        offerReport t b s =
          { s with
            loop :=
              { s.loop.insert
                  (s.loop.originate 0#8 kindReport ([t, markByte s.loop.reportGap] ++ b)) false with
                reportGap := false } }) ∨
      (12 < s.loop.insertQueue.length ∧
        offerReport t b s =
          raise (.reportLost, none) { s with loop := { s.loop with reportGap := true } }) := by
  by_cases h : s.loop.roomForReport
  · left; refine ⟨?_, by simp [offerReport, h]⟩
    simp [LoopPort.roomForReport, Config.insertPlaces, Config.reservedPlaces] at h; omega
  · right; refine ⟨?_, by simp [offerReport, h]⟩
    simp [LoopPort.roomForReport, Config.insertPlaces, Config.reservedPlaces] at h; omega

/-- A pass-through frame, in the same way. -/
theorem offerPass_cases (b : List Byte) (s : State) :
    (s.loop.insertQueue.length ≤ 12 ∧
        offerPass b s =
          { s with
            loop :=
              { s.loop.insert (s.loop.originate 0#8 kindPass ([markByte s.loop.passGap] ++ b))
                  false with passGap := false } }) ∨
      (12 < s.loop.insertQueue.length ∧
        offerPass b s =
          raise (.reportLost, none) { s with loop := { s.loop with passGap := true } }) := by
  by_cases h : s.loop.roomForReport
  · left; refine ⟨?_, by simp [offerPass, h]⟩
    simp [LoopPort.roomForReport, Config.insertPlaces, Config.reservedPlaces] at h; omega
  · right; refine ⟨?_, by simp [offerPass, h]⟩
    simp [LoopPort.roomForReport, Config.insertPlaces, Config.reservedPlaces] at h; omega

/-- Pass-through touches the Plant Loop Port and, where a frame is lost, REPORT_LOST. -/
theorem passThrough_cases (o : OutcomeRecord) (s : State) :
    ∃ ev lp, passThrough o s = { s with events := ev, loop := lp } ∧
      (ev = s.events ∨ ev = s.events.latch (.reportLost, none)) := by
  unfold passThrough offerPass
  repeat' split
  all_goals first
    | exact ⟨_, _, rfl, .inl rfl⟩
    | exact ⟨_, _, rfl, .inr rfl⟩

/-! ## Turns (R156, R166, R174) -/

theorem awake_of_high {s : State} (h : s.resetHeld = false) (f : State → State) :
    awake f s = f s := by simp [awake, h]

theorem awake_of_low {s : State} (h : s.resetHeld = true) (f : State → State) :
    awake f s = s := by simp [awake, h]

theorem commandRow_of_carries {s : State} {c : LoopCommand} (h : s.carries c)
    (carry : State → State) : commandRow c carry s = carry s := by
  simp [commandRow, h.1, h.2]

theorem namedRow_of_carries {s : State} {src kind tag : Byte} {args : List Byte}
    (h : s.carries (namedCommand src kind tag args)) (answer : State → Answer) :
    namedRow src kind tag args answer s = finish src kind tag (answer s) := by
  simp [namedRow, commandRow_of_carries h]

/-- A command row that is not received, is carried out, or arrives. -/
theorem commandRow_cases (c : LoopCommand) (carry : State → State) (s : State) :
    commandRow c carry s = s ∨ commandRow c carry s = carry s ∨ commandRow c carry s = arrive c s := by
  unfold commandRow; split
  · exact .inl rfl
  · split
    · exact .inr (.inl rfl)
    · exact .inr (.inr rfl)

/-- An arriving COMMAND becomes the current one, waits, or is lost with LOOP_OVERRUN. -/
theorem arrive_cases (c : LoopCommand) (s : State) :
    (s.command.current = none ∧
        arrive c s = { s with command := { s.command with current := some c } }) ∨
      (s.command.waiting.length < 4 ∧
        arrive c s = { s with command := { s.command with waiting := s.command.waiting ++ [c] } }) ∨
      (4 ≤ s.command.waiting.length ∧ arrive c s = raise (.loopOverrun, none) s) := by
  unfold arrive Config.waitingPlaces
  by_cases h : s.command.current.isNone
  · left; exact ⟨by simpa using h, by simp [h]⟩
  · right
    by_cases h4 : s.command.waiting.length < 4
    · left; exact ⟨h4, by simp [h, h4]⟩
    · right; exact ⟨by omega, by simp [h, h4]⟩

@[simp] theorem finish_command (source kind tag : Byte) (a : Answer) :
    (finish source kind tag a).command = a.state.command.next := rfl

@[simp] theorem finish_loop (source kind tag : Byte) (a : Answer) :
    (finish source kind tag a).loop =
      a.state.loop.offer (replyFrame source kind tag a) false := rfl

/-! ## The Repeat Queue (R157) -/

/-- A repeat is discarded at hop count 31, joins the queue, or is dropped with LOOP_OVERRUN. -/
theorem repeatFrame_cases (f : LoopFrame) (s : State) :
    (31 ≤ f.hops ∧ repeatFrame f s = s) ∨
      (f.hops < 31 ∧ s.loop.repeatQueue.length < 4 ∧
        repeatFrame f s =
          { s with
            loop :=
              { s.loop with
                repeatQueue := s.loop.repeatQueue ++ [{ f with hops := f.hops + 1 }] } }) ∨
      (f.hops < 31 ∧ 4 ≤ s.loop.repeatQueue.length ∧
        repeatFrame f s = raise (.loopOverrun, none) s) := by
  unfold repeatFrame Config.maxHops Config.repeatPlaces
  by_cases h : 31 ≤ f.hops
  · left; exact ⟨h, by simp [h]⟩
  · right
    by_cases h4 : s.loop.repeatQueue.length < 4
    · left; exact ⟨by omega, h4, by simp [h, h4]⟩
    · right; exact ⟨by omega, by omega, by simp [h, h4]⟩

/-! ## Tables -/

theorem indexed_length {α : Type} (l : List α) (k : Nat) : (indexed k l).length = l.length := by
  induction l generalizing k with
  | nil => rfl
  | cons a l ih => simp [indexed, ih]

theorem indexed_getElem? {α : Type} (l : List α) (k i : Nat) :
    (indexed k l)[i]? = (l[i]?).map fun a => (k + i, a) := by
  induction l generalizing k i with
  | nil => simp [indexed]
  | cons a l ih =>
    cases i with
    | zero => simp [indexed]
    | succ i => simp [indexed, ih, Nat.add_comm, Nat.add_left_comm]

/-- The first index that satisfies a test, and none below it does. -/
theorem firstIndex_some {α : Type} {p : Nat → α → Bool} {k i : Nat} {l : List α}
    (h : firstIndex p k l = some i) :
    ∃ j a, i = k + j ∧ l[j]? = some a ∧ p i a = true ∧
      ∀ m b, m < j → l[m]? = some b → p (k + m) b = false := by
  induction l generalizing k with
  | nil => simp [firstIndex] at h
  | cons a l ih =>
    unfold firstIndex at h
    by_cases hp : p k a
    · simp [hp] at h; subst h
      exact ⟨0, a, rfl, rfl, hp, by intro m b hm; omega⟩
    · simp [hp] at h
      obtain ⟨j, b, hi, hj, hb, hm⟩ := ih h
      refine ⟨j + 1, b, by omega, by simpa using hj, hb, ?_⟩
      intro m c hm' hc
      cases m with
      | zero => simp at hc; subst hc; simpa using hp
      | succ m =>
        have := hm m c (by omega) (by simpa using hc)
        simpa [Nat.add_comm, Nat.add_left_comm, Nat.add_assoc] using this

/-- No index satisfies the test. -/
theorem firstIndex_none {α : Type} {p : Nat → α → Bool} {k : Nat} {l : List α}
    (h : firstIndex p k l = none) {j : Nat} {a : α} (hj : l[j]? = some a) : p (k + j) a = false := by
  induction l generalizing k j with
  | nil => simp at hj
  | cons b l ih =>
    unfold firstIndex at h
    by_cases hp : p k b
    · simp [hp] at h
    · simp [hp] at h
      cases j with
      | zero => simp at hj; subst hj; simpa using hp
      | succ j =>
        have := ih h (by simpa using hj)
        simpa [Nat.add_comm, Nat.add_left_comm, Nat.add_assoc] using this

/-- Every judged value comes from the record of its index. -/
theorem judgeAll_mem {α β : Type} {parse : Nat → α → Option (β × Bool)} {l : List (Nat × α)}
    {vs : List (Nat × β)} {adj : Bool} (h : judgeAll parse l = some (vs, adj)) :
    vs.map Prod.fst = l.map Prod.fst ∧
      ∀ v ∈ vs, ∃ a b, (v.1, a) ∈ l ∧ parse v.1 a = some (v.2, b) := by
  induction l generalizing vs adj with
  | nil => simp [judgeAll] at h; obtain ⟨rfl, rfl⟩ := h; simp
  | cons x l ih =>
    obtain ⟨i, a⟩ := x
    unfold judgeAll at h
    cases hp : parse i a with
    | none => simp [hp] at h
    | some y =>
      cases hr : judgeAll parse l with
      | none => simp [hp, hr] at h
      | some z =>
        obtain ⟨b, adj1⟩ := y
        obtain ⟨bs, adj2⟩ := z
        simp [hp, hr] at h
        obtain ⟨rfl, rfl⟩ := h
        obtain ⟨h1, h2⟩ := ih hr
        refine ⟨by simp [h1], ?_⟩
        intro v hv
        rcases List.mem_cons.mp hv with rfl | hv
        · exact ⟨a, adj1, by simp, hp⟩
        · obtain ⟨a', b', hm, hb⟩ := h2 v hv
          exact ⟨a', b', by simp [hm], hb⟩

/-- A table keeps its length under a write. -/
@[simp] theorem putAll_length {α β : Type} (put : β → α → α) (vs : List (Nat × β)) (t : List α) :
    (putAll put vs t).length = t.length := by
  unfold putAll
  induction vs generalizing t with
  | nil => rfl
  | cons v vs ih => simp [ih]

/-- A write of one record changes that record alone. -/
theorem putAll_one {α β : Type} (put : β → α → α) (i : Nat) (b : β) (t : List α) :
    putAll put [(i, b)] t = t.modify i (put b) := rfl

/-- A change of the entry at an index, as a replacement. -/
theorem modify_of_getElem? {α : Type} {l : List α} {i : Nat} {a : α} (f : α → α)
    (h : l[i]? = some a) : l.modify i f = l.set i (f a) := by
  induction l generalizing i with
  | nil => simp at h
  | cons b l ih =>
    cases i with
    | zero => simp at h; subst h; rfl
    | succ i => simpa using ih (by simpa using h)

/-- A change that does not look at the entry, as a replacement. -/
theorem modify_const {α : Type} (l : List α) (i : Nat) (a : α) :
    l.modify i (fun _ => a) = l.set i a := by
  induction l generalizing i with
  | nil => simp
  | cons b l ih => cases i <;> simp [ih]

/-! ## Line addresses that records keep (R41, R46 to R53, R60, R61) -/

@[simp] theorem join_address (n : NodeRecord) (o : LineOutcome) : (n.join o).address = n.address := rfl

@[simp] theorem learn_address (n : NodeRecord) (g : GoodResponse) :
    (n.learn g).address = n.address := rfl

@[simp] theorem isolate_address (n : NodeRecord) (q : Nat) : (n.isolate q).address = n.address := rfl

@[simp] theorem judge_address (n : NodeRecord) (o : LineOutcome) (q : Nat) :
    (n.judge o q).1.address = n.address := by
  unfold NodeRecord.judge; (repeat' split) <;> rfl

@[simp] theorem take_address (n : NodeRecord) (i q : Nat) (o : OutcomeRecord) :
    (n.take i q o).1.address = n.address := by
  unfold NodeRecord.take; dsimp only; (repeat' split) <;> simp

@[simp] theorem renew_address (n : NodeRecord) : n.renew.address = n.address := by
  unfold NodeRecord.renew; split
  · rename_i h; simp [NodeRecord.fresh, h]
  · rfl

@[simp] theorem release_address (n : NodeRecord) : n.release.address = n.address := by
  unfold NodeRecord.release; split <;> rfl

@[simp] theorem quarantineTick_address (n : NodeRecord) : n.quarantineTick.address = n.address := by
  unfold NodeRecord.quarantineTick; (repeat' split) <;> simp

@[simp] theorem form_address (c : Climate) (a : Actuator) : (a.form c).address = a.address := rfl

@[simp] theorem form_owed (c : Climate) (a : Actuator) : (a.form c).owed = a.owed := rfl

@[simp] theorem restart_address (a : Actuator) : a.restart.address = a.address := rfl

@[simp] theorem take_actuator_address (a : Actuator) (i : Nat) (k : Bool) (o : OutcomeRecord) :
    (a.take i k o).1.address = a.address := by
  unfold Actuator.take Actuator.takeGood Actuator.takeFailed
  dsimp only; (repeat' split) <;> rfl

@[simp] theorem take_actuator_owed (a : Actuator) (i : Nat) (k : Bool) (o : OutcomeRecord) :
    (a.take i k o).1.owed = a.owed := by
  unfold Actuator.take Actuator.takeGood Actuator.takeFailed
  dsimp only; (repeat' split) <;> rfl

/-! ## Loop-in (R152) -/

theorem frameEnd_append (acc rest : List Byte) (h : 4 ≤ acc.length) :
    frameEnd (acc ++ rest) = frameEnd acc := by
  simp [frameEnd, byteAt, List.getElem?_append_left (show 3 < acc.length by omega)]

theorem frameEnded_iff (chars : List Byte) :
    frameEnded chars = true ↔ 4 ≤ chars.length ∧ frameEnd chars ≤ chars.length := by
  simp [frameEnded]

theorem seven_le_frameEnd (chars : List Byte) : 7 ≤ frameEnd chars := by
  unfold frameEnd; split <;> simp [Config.minLoopFrame, Config.maxLoopFrame]

theorem take_waiting (framing : Bool) (rest : List Byte) :
    LoopIn.take framing rest .waiting = (.waiting, []) := by
  induction rest with
  | nil => rfl
  | cons b rest ih => simp [LoopIn.take, LoopIn.char, ih]

/-- Characters that go on with a frame that has not ended: the frame ends among them, or goes on. -/
theorem take_frame (framing : Bool) (rest acc : List Byte) (h : frameEnded acc = false) :
    LoopIn.take framing rest (.frame acc framing) =
      if frameEnded (acc ++ rest) then (.waiting, [(frameChars (acc ++ rest), framing)])
      else (.frame (acc ++ rest) framing, []) := by
  induction rest generalizing acc with
  | nil => simp [LoopIn.take, h]
  | cons b rest ih =>
    have hcons : acc ++ b :: rest = (acc ++ [b]) ++ rest := by simp
    rw [LoopIn.take, LoopIn.char, LoopIn.join, hcons]
    simp only [Bool.or_self]
    by_cases hb : frameEnded (acc ++ [b]) = true
    · have hb' := (frameEnded_iff _).1 hb
      have hlen : frameEnd (acc ++ [b]) = (acc ++ [b]).length := by
        refine Nat.le_antisymm hb'.2 ?_
        by_cases h4 : 4 ≤ acc.length
        · have := frameEnd_append acc [b] h4
          have hn : ¬(4 ≤ acc.length ∧ frameEnd acc ≤ acc.length) := by
            rw [← frameEnded_iff]; simp [h]
          simp only [List.length_append, List.length_cons, List.length_nil] at *
          omega
        · have := seven_le_frameEnd (acc ++ [b])
          simp only [List.length_append, List.length_cons, List.length_nil] at *
          omega
      have hend : frameEnd ((acc ++ [b]) ++ rest) = (acc ++ [b]).length := by
        rw [frameEnd_append _ _ hb'.1, hlen]
      have hall : frameEnded ((acc ++ [b]) ++ rest) = true := by
        rw [frameEnded_iff, hend, List.length_append]; omega
      have h4 : ¬(((acc ++ [b]) ++ rest).length < 4) := by rw [List.length_append]; omega
      rw [if_pos hb, if_pos hall, frameChars, if_neg h4, hend, List.take_left' rfl]
      simp [take_waiting]
    · rw [if_neg hb]
      simp [ih _ (by simpa using hb)]

/-- A row of characters that stands alone on loop-in, with the idle line before and after it, is one frame
(R152). -/
theorem hear_whole (b : Byte) (rest : List Byte) (framing : Bool) (p : LoopIn)
    (hp : p = .waiting ∨ p = .ready) :
    LoopIn.hear (b :: rest) framing .whole p = (.ready, [(frameChars (b :: rest), framing)]) := by
  have h1 : frameEnded [b] = false := by simp [frameEnded]
  have ht : LoopIn.take framing (b :: rest) .ready =
      if frameEnded (b :: rest) then (.waiting, [(frameChars (b :: rest), framing)])
      else (.frame (b :: rest) framing, []) := by
    simp [LoopIn.take, LoopIn.char, LoopIn.join, h1, take_frame framing rest [b] h1]
  have hi : p.idle = (.ready, []) := by rcases hp with rfl | rfl <;> rfl
  simp only [LoopIn.hear, LoopArrival.whole, hi, ht, if_true]
  by_cases he : frameEnded (b :: rest) = true
  · simp [he, LoopIn.idle]
  · have hn := he
    rw [frameEnded_iff] at he
    have hf : frameChars (b :: rest) = b :: rest := by
      unfold frameChars; split
      · rfl
      · rw [List.take_of_length_le]; omega
    simp [hn, LoopIn.idle, hf]

/-- Characters on loop-in during the wait for idle line are discarded (R152, R165). -/
theorem hear_waiting (chars : List Byte) (framing : Bool) :
    LoopIn.hear chars framing { idleBefore := false, idleAfter := false } .waiting =
      (.waiting, []) := by
  simp [LoopIn.hear, take_waiting]

/-- Bit times of loop-in in two parts. -/
theorem hearBits_append (first second : List Bool) (p : LoopPort) :
    p.hearBits (first ++ second) =
      (((p.hearBits first).1.hearBits second).1,
        (p.hearBits first).2 ++ ((p.hearBits first).1.hearBits second).2) := by
  induction first generalizing p with
  | nil => rfl
  | cons l rest ih => simp only [List.cons_append, LoopPort.hearBits, ih, List.append_assoc]

/-- Bit times of loop-in one after the other. -/
theorem hearBits_then {first second : List Bool} {p q r : LoopPort} {l m : List (List Byte × Bool)}
    (h : p.hearBits first = (q, l)) (h' : q.hearBits second = (r, m)) :
    p.hearBits (first ++ second) = (r, l ++ m) := by
  rw [hearBits_append, h, h']

/-- What loop-in presents changes loop-in and its receiver, and nothing else of the port (R152). -/
theorem hear_frame (signal : LoopSignal) (how : LoopArrival) (p : LoopPort) :
    (p.hear signal how).1 =
      { p with loopIn := (p.hear signal how).1.loopIn, loopRx := (p.hear signal how).1.loopRx } := by
  cases signal with
  | chars c framing => rfl
  | bits levels =>
    simp only [LoopPort.hear]
    generalize idleLevels how.idleBefore ++ levels ++ idleLevels how.idleAfter = levels
    induction levels generalizing p with
    | nil => rfl
    | cons l rest ih =>
      simp only [LoopPort.hearBits]
      rw [ih]; rfl

/-- The levels of a character, on loop-in that looks for a start bit, are heard as that character, with a
framing fault where the stop bit is active (R152). -/
theorem hearBits_char (b : Byte) (stop : Bool) (n : Nat) (p : LoopPort) (h : p.loopRx = .hunting n) :
    p.hearBits ([false] ++ (List.range 8).map b.getLsbD ++ [stop]) =
      ({ p with
          loopRx := if stop then .hunting 0 else .broken, loopIn := (p.loopIn.char (!stop) b).1 },
        (p.loopIn.char (!stop) b).2) := by
  have hb : bitsToByte ((List.range 8).map b.getLsbD) = b := by
    revert b; decide
  simp only [show List.range 8 = [0, 1, 2, 3, 4, 5, 6, 7] from rfl, List.map, List.cons_append,
    List.nil_append] at hb ⊢
  simp [LoopPort.hearBits, LoopPort.hearBit, LoopRx.step, h] at hb ⊢
  simp [hb]

/-- Idle bit times that do not yet make more than 2 character times (R152). -/
theorem hearBits_short (m n : Nat) (p : LoopPort) (h : p.loopRx = .hunting n) (hn : n + m < 23) :
    p.hearBits (List.replicate m true) = ({ p with loopRx := .hunting (n + m) }, []) := by
  induction m generalizing n p with
  | zero => simp [LoopPort.hearBits, ← h]
  | succ m ih =>
    have hs : p.hearBit true = ({ p with loopRx := .hunting (n + 1) }, []) := by
      simp [LoopPort.hearBit, h, LoopRx.step, Config.loopIdleBits, show n + 1 < 23 by omega]
    rw [List.replicate_succ, LoopPort.hearBits]
    simp only [hs, List.nil_append]
    rw [ih (n + 1) _ rfl (by omega)]
    simp [Nat.add_assoc, Nat.add_comm 1]

/-- The idle bit time that makes more than 2 character times, and each after it (R152). -/
theorem hearBit_idle (n : Nat) (p : LoopPort) (h : p.loopRx = .hunting n) (hn : 22 ≤ n) :
    p.hearBit true = ({ p with loopRx := .hunting 23, loopIn := .ready }, p.loopIn.idle.2) := by
  have : p.loopIn.idle.1 = .ready := by cases p.loopIn <;> rfl
  simp [LoopPort.hearBit, h, LoopRx.step, Config.loopIdleBits, show ¬(n + 1 < 23) by omega, this]

/-- Idle line on loop-in that is ready changes nothing more (R152). -/
theorem hearBits_ready (m : Nat) (p : LoopPort) (h : p.loopRx = .hunting 23) (hi : p.loopIn = .ready) :
    p.hearBits (List.replicate m true) = (p, []) := by
  have hb : p.hearBit true = (p, []) := by
    cases p; cases h; cases hi; rfl
  induction m with
  | zero => rfl
  | succ m ih => simp [List.replicate_succ, LoopPort.hearBits, hb, ih]

/-- Idle line of more than 2 character times, on loop-in that looks for a start bit (R152). -/
theorem hearBits_idle (n : Nat) (p : LoopPort) (h : p.loopRx = .hunting n) :
    p.hearBits (List.replicate 23 true) =
      ({ p with loopRx := .hunting 23, loopIn := .ready }, p.loopIn.idle.2) := by
  by_cases hn : n < 23
  · rw [show List.replicate 23 true =
        List.replicate (22 - n) true ++ (true :: List.replicate n true) by
      rw [← List.replicate_succ, List.replicate_append_replicate]; congr 1; omega]
    rw [hearBits_append, hearBits_short _ n p h (by omega), LoopPort.hearBits]
    simp only [hearBit_idle (n + (22 - n)) { p with loopRx := .hunting (n + (22 - n)) } rfl (by omega)]
    rw [hearBits_ready n _ rfl rfl]; simp
  · rw [List.replicate_succ, LoopPort.hearBits]
    simp only [hearBit_idle n p h (by omega)]
    rw [hearBits_ready 22 _ rfl rfl]; simp

/-! ## Sending a poll (R3, R18) -/

/-- In SENDING the raw line changes the receiver alone (R3, R20). -/
theorem hearLevels_sending (raw : List Bool) (s : State) (h : s.plp.phase = .sending) :
    ∃ r, raw.foldl hearLevel s = { s with plp := { s.plp with receiver := r } } := by
  induction raw generalizing s with
  | nil => exact ⟨s.plp.receiver, rfl⟩
  | cons b rest ih =>
    have h1 : hearLevel s b =
        { s with
          plp := { s.plp with receiver := (s.plp.receiver.step s.filterWidth s.de b).1 } } := by
      unfold hearLevel; dsimp only
      split
      · simp [takeCharacter, Plp.takeChar, h, PlpPhase.listening]
      · rfl
    obtain ⟨r, hr⟩ := ih (hearLevel s b) (by rw [h1]; exact h)
    exact ⟨r, by rw [List.foldl_cons, hr, h1]⟩

/-- After so many sixteenths, the characters still to be sent are those before, less one for each whole character of
time (R3). -/
theorem sendFor_drop (n : Nat) (p : Plp) (h : p.phase = .sending) (h1 : 1 ≤ p.pollNext) :
    p.poll.drop ((p.sendFor n).pollNext - 1) =
      (p.poll.drop (p.pollNext - 1)).drop ((p.pollAge + n) / 176) := by
  simp only [Plp.sendFor, h, Config.charSixteenths]
  split
  · simp; congr 1; omega
  · simp; omega

/-! ## Evaluations and climate cycles -/

/-- A report offered raises REPORT_LOST or nothing. -/
theorem offerReport_flags (t : Byte) (b : List Byte) (s : State) (n : Nat) (h : n ≠ 23) :
    (offerReport t b s).events.flags[n]? = s.events.flags[n]? := by
  rcases offerReport_cases t b s with ⟨_, h1⟩ | ⟨_, h1⟩ <;> rw [h1]
  exact latch_other _ _ _ (Ne.symm h)

theorem reportEvaluation_flags (c : Charge) (e : EvalRecord) (s : State) (n : Nat) (h : n ≠ 23) :
    (reportEvaluation c e s).events.flags[n]? = s.events.flags[n]? := by
  have hf : ∀ (l : List (List Byte)) (s : State),
      (l.foldl (fun t b => offerReport 1#8 b t) s).events.flags[n]? = s.events.flags[n]? := by
    intro l
    induction l with
    | nil => intro s; rfl
    | cons b l ih => intro s; rw [List.foldl_cons, ih, offerReport_flags _ _ _ _ h]
  unfold reportEvaluation
  split
  · rfl
  · exact offerReport_flags _ _ _ _ h
  · rw [hf, offerReport_flags _ _ _ _ h]

/-- Applying an evaluation raises HOLD_ENTERED, RATE_EXCEEDED or nothing. -/
theorem applyEvaluation_flags (e : EvalRecord) (s : State) (n : Nat) (h : n ≠ 13) (h' : n ≠ 17) :
    (applyEvaluation e s).events.flags[n]? = s.events.flags[n]? := by
  unfold applyEvaluation
  dsimp only
  rw [raiseAll_events]
  apply foldl_latch_other
  intro r hr
  split at hr
  · split at hr
    · unfold blindRaise at hr; split at hr
      · simp at hr; subst hr; exact Ne.symm h
      · cases hr
    · unfold rateRaise at hr; repeat' split at hr
      · simp at hr; subst hr; exact Ne.symm h'
      all_goals cases hr
  · cases hr

/-- An evaluation raises BLIND_EVAL exactly where it is blind (R86, R94). -/
theorem runEvaluation_blind (sweep : Nat) (s : State) :
    let e := evaluate (ageReadings sweep s.nodes.probes) s.schedule.params s.schedule.charge
      s.evaluator.history sweep
    (e.blind = true → 12 < s.events.flags.length → (runEvaluation sweep s).events.latched 12 = true) ∧
    (e.blind = false → (runEvaluation sweep s).events.flags[12]? = s.events.flags[12]?) := by
  intro e
  unfold runEvaluation
  dsimp only
  constructor
  · intro hb hl
    have : ∀ u v : EventUnit, u.flags[12]? = v.flags[12]? → v.latched 12 = true → u.latched 12 = true := by
      intro u v h1 h2; unfold EventUnit.latched at *; rw [h1]; exact h2
    refine this _ _ (applyEvaluation_flags _ _ 12 (by decide) (by decide)) ?_
    rw [show (evaluate (ageReadings sweep s.nodes.probes) s.schedule.params s.schedule.charge
      s.evaluator.history sweep).blind = true from hb]
    rw [raiseAll_events]
    apply foldl_latch_mem _ _ (Event.blindEval, none) (by simp)
    have hs := reportEvaluation_flags s.schedule.charge
      (evaluate (ageReadings sweep s.nodes.probes) s.schedule.params s.schedule.charge
        s.evaluator.history sweep)
      { s with
        nodes := { s.nodes with probes := ageReadings sweep s.nodes.probes },
        evaluator :=
          { latest :=
              some (evaluate (ageReadings sweep s.nodes.probes) s.schedule.params s.schedule.charge
                s.evaluator.history sweep),
            history :=
              joinHistory s.evaluator.history s.schedule.charge
                (evaluate (ageReadings sweep s.nodes.probes) s.schedule.params s.schedule.charge
                  s.evaluator.history sweep) } } 12 (by decide)
    rw [List.getElem?_eq_getElem hl] at hs
    exact (List.getElem?_eq_some_iff.1 hs).1
  · intro hb
    rw [applyEvaluation_flags _ _ 12 (by decide) (by decide)]
    rw [show (evaluate (ageReadings sweep s.nodes.probes) s.schedule.params s.schedule.charge
      s.evaluator.history sweep).blind = false from hb]
    simp only [Bool.false_eq_true, if_false, raiseAll_nil]
    rw [reportEvaluation_flags _ _ _ 12 (by decide)]

theorem countStateReport_flags (s : State) (n : Nat) (h : n ≠ 23) :
    (countStateReport s).events.flags[n]? = s.events.flags[n]? := by
  unfold countStateReport
  dsimp only
  split
  · exact offerReport_flags _ _ _ _ h
  · rfl

/-- The ageing of the air points leaves which entry is a zone's ZONE_DB entry. -/
theorem zoneDb_ageAirs (t : NodeTables) (z : Nat) :
    t.ageAirs.zoneDb z =
      (t.zoneDb z).map fun a =>
        if a.node.address.isSome then { a with cycles := satSucc 255 a.cycles } else a := by
  unfold NodeTables.zoneDb NodeTables.ageAirs
  rw [List.find?_map]
  congr 2
  funext a
  simp only [Function.comp, AirRecord.isZoneDb]
  split <;> rfl

/-- Commanded values formed twice are formed once (R143). -/
theorem form_idem (c : Climate) (l : List Actuator) :
    (l.map (Actuator.form c)).map (Actuator.form c) = l.map (Actuator.form c) := by
  rw [List.map_map]
  congr 1
  funext a
  simp only [Function.comp, Actuator.form]
  cases a.override <;> rfl

/-- The Schedule Engine's minute leaves the fans and their timers, unless it ends the charge. -/
theorem scheduleMinute_fans (s : State)
    (h : (scheduleMinute s).schedule.charge.state = .complete → s.schedule.charge.state = .complete) :
    (scheduleMinute s).climate.fan = s.climate.fan ∧
      (scheduleMinute s).climate.reversalTimer = s.climate.reversalTimer ∧
      (scheduleMinute s).climate.coastTimer = s.climate.coastTimer ∧
      (scheduleMinute s).climate.params = s.climate.params := by
  have htr : ∀ x : State,
      (transition x).climate.fan = x.climate.fan ∧
        (transition x).climate.reversalTimer = x.climate.reversalTimer ∧
        (transition x).climate.coastTimer = x.climate.coastTimer ∧
        (transition x).climate.params = x.climate.params := by
    intro x; unfold transition; dsimp only; split <;> exact ⟨rfl, rfl, rfl, rfl⟩
  unfold scheduleMinute at h ⊢
  dsimp only
  dsimp only at h
  split at h <;> rename_i hs
  · unfold warmupTests; split
    · exact ⟨rfl, rfl, rfl, rfl⟩
    · split <;> exact ⟨rfl, rfl, rfl, rfl⟩
  · unfold runningTests; dsimp only; split
    · exact htr _
    · split
      · split
        · exact htr _
        · exact ⟨rfl, rfl, rfl, rfl⟩
      · exact ⟨rfl, rfl, rfl, rfl⟩
  · unfold cooldownTest at h ⊢; split
    · rename_i hc; rw [if_pos hc] at h
      exfalso
      have : (completeCharge s.schedule.countAndRamp.charge.noted
            { s with schedule := s.schedule.countAndRamp }).schedule.charge.state = .complete := rfl
      have := h this
      first | cases this | (rw [hs] at this; cases this)
    · exact ⟨rfl, rfl, rfl, rfl⟩
  all_goals exact ⟨rfl, rfl, rfl, rfl⟩

/-- The first index that satisfies a test, from what stands at each index. -/
theorem firstIndex_eq {α : Type} (P : Nat → α → Bool) (l : List α) (i : Nat) (a : α)
    (h : l[i]? = some a) (hp : P i a = true)
    (hl : ∀ j b, j < i → l[j]? = some b → P j b = false) : firstIndex P 0 l = some i := by
  cases hf : firstIndex P 0 l with
  | none =>
    have := firstIndex_none hf h
    simp at this; rw [this] at hp; cases hp
  | some k =>
    obtain ⟨j, b, h1, h2, h3, h4⟩ := firstIndex_some hf
    simp at h1 h3 h4; subst h1
    rcases Nat.lt_trichotomy k i with hh | hh | hh
    · rw [hl k b hh h2] at h3; cases h3
    · rw [hh]
    · have := h4 i a hh h; rw [hp] at this; cases this

/-- No index satisfies a test that no element satisfies at its index. -/
theorem firstIndex_eq_none {α : Type} (P : Nat → α → Bool) (l : List α)
    (hl : ∀ j b, l[j]? = some b → P j b = false) : firstIndex P 0 l = none := by
  cases hf : firstIndex P 0 l with
  | none => rfl
  | some k =>
    obtain ⟨j, b, h1, h2, h3, _⟩ := firstIndex_some hf
    simp at h1 h3; subst h1; rw [hl k b h2] at h3; cases h3

end Sys2Proof.Machine
end

