-- ==== Sys2Proof/Laws/Tables.lean ====
section
/-! SUPPORT. What table writes, rankings, characters, the survey comparison and the order of phases can do, said
once. -/

namespace Sys2Proof.Machine

/-! ## Table writes (R167, R168) -/

/-- Records of one size, laid end to end, are split as they were. -/
theorem splitRecords_flatten (size : Nat) (records : List (List Byte))
    (h : ∀ b ∈ records, b.length = size) :
    splitRecords size records.length records.flatten = some records := by
  induction records with
  | nil => rfl
  | cons b l ih =>
    have hb := h b (by simp)
    have := ih fun x hx => h x (by simp [hx])
    simp only [List.length_cons, List.flatten_cons, splitRecords]
    simp [hb, this]

/-- One faulty record makes the whole judgment a fault. -/
theorem judgeAll_indexed_none {α β : Type} {parse : α → Option (β × Bool)} {l : List α} (k : Nat)
    (h : ∃ a ∈ l, parse a = none) : judgeAll (fun _ => parse) (indexed k l) = none := by
  induction l generalizing k with
  | nil => simp at h
  | cons b l ih =>
    simp only [indexed, judgeAll]
    cases hp : parse b with
    | none => rfl
    | some v =>
      obtain ⟨c, hc, hn⟩ := h
      rcases List.mem_cons.1 hc with rfl | hc
      · rw [hp] at hn; simp at hn
      · rw [ih (k + 1) ⟨c, hc, hn⟩]

/-- Records that are all judged without a clamp keep their places. -/
theorem judgeAll_indexed_some {α β : Type} {parse : α → Option (β × Bool)} {l : List α} (k : Nat)
    (h : ∀ a ∈ l, ∃ b, parse a = some (b, false)) :
    ∃ vs, judgeAll (fun _ => parse) (indexed k l) = some (vs, false) ∧
      vs.map Prod.fst = List.range' k l.length ∧
      ∀ (j : Nat) (a : α) (b : β), l[j]? = some a → parse a = some (b, false) →
        vs[j]? = some (k + j, b) := by
  induction l generalizing k with
  | nil => exact ⟨[], rfl, rfl, by simp⟩
  | cons b l ih =>
    obtain ⟨r, hr⟩ := h b (by simp)
    obtain ⟨vs, h1, h2, h3⟩ := ih (k + 1) fun x hx => h x (by simp [hx])
    refine ⟨(k, r) :: vs, by simp [indexed, judgeAll, hr, h1], by simp [h2, List.range'_succ], ?_⟩
    intro j c q hj hq
    cases j with
    | zero => simp at hj; subst hj; rw [hr] at hq; simp at hq; subst hq; rfl
    | succ j => simp at hj; have := h3 j c q hj hq; simp [this]; omega

/-- Values written to successive indices stand there, and every other entry stays. -/
theorem putAll_range {α β : Type} (f : β → α) (vs : List (Nat × β)) (k : Nat)
    (h : vs.map Prod.fst = List.range' k vs.length) (t : List α) (hl : k + vs.length ≤ t.length) :
    (∀ j, j < k ∨ k + vs.length ≤ j → (putAll (fun b _ => f b) vs t)[j]? = t[j]?) ∧
      ∀ (j : Nat) (b : β), vs[j]? = some (k + j, b) →
        (putAll (fun b _ => f b) vs t)[k + j]? = some (f b) := by
  induction vs generalizing k t with
  | nil => simp [putAll]
  | cons v vs ih =>
    simp [List.range'_succ] at h hl
    obtain ⟨h1, h2⟩ := h
    have := ih (k + 1) h2 (t.modify k fun _ => f v.2) (by simp; omega)
    have e : putAll (fun b _ => f b) (v :: vs) t =
        putAll (fun b _ => f b) vs (t.modify k fun _ => f v.2) := by simp [putAll, h1]
    rw [e]
    refine ⟨?_, ?_⟩
    · intro j hj
      simp at hj
      rw [this.1 j (by omega), List.getElem?_modify]
      simp [show k ≠ j by omega]
    · intro j r hj
      cases j with
      | zero =>
        simp at hj
        rw [Nat.add_zero, this.1 k (by omega), List.getElem?_modify]
        simp [show k < t.length by omega, hj]
      | succ j =>
        have := this.2 j r (by simp at hj; rw [hj]; simp; omega)
        rw [← this]; congr 1; omega

/-! ## Rankings (R87) -/

theorem rankInsert_perm (a : Nat × Nat) (l : List (Nat × Nat)) : (rankInsert a l).Perm (a :: l) := by
  induction l with
  | nil => exact .refl _
  | cons b l ih =>
    unfold rankInsert; split
    · exact .refl _
    · exact (ih.cons b).trans (.swap a b l)

/-- A ranking holds what was ranked. -/
theorem ranking_perm (l : List (Nat × Nat)) : (ranking l).Perm l := by
  induction l with
  | nil => exact .refl _
  | cons a l ih => exact (rankInsert_perm a _).trans (ih.cons a)

/-- The slots of a numbered list rise. -/
theorem indexed_pairwise {α : Type} (l : List α) (k : Nat) :
    (indexed k l).Pairwise (fun a b => a.1 < b.1) ∧ ∀ x ∈ indexed k l, k ≤ x.1 := by
  induction l generalizing k with
  | nil => simp [indexed]
  | cons a l ih =>
    have h := ih (k + 1)
    simp only [indexed, List.pairwise_cons, List.mem_cons]
    refine ⟨⟨fun x hx => ?_, h.1⟩, ?_⟩
    · have := h.2 x hx; omega
    · rintro x (rfl | hx)
      · exact Nat.le_refl _
      · have := h.2 x hx; omega

/-! ## Characters (R1, R7) -/

@[simp] theorem inPolarity_twice (p : Polarity) (c : LineBits) :
    inPolarity p (inPolarity p c) = c := by cases p <;> simp [inPolarity]

/-- A byte's character has even parity. -/
theorem charOf_even (b : Byte) : oddOnes (charOf b) = false := by
  have h : ∀ b : Byte, oddOnes (charOf b) = false := by decide +kernel
  exact h b

/-- A byte's character carries the byte. -/
@[simp] theorem dataOf_charOf (b : Byte) : dataOf (charOf b) = b := by
  have h : ∀ b : Byte, dataOf (charOf b) = b := by decide +kernel
  exact h b

/-! ## The survey's comparison (R66) and the order of phases (R101) -/

theorem lowest_none (l : List Nat) : lowest l = none ↔ l = [] := by cases l <;> simp [lowest]

theorem foldl_min (l : List Nat) (a : Nat) :
    (l.foldl min a = a ∨ l.foldl min a ∈ l) ∧ l.foldl min a ≤ a ∧ ∀ b ∈ l, l.foldl min a ≤ b := by
  induction l generalizing a with
  | nil => simp
  | cons c l ih =>
    obtain ⟨h1, h2, h3⟩ := ih (min a c)
    simp only [List.foldl_cons]
    refine ⟨?_, by omega, ?_⟩
    · rcases h1 with h | h
      · rw [h]; rcases Nat.le_total a c with hh | hh
        · left; omega
        · right; simp; left; omega
      · right; simp [h]
    · intro b hb; simp at hb; rcases hb with rfl | hb
      · omega
      · exact h3 b hb

/-- The lowest of some numbers is one of them, and none is below it. -/
theorem lowest_some (l : List Nat) (b : Nat) (h : lowest l = some b) : b ∈ l ∧ ∀ d ∈ l, b ≤ d := by
  cases l with
  | nil => simp [lowest] at h
  | cons a rest =>
    simp [lowest] at h; subst h
    obtain ⟨h1, h2, h3⟩ := foldl_min rest a
    refine ⟨?_, ?_⟩
    · simp; exact h1
    · intro d hd; simp at hd; rcases hd with rfl | hd
      · exact h2
      · exact h3 d hd

/-- The unknown nodes are the ANSWERED addresses that no configured record holds, each once. -/
theorem unknownNodes_spec (v : Survey) (rs : List (Nat × NodeKind)) :
    (unknownNodes v rs).Nodup ∧
      ∀ b, b ∈ unknownNodes v rs ↔
        (1 ≤ b ∧ b ≤ v.map.length ∧
          (∃ k c, v.map.getD (b - 1) .notSurveyed = .answered k c) ∧ ∀ r ∈ rs, r.1 ≠ b) := by
  constructor
  · have h := indexed_pairwise v.map 1
    unfold unknownNodes
    refine List.Pairwise.filterMap _ (R := fun x y => x.1 < y.1) ?_ ?_
    rotate_left
    · exact h.1
    intro a a' haa b hb b' hb'
    split at hb <;> split at hb' <;> simp at hb hb'
    subst hb hb'
    exact Nat.ne_of_lt haa
  · intro b
    simp only [unknownNodes, List.mem_filterMap]
    constructor
    · rintro ⟨⟨i, e⟩, hm, hh⟩
      obtain ⟨j, hj⟩ := List.mem_iff_getElem?.1 hm
      rw [indexed_getElem?] at hj
      cases hg : v.map[j]? with
      | none => rw [hg] at hj; cases hj
      | some m =>
        rw [hg] at hj; simp at hj; obtain ⟨rfl, rfl⟩ := hj
        split at hh
        · next h =>
          cases hh
          have hl := (List.getElem?_eq_some_iff.1 hg).1
          refine ⟨by omega, by omega, ?_, ?_⟩
          · rw [show 1 + j - 1 = j by omega, List.getD_eq_getElem?_getD, hg]
            cases m <;> simp_all [isAnswered]
          · intro r hr he
            have he' : r.1 = 1 + j := he
            simp at h
            exact h.2 r.2 (by rw [← he']; exact hr)
        · cases hh
    · rintro ⟨h1, h2, ⟨k, c, h3⟩, h4⟩
      refine ⟨(b, .answered k c), ?_, ?_⟩
      · refine List.mem_iff_getElem?.2 ⟨b - 1, ?_⟩
        rw [indexed_getElem?, List.getElem?_eq_getElem (by omega)]
        rw [List.getD_eq_getElem?_getD, List.getElem?_eq_getElem (by omega)] at h3
        simp at h3 ⊢; exact ⟨by omega, h3⟩
      · have : (rs.map Prod.fst).contains b = false := by
          rw [List.contains_eq_any_beq, List.any_eq_false]
          intro x hx
          obtain ⟨r, hr, rfl⟩ := List.mem_map.1 hx
          simpa using fun h => h4 r hr h.symm
        show (if (isAnswered (.answered k c) && !((rs.map Prod.fst).contains b)) = true then some b
          else none) = some b
        rw [this]; rfl

/-- Phases are in order where each is at or above the one before it. -/
theorem phasesOrdered_iff (l : List StepRecord) :
    phasesOrdered l = true ↔
      ∀ i a b, l[i]? = some a → l[i + 1]? = some b → a.phase.order ≤ b.phase.order := by
  induction l with
  | nil => simp [phasesOrdered]
  | cons a l ih =>
    cases l with
    | nil => simp [phasesOrdered]
    | cons b l =>
      simp only [phasesOrdered, Bool.and_eq_true, decide_eq_true_eq, ih]
      constructor
      · rintro ⟨h1, h2⟩ i x y hx hy
        cases i with
        | zero => simp at hx hy; subst hx hy; exact h1
        | succ i => exact h2 i x y (by simpa using hx) (by simpa using hy)
      · intro h
        exact ⟨h 0 a b (by simp) (by simp), fun i x y hx hy =>
          h (i + 1) x y (by simpa using hx) (by simpa using hy)⟩

/-- With every step below `n` loaded, the records of those steps stand at their own indices. -/
theorem loadedSteps_spec (e : Schedule) : ∀ n, (∀ i, i < n → e.stepAt i ≠ none) →
    ((List.range n).filterMap e.stepAt).length = n ∧
      ∀ i, i < n → ((List.range n).filterMap e.stepAt)[i]? = e.stepAt i := by
  intro n
  induction n with
  | zero => simp
  | succ n ih =>
    intro h
    obtain ⟨h1, h2⟩ := ih (fun i hi => h i (by omega))
    rw [List.range_succ, List.filterMap_append]
    obtain ⟨v, hv⟩ := Option.ne_none_iff_exists'.1 (h n (by omega))
    refine ⟨by simp [h1, hv], ?_⟩
    intro i hi
    by_cases hn : i < n
    · rw [List.getElem?_append_left (by omega)]; exact h2 i hn
    · have : i = n := by omega
      subst this
      rw [List.getElem?_append_right (by omega)]; simp [h1, hv]

end Sys2Proof.Machine
end

