-- ==== Sys2Proof/WellFormed.lean ====
section
/-! DEFINITION. Operations and events that the outside can really send: a COMMAND's payload fits a loop
frame, and a frame's characters end where R152 ends them. -/

namespace Sys2Proof

/-- The argument bytes of a COMMAND: at most 120 payload characters, less kind and tag (R153, R182). -/
def argsFit (args : List Byte) : Bool := decide (args.length ≤ 118)

/-- The argument bytes of a TABLE WRITE after its table code. -/
def writeFits (args : List Byte) : Bool := decide (args.length ≤ 117)

/-- The table code names a table that has a row of its own (R168). -/
def namesWritable (args : List Byte) : Bool :=
  match args with
  | [] => false
  | table :: _ => decide (table.toNat ≤ 8)

/-- A COMMAND payload that names a command: two bytes at least, and a kind 0 to 19 (R166, R182). -/
def namesCommand (payload : List Byte) : Bool :=
  match payload with
  | kind :: _ :: _ => decide (kind.toNat ≤ 19)
  | _ => false

/-- The characters of one loop frame: at least one, and none after the frame's end (R152). -/
def frameFits (chars : List Byte) : Bool :=
  !chars.isEmpty && decide (chars.length ≤ 127) &&
    (decide (chars.length < 4) ||
      decide (120 < (chars.getD 3 0#8).toNat) ||
      decide (chars.length ≤ (chars.getD 3 0#8).toNat + 7))

/-- Characters on loop-in: one frame where idle line stands on both sides, and otherwise at most as many as
the longest frame has (R152). -/
def arrivalFits (chars : List Byte) (how : LoopArrival) : Bool :=
  if how.idleBefore && how.idleAfter then frameFits chars else decide (chars.length ≤ 127)

/-- What loop-in presents: characters that can arrive so, or any levels (R152). -/
def signalFits (how : LoopArrival) : LoopSignal → Bool
  | .chars chars _ => arrivalFits chars how
  | .bits _ => true

/-- Whether an operation or event is well formed. -/
def Instr.wellFormed : Instr → Bool
  | .readStatus _ _ args => argsFit args
  | .tableWrite _ _ args => argsFit args && !namesWritable args
  | .tableWriteProbe _ _ args => writeFits args
  | .tableWriteAirpoint _ _ args => writeFits args
  | .tableWriteActuator _ _ args => writeFits args
  | .tableWriteCalibration _ _ args => writeFits args
  | .tableWriteSchedule _ _ args => writeFits args
  | .tableWriteChargeParams _ _ args => writeFits args
  | .tableWriteClimateParams _ _ args => writeFits args
  | .tableWriteLineParams _ _ args => writeFits args
  | .tableWritePassList _ _ args => writeFits args
  | .tableRead _ _ args => argsFit args
  | .startCharge _ _ args => argsFit args
  | .hold _ _ args => argsFit args
  | .resume _ _ args => argsFit args
  | .advance _ _ args => argsFit args
  | .setStep _ _ args => argsFit args
  | .abortCharge _ _ args => argsFit args
  | .stepAmend _ _ args => argsFit args
  | .override _ _ args => argsFit args
  | .wbSelect _ _ args => argsFit args
  | .surveyStart _ _ args => argsFit args
  | .surveyAbort _ _ args => argsFit args
  | .lineReset _ _ args => argsFit args
  | .restart _ _ args => argsFit args
  | .clearEvents _ _ args => argsFit args
  | .setEventMask _ _ args => argsFit args
  | .setReportMode _ _ args => argsFit args
  | .setStatusLines _ _ args => argsFit args
  | .unknownCommand _ payload => decide (payload.length ≤ 120) && !namesCommand payload
  | .restartEffect => true
  | .resetAssert => true
  | .resetRelease _ _ _ => true
  | .minuteTick => true
  | .quarantineEnd _ => true
  | .sweepTimerExpiry => true
  | .climateCycleExpiry => true
  | .refreshTimerExpiry _ => true
  | .reversalTimerExpiry => true
  | .coastTimerExpiry => true
  | .stepPulseEnd => true
  | .lineSelect => true
  | .leadEnd => true
  | .pollSent => true
  | .lagEnd => true
  | .characterReceived _ => true
  | .responseTimeout => true
  | .gapFault => true
  | .trailingWatchEnd _ => true
  | .abandonmentComplete => true
  | .loopFrameReceived signal how => signalFits how signal
  | .loopOutFrameSent => true
  | .loopOutHandover => true

end Sys2Proof
end

