-- ==== Sys2Proof/Tests/Slice0.lean ====
section
/-! SUPPORT. The model's own tests: well-formedness, values and worked examples of spec/, one step each, and for
each statement with hypotheses a state and operands that meet them.  A number in a comment is the spec's. -/

namespace Sys2Proof.Tests

open Sys2Proof.Machine

/-! ## Small states -/

/-- The machine at reset. -/
abbrev base : State := State.reset

/-- A step record: DRY, CTRL_MC_BELOW 250, DB 600, depression 120, minimum dwell 180, limit 10, trim 30
(worked example of chapter 7, step 3). -/
def dryStep : StepRecord :=
  { phase := .dry, criterion := .ctrlBelow, value := 250, dbTarget := 600, depTarget := 120,
    minDwell := 180, maxDwell := 0, overdue := .alarm, rateLimit := 10, rateTrim := 30 }

/-- A DWELL step of one minute. -/
def dwellStep : StepRecord :=
  { phase := .condition, criterion := .dwell, value := 1, dbTarget := 650, depTarget := 160,
    minDwell := 0, maxDwell := 480, overdue := .alarm, rateLimit := 0, rateTrim := 0 }

/-- The 15 bytes of `dryStep`. -/
def dryBytes : List Byte :=
  [0#8, 0#8, 250#8, 0#8, 0x58#8, 0x02#8, 120#8, 0#8, 180#8, 0#8, 0#8, 0#8, 0#8, 10#8, 30#8]

/-- Setpoints at a step's start. -/
def points : Setpoints :=
  { targetDb := 600, targetDep := 120, activeDb := 600, activeDep := 120, wbTarget := 480 }

/-- A schedule of two steps with a charge in a state, at a step. -/
def charged (st : ChargeState) (k : Nat) : State :=
  { base with
    schedule :=
      { steps := [some dryStep, some dwellStep] ++ List.replicate 22 none,
        params := { ChargeParams.powerOn with stepCount := some 2 },
        charge := { Charge.powerOn with state := st, step := k, setpoints := some points } } }

/-- A held charge with causes and a return state. -/
def held (op blind : Bool) (r : ReturnState) : State :=
  { charged .hold 0 with
    schedule :=
      { (charged .hold 0).schedule with
        charge :=
          { (charged .hold 0).schedule.charge with
            causes := { operator := op, blind := blind }, returnState := some r } } }

/-- A running charge with an amendment of its current step pending. -/
def amending : State :=
  { charged .running 0 with
    schedule :=
      { (charged .running 0).schedule with
        charge :=
          { (charged .running 0).schedule.charge with amendment := some (0, dwellStep) } } }

/-- A node record with an address, in a state. -/
def node (a : Nat) (st : NodeState) : NodeRecord := { NodeRecord.blank with address := some a, state := st }

/-- A probe at an address. -/
def probeAt (a : Nat) (st : NodeState) : ProbeRecord := { ProbeRecord.powerOn with node := node a st }

/-- An air point at an address, fresh at 58.5 °C. -/
def airAt (a : Nat) (role : AirRole) (zone : Option Nat) : AirRecord :=
  { node := node a .active, role := role, zone := zone, lastTemp := some 585, cycles := 1 }

/-- An actuator at an address. -/
def actuatorAt (a : Nat) : Actuator := { Actuator.powerOn with address := some a }

/-- A machine with some probes in its first slots. -/
def withProbes (l : List ProbeRecord) : State :=
  { base with
    nodes := { base.nodes with probes := l ++ List.replicate (64 - l.length) .powerOn } }

/-- A machine with some air points in its first entries. -/
def withAirs (l : List AirRecord) (s : State) : State :=
  { s with nodes := { s.nodes with airs := l ++ List.replicate (8 - l.length) .powerOn } }

/-- A machine with some actuators in its first entries. -/
def withActs (l : List Actuator) : State :=
  { base with
    outputs := { base.outputs with entries := l ++ List.replicate (12 - l.length) .powerOn } }

/-- A sweep in progress over one probe. -/
def sweeping : State :=
  { withProbes [probeAt 37 .active] with line := { base.line with sweeping := true } }

/-- A climate poll due. -/
def airDue : State :=
  { withAirs [airAt 40 .zoneDb (some 2)] base with
    line := { base.line with pollDue := true :: List.replicate 7 false } }

/-- A survey just started. -/
def surveying : State := { base with survey := base.survey.start }

/-- A SET due (its value was never acknowledged), and one urgent. -/
def setDueState : State := withActs [actuatorAt 52]
def urgentState : State := withActs [{ actuatorAt 52 with owed := 4, acknowledged := some (.percent 0) }]

/-- A READ of slot 12 at line address 37, in REVERSED (worked sequence of chapter 1). -/
def readReq : Request :=
  { owner := .probe 12, address := 37, kind := .read, argument := none, polarity := .reversed }

/-- A SET to an actuator. -/
def setReq : Request :=
  { owner := .actuator 0, address := 52, kind := .set, argument := some (.percent 45),
    polarity := .normal }

/-- The values latched at power-on parameters. -/
def latched0 : LatchedParams := { glitchWidth := 3, lead := 8, lag := 8, timeout := 20 }

/-- A transaction in a phase with a count. -/
def inPhase (ph : PlpPhase) (r : Request) (count : Nat) : State :=
  { base with
    plp := { Plp.powerOn with phase := ph, request := some r, latched := some latched0, count := count },
    line := { base.line with condition := .busy } }

/-- The READ poll in SENDING, with a character of it being sent. -/
def sendingAt (next age : Nat) : State :=
  { inPhase .sending readReq 0 with
    plp :=
      { (inPhase .sending readReq 0).plp with
        poll := pollChars readReq, pollNext := next, pollAge := age } }

/-- A GOOD READING response. -/
def goodReading (seq : Nat) (payload : List Byte) : GoodResponse :=
  { sync := .reversed, kind := .reading, check := .lrc, sequence := seq, payload := payload }

/-- A delivered outcome for a request. -/
def outcomeOf (r : Request) (o : LineOutcome) : OutcomeRecord :=
  { request := r, outcome := o, response := none }

/-- A frame to a station. -/
def frameTo (dest source kind : Byte) (hops : Nat) : LoopFrame :=
  { dest := dest, source := source, kind := kind, edh := false, eda := false, hops := hops,
    payload := [4#8, 7#8] }

/-- A machine with queues and loop-out as given. -/
def looping (rq : List LoopFrame) (iq : List InsertEntry) (run : Nat) (out : LoopOut) : State :=
  { base with
    loop := { base.loop with repeatQueue := rq, insertQueue := iq, run := run, out := out } }

/-- Some entries of the Insert Queue. -/
def entries (n : Nat) (kind : Byte) : List InsertEntry :=
  List.replicate n { frame := frameTo 0#8 1#8 kind 0, restartReply := false }

/-- A COMMAND being carried out, with some waiting. -/
def busyWith (c : LoopCommand) (n : Nat) : State :=
  { base with
    command := { current := some c, restarting := false, waiting := List.replicate n c } }

/-- RESUME from station 0. -/
def resumeCommand : LoopCommand := namedCommand 0#8 5#8 1#8 []

/-- A charge whose climate loops run, with zone 2 served by an air point (worked example of chapter 8). -/
def heating (a : AirRecord) (value stale : Nat) (mode : LoopMode) : State :=
  withAirs [a]
    { charged .running 0 with
      climate :=
        { Climate.powerOn with
          fan := .forward,
          params := { ClimateParams.powerOn with staleHold := 3 },
          zones :=
            [ZoneLoop.safe,
             { demand := some value, value := value, mode := mode, stale := stale, measured := none },
             ZoneLoop.safe, ZoneLoop.safe] } }

/-- Any COMMAND is carried out at once after reset. -/
theorem carries_base (c : LoopCommand) : base.carries c := ⟨rfl, rfl⟩

/-! ## Well-formedness -/

/-- Every command row with arguments too long for a loop frame is refused. -/
theorem test_wellFormed_arguments :
    ([.readStatus, .tableWrite, .tableWriteProbe, .tableWriteAirpoint, .tableWriteActuator,
      .tableWriteCalibration, .tableWriteSchedule, .tableWriteChargeParams, .tableWriteClimateParams,
      .tableWriteLineParams, .tableWritePassList, .tableRead, .startCharge, .hold, .resume, .advance,
      .setStep, .abortCharge, .stepAmend, .override, .wbSelect, .surveyStart, .surveyAbort, .lineReset,
      .restart, .clearEvents, .setEventMask, .setReportMode, .setStatusLines] :
        List (Byte → Byte → List Byte → Instr)).all
      (fun row => !(row 0#8 0#8 (List.replicate 119 9#8)).wellFormed) = true := by decide

/-- A TABLE_WRITE row that names a table with a row of its own is refused, by its code. -/
theorem test_wellFormed_table_code :
    (Instr.tableWrite 0#8 0#8 [8#8, 0#8]).wellFormed = false ∧
    (Instr.tableWrite 0#8 0#8 [9#8, 0#8]).wellFormed = true := by decide

/-- The rows of one table carry one byte less. -/
theorem test_wellFormed_table_rows :
    (Instr.tableWriteProbe 0#8 0#8 (List.replicate 118 0#8)).wellFormed = false ∧
    (Instr.tableWriteProbe 0#8 0#8 (List.replicate 117 0#8)).wellFormed = true := by decide

/-- An UNKNOWN_COMMAND row that names a command, or that no frame can carry, is refused. -/
theorem test_wellFormed_unknown :
    (Instr.unknownCommand 0#8 [19#8, 0#8]).wellFormed = false ∧
    (Instr.unknownCommand 0#8 [20#8, 0#8]).wellFormed = true ∧
    (Instr.unknownCommand 0#8 (List.replicate 121 0xFF#8)).wellFormed = false := by decide +kernel

/-- A frame with no character, one beyond its length field, one of 128 characters, and a part of a frame longer than
any frame are refused. -/
theorem test_wellFormed_frame :
    let chars := [1#8, 0#8, 0#8, 1#8, 0#8, 0#8, 0#8, 0#8]
    let part := { LoopArrival.whole with idleAfter := false }
    (Instr.loopFrameReceived (.chars [] false) .whole).wellFormed = false ∧
    (Instr.loopFrameReceived (.chars (chars ++ [0#8]) false) .whole).wellFormed = false ∧
    (Instr.loopFrameReceived (.chars chars false) .whole).wellFormed = true ∧
    (Instr.loopFrameReceived (.chars (List.replicate 128 0xFF#8) false) .whole).wellFormed = false ∧
    (Instr.loopFrameReceived (.chars [] false) part).wellFormed = true ∧
    (Instr.loopFrameReceived (.chars (List.replicate 128 0xFF#8) false) part).wellFormed = false ∧
    (Instr.loopFrameReceived (.bits []) .whole).wellFormed = true := by
  dsimp only; decide +kernel

/-- The events that carry no operand, or one of a fixed type, are well formed. -/
theorem test_wellFormed_events :
    (Instr.minuteTick).wellFormed = true ∧ (Instr.quarantineEnd 71).wellFormed = true ∧
    (Instr.characterReceived (.raw [])).wellFormed = true := by decide

/-! ## Checks and characters (R181, R185) -/

/-- The CRC-16 over the characters 1 to 9 is 0x29B1 (R185). -/
theorem test_crc_worked_value :
    crc16 [0x31#8, 0x32#8, 0x33#8, 0x34#8, 0x35#8, 0x36#8, 0x37#8, 0x38#8, 0x39#8] = 0x29B1#16 := by
  decide +kernel

/-- The LRC over 25, 81, 0A, 00 is 0x50 (R185). -/
theorem test_lrc_worked_value : lrcByte [0x25#8, 0x81#8, 0x0A#8, 0x00#8] = 0x50#8 := by decide

/-- The sync character is 0xB5 with its parity bit; reversed it is 0x04A (R181). -/
theorem test_sync_forms : syncChar = 0x1B5#9 ∧ inPolarity .reversed syncChar = 0x04A#9 := by decide

/-- A READ poll for line address 37 is five characters, the second the address (R6). -/
theorem test_poll_of_address_37 :
    (pollChars readReq).length = 5 ∧
    ((pollChars readReq).map (inPolarity .reversed))[1]? = some (charOf 37#8) := by decide +kernel

/-- The raw line of a character after `n` sixteenths of idle line: start, nine bits, stop. -/
def drawn (n : Nat) (c : LineBits) (framing : Bool) : List Bool :=
  List.replicate n true ++
    ([false] ++ (List.range 9).map c.getLsbD ++ [!framing]).flatMap (List.replicate 16)

/-- A machine in a phase whose receiver has seen the idle line. -/
def seen (ph : PlpPhase) : State :=
  { inPhase ph readReq 0 with
    plp :=
      { (inPhase ph readReq 0).plp with receiver := { filter := .atIdle, phase := .hunting } } }

/-- A sync drawn on the raw line at the power-on width is taken in AWAIT, and not with DE high (R1 to R3, R9). -/
theorem test_raw_character :
    (characterReceived (.raw (drawn 20 syncChar false)) (seen .await)).plp.sync = some .normal ∧
    (characterReceived (.raw (drawn 20 syncChar false)) (seen .lag)).plp.count = 0 := by decide +kernel

/-- A line that stays active after a framing fault is no second character (R1), and neither is one held active
through power-on (R19). -/
theorem test_raw_line_held_active :
    (characterReceived (.raw (drawn 5 0#9 true ++ List.replicate 200 false)) (seen .await)).plp.count = 1 ∧
    (characterReceived (.raw (List.replicate 200 false)) (inPhase .await readReq 0)).plp.count = 0 := by
  decide +kernel

/-- A character whose start bit showed with DE high is not taken in after DE has fallen (R3). -/
theorem test_raw_character_across_lag_end :
    let raw := drawn 5 syncChar false
    let before := characterReceived (.raw (raw.take 40)) (seen .lag)
    (characterReceived (.raw (raw.drop 40 ++ drawn 3 syncChar false)) (lagEnd before)).plp.count = 1 := by
  dsimp only; decide +kernel

/-! ## Worked examples of spec/ -/

/-- Species group 2 of the worked example of chapter 5. -/
def group2 : SpeciesGroup :=
  { points := [(600, 300), (1200, 220), (1800, 160), (2600, 110)], slope := 6 }

/-- L 1457 with wood temperature 624 converts to MC20 194 and MC 145 (worked example of chapter 5). -/
theorem test_conversion_worked_example :
    convertStages group2 none none { lcode := 1457, pinFault := false, wood := some 624, tempFault := false } =
      .valid { wood := 624, source := .probe, mc20 := 194, mc := 145, clamp := .none } := by decide +kernel

/-- Below the first breakpoint the curve is clamped WET, above the last DRY (R75). -/
theorem test_curve_ends :
    readCurve group2.points 599 = (300, .wet) ∧ readCurve group2.points 600 = (300, .none) ∧
    readCurve group2.points 2601 = (110, .dry) := by decide

/-- A slot of the worked example of chapter 6. -/
def slotOf (incl : Bool) (st : NodeState) (v : Validity) (age : Nat) : ProbeRecord :=
  { node := node 1 st, group := 0, zone := 1, incl := incl,
    reading := some { lcode := 1000, validity := v, seqGap := false, sweep := 9120, age := age } }

/-- A VALID reading of an MC. -/
def mcOf (mc : Nat) : Validity :=
  .valid { wood := 200, source := .probe, mc20 := mc, mc := mc, clamp := .none }

/-- The Probe Table of the worked example of chapter 6. -/
def exampleSlots : List ProbeRecord :=
  [slotOf true .active (mcOf 312) 0, slotOf false .active (mcOf 350) 0,
   slotOf true .active (.invalid .open) 0, slotOf true .active (mcOf 298) 1,
   slotOf true .active (mcOf 330) 3, slotOf true .active (mcOf 312) 0, .powerOn,
   slotOf true .active (mcOf 260) 0, .powerOn, slotOf true .suspect (mcOf 400) 0]

/-- n 4, k 3, slots 0, 5 and 3, controlling MC 307, wettest slot 0, driest slot 7 (chapter 6). -/
theorem test_evaluation_worked_example :
    let e := evaluate exampleSlots { ChargeParams.powerOn with w := 3, q := 4 } .powerOn [] 9120
    e.n = 4 ∧ e.k = 3 ∧ e.slots = [0, 5, 3] ∧ e.controlling = some 307 ∧
      e.wettest = some (0, 312) ∧ e.driest = some (7, 260) ∧ e.blind = false := by dsimp only; decide +kernel

/-- With W 6 the mean 295.5 rounds to 296; with Q 5 the evaluation is blind (chapter 6). -/
theorem test_evaluation_other_parameters :
    (evaluate exampleSlots { ChargeParams.powerOn with w := 6, q := 4 } .powerOn [] 9120).controlling =
      some 296 ∧
    (evaluate exampleSlots { ChargeParams.powerOn with w := 3, q := 5 } .powerOn [] 9120).blind = true := by
  decide

/-- An evaluation record of the history. -/
def pastRecord (sweep minute mc : Nat) : EvalRecord :=
  { sweep := sweep, minute := minute, n := 4, k := 3, controlling := some mc, wettest := none,
    driest := none, slots := [], blind := false, rate := none }

/-- 330 to 307 over 180 minutes is 7 a hour, the fraction discarded (chapter 6). -/
theorem test_drying_rate_worked_example :
    dryingRate [pastRecord 3100 1200 330] 1380 307 = some 7 := by decide

/-- The raw value 35 moves the loop from 22 by the slew to 32 (chapter 8, expiry 1). -/
theorem test_heat_loop_worked_example :
    let p := { ClimateParams.powerOn with staleHold := 3 }
    ({ ZoneLoop.safe with value := 22 }.track p 600 585).value = 32 ∧
    rawHeat { p with heatGain := 15 } 600 607 = 9 := by dsimp only; decide +kernel

/-- h 12 gives vent 14, h −10 spray 5, h 3 neither; with gain 15 the spray is 8 (chapter 8). -/
theorem test_humidity_worked_example :
    ventSpray .powerOn 12 = (14, 0) ∧ ventSpray .powerOn (-10) = (0, 5) ∧
    ventSpray .powerOn 3 = (0, 0) ∧
    ventSpray { ClimateParams.powerOn with sprayGain := 15 } (-10) = (0, 8) := by decide

/-- ACTIVE, with G G G G G G M M, a BAD brings SUSPECT with detail 4 (worked sequence of chapter 3). -/
theorem test_supervision_worked_sequence :
    let n := { node 19 .active with
      polarity := some .normal, lastSequence := some 6, misses := 2,
      window := [.good, .good, .good, .good, .good, .good, .miss, .miss] }
    let t := n.take 4 10 (outcomeOf readReq .bad)
    t.1.state = .suspect ∧ t.1.misses = 0 ∧ t.2 = [(.probeSuspect, some 4)] := by dsimp only; decide +kernel

/-- Sequence number 11 after 6 is a GAP, and 0 after 15 NORMAL (R47, chapter 3). -/
theorem test_sequence_judgments :
    judgeSequence (some 6) 11 = .gap ∧ judgeSequence (some 15) 0 = .normal ∧
    judgeSequence (some 6) 6 = .repeated := by decide

/-- 3 failures in the window stay DEGRADED, 2 return to UP (worked sequence of chapter 3). -/
theorem test_line_window_worked_sequence :
    nextHealth .degraded (List.replicate 3 .bad ++ List.replicate 29 .good) .good 8 = .degraded ∧
    nextHealth .degraded (List.replicate 2 .bad ++ List.replicate 30 .good) .good 8 = .up ∧
    nextHealth .up (List.replicate 24 .good ++ List.replicate 8 .bad) .bad 8 = .degraded := by decide

/-- The survey of the worked example of chapter 4: 3 mismatches, 1 unknown, first address 12. -/
theorem test_survey_worked_example :
    let map := (List.range 126).map fun i =>
      if i + 1 = 10 then MapEntry.answered .probe .crc
      else if i + 1 = 11 then .answered .probe .lrc
      else if i + 1 = 40 then .answered .air .crc
      else if i + 1 = 41 then .garbled
      else if i + 1 = 60 then .answered .actuator .crc
      else if i + 1 = 61 then .answered .probe .crc
      else if i + 1 = 90 then .answered .actuator .crc
      else .noAnswer
    compare { Survey.powerOn with map := map }
        [(10, .probe), (11, .probe), (12, .probe), (40, .air), (41, .air), (60, .actuator),
          (61, .actuator)] =
      { mismatches := 3, unknowns := 1, first := some 12 } := by dsimp only; decide +kernel

/-- ECHO 34 for a SET of 42 at mismatch count 2 raises ACTUATOR_MISMATCH with detail 5 (chapter 9). -/
theorem test_sticking_vent_worked_sequence :
    let a := { actuatorAt 71 with function := .vent, state := .active, mismatches := 2 }
    let t := a.takeGood 5 false (.percent 42)
      { sync := .normal, kind := .echo, check := .crc, sequence := 1, payload := [34#8] }
    t.1.mismatches = 3 ∧ t.1.acknowledged = some (.percent 42) ∧ t.2 = [(.actuatorMismatch, some 5)] := by
  dsimp only; decide +kernel

/-- A minute tick ramps DB by 5 and depression by 2 toward the step's targets (chapter 7, minute 2,181). -/
theorem test_ramp_worked_example :
    let e := (charged .running 1).schedule
    e.ramp { points with targetDb := 650, targetDep := 160 } =
      { targetDb := 650, targetDep := 160, activeDb := 605, activeDep := 122, wbTarget := 483 } := by
  dsimp only; decide +kernel

/-- A damaged frame for station 7 is repeated by station 30 with EDH set and one hop more (chapter 10). -/
theorem test_bad_span_worked_example :
    (badFrame (frameTo 7#8 0#8 0#8 1) base).loop.repeatQueue =
      [{ frameTo 7#8 0#8 0#8 2 with edh := true }] := by decide +kernel

/-- Characters that come before the idle line after power-on are discarded, and a frame may come in parts
(R152, R165). -/
theorem test_loop_in_waits_for_idle :
    let chars := (frameTo 7#8 0#8 0#8 1).chars
    let part (before after : Bool) : LoopArrival :=
      { idleBefore := before, idleAfter := after }
    (loopHeard (.chars chars false) (part false false) base).loop.repeatQueue = [] ∧
    (loopHeard (.chars (chars.drop 4) false) (part false true)
      (loopHeard (.chars (chars.take 4) false) (part true false) base)).loop.repeatQueue =
      [frameTo 7#8 0#8 0#8 2] := by dsimp only; decide +kernel

/-- Byte 0xB5 on the plant loop: a start bit, the data bits 1, 0, 1, 0, 1, 1, 0, 1 and a stop bit (R152). -/
theorem test_loop_character_levels :
    loopLevels 0xB5#8 = [false, true, false, true, false, true, true, false, true, true] := by decide

/-- A frame drawn on loop-in between idle line is repeated, with EDH set where its last stop bit is active, and is
discarded after only 22 bit times of idle line, 2 character times of 11 bits (R152, R154, R155; 00_scope.md,
section 6). -/
theorem test_loop_levels_received :
    let f := frameTo 7#8 0#8 0#8 1
    let drawn := f.chars.flatMap loopLevels
    let part : LoopArrival := { idleBefore := false, idleAfter := false }
    let heard (levels : List Bool) := (loopHeard (.bits levels) part base).loop.repeatQueue
    let idle := List.replicate 23 true
    heard (idle ++ drawn ++ idle) = [frameTo 7#8 0#8 0#8 2] ∧
    heard (idle ++ drawn.dropLast ++ [false]) = [{ frameTo 7#8 0#8 0#8 2 with edh := true }] ∧
    heard (idle.drop 1 ++ drawn ++ idle) = [] := by dsimp only; decide +kernel

/-- RESTART while the first character of a frame is on loop-in: that frame is abandoned (R165). -/
theorem test_restart_in_first_character :
    let f := frameTo 7#8 0#8 0#8 1
    let drawn := List.replicate 23 true ++ f.chars.flatMap loopLevels
    let part : LoopArrival := { idleBefore := false, idleAfter := false }
    let s := loopHeard (.bits (drawn.take 26)) part base
    s.loop.loopIn = .ready ∧
    (loopHeard (.bits (drawn.drop 26)) part (restartEffect s)).loop.repeatQueue = [] ∧
    (loopHeard (.bits (drawn.drop 26)) part s).loop.repeatQueue = [frameTo 7#8 0#8 0#8 2] := by
  dsimp only; decide +kernel

/-- LINE RESET in SENDING with 100 sixteenths of the second character sent: it is completed 76 sixteenths later, no
further character is sent, and DE stays high; with no LINE RESET the third character follows (R3, R18). -/
theorem test_abandoned_poll_completes_character :
    let s := sendingAt 2 100
    let t := lineResetEffect s
    let after (n : Nat) (u : State) := characterReceived (.raw (List.replicate n true)) u
    (after 75 t).pollOut = ((pollChars readReq).drop 1).take 1 ∧ (after 76 t).pollOut = [] ∧
    (after 76 t).de = true ∧ (after 76 s).pollOut = (pollChars readReq).drop 2 := by
  dsimp only; decide +kernel

/-- The sync character of a REVERSED poll on PL_TX: an active start bit, which no polarity changes, then the bits of
0xB5 complemented, from the least significant (R1, R7, R181). -/
theorem test_poll_levels :
    (List.range 5).map (fun n => (sendingAt 1 (16 * n)).plTx) = [false, false, true, false, true] := by
  decide +kernel

/-- The 32nd MISS in a row at address 126 completes the survey, and the start request at the entry into DOWN is
ignored (R69). -/
theorem test_down_at_last_ping_starts_no_survey :
    let r := { readReq with owner := .survey 126, address := 126, kind := .ping }
    let s : State :=
      { base with
        nodes := { base.nodes with health := .degraded, lineWindow := List.replicate 31 .miss },
        survey := { surveying.survey with next := none, inFlight := some 126 } }
    let t := deliver (outcomeOf r .miss) s
    t.nodes.health = .down ∧ t.survey.condition = .idle ∧ t.survey.count = 1 ∧
      t.survey.comparison.isSome = true := by dsimp only; decide +kernel

/-- With 12 frames held a REPORT enters, with 13 it is lost and the gap mark is set (chapter 10). -/
theorem test_reserved_places_worked_example :
    (offerReport 2#8 [] (looping [] (entries 12 kindReport) 0 .idle)).loop.insertQueue.length = 13 ∧
    (offerReport 0#8 [] (looping [] (entries 13 kindReport) 0 .idle)).loop.reportGap = true ∧
    (offerReport 0#8 [] (looping [] (entries 13 kindReport) 0 .idle)).events.latched 23 = true := by
  decide +kernel

/-- Slot 14 after slot 9: the detail stays 9 (worked sequence of chapter 11). -/
theorem test_detail_kept_worked_sequence :
    let u := (EventUnit.powerOn.latch (.probeLost, some 9)).latch (.probeLost, some 14)
    u.flags[3]? = some { set := true, detail := some 9 } := by dsimp only; decide +kernel

/-! ## Witnesses: a state and operands that meet each statement's hypotheses, clause by clause -/

theorem witness_StepRunsFrontOfQueue :
    ({ base with pending := [.minuteTick, .leadEnd] } : State).pending = .minuteTick :: [.leadEnd] := rfl

/-- The sweep timer at 60 and at 2, the climate cycle timer at 10 and at 2. -/
theorem witness_SecondTickCountsDown :
    (base.pending = [] ∧ base.resetHeld = false ∧ base.command.current = none ∧
      base.line.refreshTimers = List.replicate 12 none ∧ base.climate.coastTimer = none) ∧
    base.line.sweepTimer = 58 + 2 ∧ base.line.climateTimer = 8 + 2 ∧
    ({ base.line with sweepTimer := 2, climateTimer := 2 } : Arbiter).sweepTimer = 0 + 2 := by decide

/-- Both queues full, four COMMANDs waiting, the repeat run at 4. -/
def fullQueues : State :=
  { looping (List.replicate 4 (frameTo 9#8 8#8 0#8 1))
      (entries 13 kindReport ++ entries 3 kindNotice) 4 .idle with
    command := { current := some resumeCommand, restarting := true,
                 waiting := List.replicate 4 resumeCommand } }

theorem witness_QueueBoundsKept :
    (fullQueues.queuesBounded ∧ fullQueues.reportsBounded) ∧ ∃ t, step fullQueues = .next t :=
  ⟨by unfold State.queuesBounded State.reportsBounded; decide, _, rfl⟩

/-- A count of 41, the place after the last character of a poll, owed counts of −3 and 8, the confirmation counter at C and the blind counter at B. -/
def fullCounts : State :=
  { charged .running 0 with
    plp :=
      { Plp.powerOn with
        count := 41, phase := .sending, poll := pollChars readReq, pollNext := 6, pollAge := 175 },
    outputs :=
      { (withActs [{ actuatorAt 1 with owed := -3 }, { actuatorAt 2 with owed := 8 }]).outputs with
        dropMark := false },
    schedule :=
      { (charged .running 0).schedule with
        charge := { (charged .running 0).schedule.charge with confirmation := 2, blinds := 3 } } }

theorem witness_CountsStayBounded :
    (fullCounts.countBounded ∧ fullCounts.pollPlaced ∧ fullCounts.owedBounded ∧ fullCounts.countersBounded) ∧
      ∃ t, step fullCounts = .next t :=
  ⟨by unfold State.countBounded State.pollPlaced State.owedBounded State.countersBounded; decide +kernel, _, rfl⟩

/-- Records at addresses 1 and 126 in two tables, both searched by a step. -/
theorem witness_AddressesStayUnique :
    let s := withAirs [airAt 126 .wb none] (withProbes [probeAt 1 .active])
    s.addressesUnique ∧ ∃ t, step s = .next t :=
  ⟨by unfold State.addressesUnique; decide +kernel, _, rfl⟩

/-- The last step of a schedule of two. -/
theorem witness_CurrentStepStaysInSchedule :
    (charged .running 1).stepInSchedule ∧ ∃ t, step (charged .running 1) = .next t := by
  refine ⟨⟨?_, fun _ => ⟨2, rfl, by decide⟩⟩, _, rfl⟩
  intro n h; cases h; decide

theorem witness_VentAndSprayStayExclusive :
    let s : State := { base with climate := { base.climate with vent := some 100, spray := some 0 } }
    s.airOneWay ∧ ∃ t, step s = .next t :=
  ⟨.inr rfl, _, rfl⟩

/-- A filter of width 8 and a pulse of 7 sixteenths, and one of width 1; a receiver looking for a start bit, one at
power-on before one idle sixteenth, one after a framing fault, and DE high; bits of a character to be ignored. -/
theorem witness_GlitchFilterWidth :
    let s (w : Nat) : State := { base with lineParams := { base.lineParams with glitchWidth := w } }
    let ready : Receiver := { filter := .atIdle, phase := .hunting }
    let with_ (r : Receiver) : State := { base with plp := { base.plp with receiver := r } }
    (7 < 8) ∧ (s 8).resetHeld = false ∧ 1 ≤ (s 8).filterWidth ∧ (s 8).filterWidth ≤ 8 ∧
    7 < (s 8).filterWidth ∧ 1 ≤ (s 1).filterWidth ∧ 0 < (s 1).filterWidth ∧ (s 1).de = false ∧
    (with_ ready).plp.receiver = ready ∧ ((s 1).plp.receiver = .powerOn ∧ 1 ≤ 1) ∧
    (with_ (.afterChar true)).plp.receiver = .afterChar true ∧
    ((seen .lag).de = true ∧ (seen .lag).plp.receiver = ready) ∧
    ((with_ { ready with phase := .skipping 7 }).plp.receiver.phase = .skipping 7 ∧
      7 + (List.replicate 160 false).length < 168) := by
  dsimp only; decide +kernel

theorem witness_PollsAndChecks : readReq.argument = none ∧ setReq.argument = some (.percent 45) := by
  decide

/-- The longest payload at the highest hop count. -/
theorem witness_LoopFrameRoundTrip :
    let f := { frameTo 7#8 0#8 0#8 31 with payload := List.replicate 120 0xA5#8 }
    f.payload.length ≤ 120 ∧ f.hops ≤ 31 := by dsimp only; decide +kernel

/-- The longest payload, from the highest address, after three noise characters. -/
theorem witness_ResponseHeardWhole :
    let r := { readReq with address := 126 }
    let s := inPhase .await r 3
    let payload := List.replicate 30 0x5A#8
    s.resetHeld = false ∧ s.plp.phase = .await ∧ s.plp.request = some r ∧ s.plp.faults = [] ∧
    s.plp.fields = [] ∧ s.plp.declaredEnd = none ∧ payload.length ≤ 30 ∧ r.address ≤ 126 ∧
    s.plp.count + payload.length + 7 ≤ 40 := by dsimp only; decide +kernel

/-- What an idle line chooses in each class, with no sweep due to complete. -/
theorem witness_LineSelectIssuesChosenRequest :
    (urgentState.choose.map Request.owner = some (.actuator 0) ∧
      airDue.choose.map Request.owner = some (.air 0) ∧
      surveying.choose.map Request.owner = some (.survey 1) ∧
      sweeping.choose.map Request.owner = some (.probe 0)) ∧
    ([urgentState, airDue, surveying, sweeping, base].all fun s =>
      !s.resetHeld && s.line.condition == .idle && !s.sweepDone) = true ∧
    base.choose = none ∧ (inPhase .await readReq 0).line.condition ≠ .idle := by decide +kernel

/-- A chosen request of every class. -/
theorem witness_SelectionOrder :
    urgentState.choose.isSome = true ∧ setDueState.choose.isSome = true ∧ airDue.choose.isSome = true ∧
    surveying.choose.isSome = true ∧ sweeping.choose.isSome = true := by decide +kernel

/-- The requests of R23: a SET, a climate poll of a point in its search, PINGs of an address of no record and of a
probe heard in REVERSED, a probe poll in a learned polarity, and a selection with nothing eligible. -/
theorem witness_SelectionOrder_requests :
    let heard (st : NodeState) := { probeAt 37 st with node := { node 37 st with polarity := some .reversed } }
    let pinging (l : List ProbeRecord) (address : Nat) : State :=
      { withProbes l with
        survey := { base.survey with condition := .running, next := some address, inFlight := none } }
    let polling : State :=
      { withProbes [heard .active] with line := { base.line with sweeping := true } }
    let sent (s : State) := s.choose.map fun r => (r.kind, r.address, r.polarity)
    sent urgentState = some (.set, 52, .normal) ∧ sent setDueState = some (.set, 52, .normal) ∧
    (urgentState.urgentItem = some 0 ∧ setDueState.urgentItem = none ∧ setDueState.setItem = some 0) ∧
    sent { airDue with
      line :=
        { airDue.line with
          airSearch := { polarity := .reversed, tally := 0 } :: airDue.line.airSearch.drop 1 } } =
      some (.read, 40, .reversed) ∧
    sent (pinging [heard .active] 9) = some (.ping, 9, .normal) ∧
    sent (pinging [heard .active] 37) = some (.ping, 37, .reversed) ∧
    sent polling = some (.read, 37, .reversed) ∧ base.choose = none := by
  dsimp only; decide +kernel

theorem witness_PollPhasesRun :
    ([PlpPhase.lead, .sending, .lag, .await].all fun ph =>
      let s := inPhase ph readReq 0
      !s.resetHeld && s.plp.request == some readReq && s.plp.latched == some latched0 &&
        s.plp.phase == ph) = true ∧
    latched0.lag ≠ 0 ∧ ({ latched0 with lag := 0 } : LatchedParams).lag = 0 ∧
    (sendingAt 5 175).plp.phase = .sending ∧ (sendingAt 5 175).pollPlaced :=
  by unfold State.pollPlaced; decide +kernel

/-- A REVERSED response being received, 39 characters in. -/
def heard : State :=
  { inPhase .receiving readReq 39 with
    plp := { (inPhase .receiving readReq 39).plp with sync := some .reversed } }

/-- Each phase at counts 0 and 39, each form of character, and the 41st character. -/
theorem witness_CharactersTaken :
    (base.plp.phase = .idle ∧ base.resetHeld = false) ∧
    ((inPhase .await readReq 39).plp.phase = .await ∧ (inPhase .await readReq 39).plp.count < 40) ∧
    (0x0FF#9 ≠ charOf 0xB5#8 ∧ 0x0FF#9 ≠ ~~~(charOf 0xB5#8)) ∧
    heard.plp.request = some readReq ∧
    (heard.plp.phase = .receiving ∧ heard.plp.count < 40 ∧ heard.plp.sync = some .reversed ∧
      oddOnes (inPolarity .reversed 0x0FF#9) = true) ∧
    ((inPhase .trailing readReq 39).plp.phase = .trailing ∧
      (inPhase .trailing readReq 39).plp.count < 40) ∧
    ((inPhase .trailing readReq 40).plp.count = 40 ∧
      (inPhase .trailing readReq 40).plp.request = some readReq) := by decide +kernel

/-- A response being received, with fields so far and a declared end: before its source address, before its
payload length, and before its last character. -/
theorem witness_CharactersTaken_faults :
    let s (fields : List Byte) (declared : Option Nat) : State :=
      { heard with plp := { heard.plp with count := 9, fields := fields, declaredEnd := declared } }
    let last (b : Byte) := takeCharacter (inPolarity .reversed (charOf b)) false
    let covered := [37#8, 0#8, 4#8, 0#8]
    let crc := crcBytes covered
    (last 36#8 (s [] none)).plp.faults = [.address] ∧ (last 37#8 (s [] none)).plp.faults = [] ∧
    (last 31#8 (s [37#8, 0#8, 4#8] none)).plp.faults = [.unreadable] ∧
    (last 0#8 (s [37#8, 4#8, 4#8] none)).plp.faults = [.unreadable] ∧
    (last 30#8 (s [37#8, 0#8, 4#8] none)).plp.declaredEnd = some 37 ∧
    (last 0#8 (s [37#8, 0x80#8, 4#8] none)).plp.declaredEnd = some 6 ∧
    ((last (byteAt crc 1) (s (covered ++ [byteAt crc 0]) (some 7))).plp.faults = [] ∧
      (last (byteAt crc 1) (s (covered ++ [byteAt crc 0]) (some 7))).plp.phase = .trailing) ∧
    (last (byteAt crc 1 + 1) (s (covered ++ [byteAt crc 0]) (some 7))).plp.faults = [.check] := by
  dsimp only; decide +kernel

/-- Each wait, with a timer, with a fault recorded, and with a response complete. -/
theorem witness_OutcomeDecided :
    let wait : State := { inPhase .await readReq 0 with
      plp := { (inPhase .await readReq 0).plp with responseTimer := some 20 } }
    let faulty : State := { inPhase .trailing readReq 12 with
      plp := { (inPhase .trailing readReq 12).plp with faults := [.length] } }
    (wait.plp.phase = .await ∧ wait.plp.responseTimer.isSome = true) ∧
    (inPhase .receiving readReq 5).plp.phase = .receiving ∧
    (faulty.plp.phase = .trailing ∧ faulty.plp.faults ≠ [] ∧
      faulty.plp.receiver.inCharacter = false) ∧
    ({ filter := .atIdle, phase := .character 3 [] } : Receiver).inCharacter = true ∧
    (inPhase .trailing readReq 7).plp.faults = [] ∧
    goodResponse .reversed [37#8, 0x80#8, 4#8, 0#8, 0x0A#8] = some (goodReading 4 []) := by
  dsimp only; decide +kernel

/-- A line in a state of the Monitor with a window, threshold 8. -/
def lined (h : LineHealth) (w : List LineOutcome) : State :=
  { base with nodes := { base.nodes with health := h, lineWindow := w } }

/-- Windows at the boundaries of the Monitor's table: 8 failures and 7; 32 of 32; 2 and 3; and a line DOWN. -/
theorem witness_DeliveryJudgesLine :
    let up := lined .up (List.replicate 7 .bad)
    let full := lined .degraded (List.replicate 31 .bad)
    let three := lined .degraded (List.replicate 3 .bad)
    (up.nodes.health = .up ∧
      up.lineParams.degrade ≤ failures (lineWindowAfter up.nodes.lineWindow .miss) ∧
      failures (lineWindowAfter up.nodes.lineWindow .good) < up.lineParams.degrade) ∧
    (full.nodes.health = .degraded ∧
      (lineWindowAfter full.nodes.lineWindow .jabber).length = 32 ∧
      failures (lineWindowAfter full.nodes.lineWindow .jabber) = 32) ∧
    (three.nodes.health = .degraded ∧
      ¬((lineWindowAfter three.nodes.lineWindow .good).length = 32) ∧
      2 < failures (lineWindowAfter three.nodes.lineWindow .good)) ∧
    failures (lineWindowAfter (lined .degraded [.bad, .bad]).nodes.lineWindow .good) ≤ 2 ∧
    ((lined .down []).nodes.health = .down ∧ LineOutcome.miss ≠ .good) := by
  dsimp only; decide +kernel

theorem witness_SetOutcomeCredit :
    (outcomeOf setReq .miss).request.owner = .actuator 0 ∧
    urgentState.outputs.entries[0]?.isSome = true ∧
    ({ urgentState.outputs with dropMark := true } : Outputs).dropMark = true ∧
    urgentState.outputs.dropMark = false ∧ (outcomeOf setReq .good).outcome = .good ∧
    (outcomeOf setReq .miss).outcome ≠ .good ∧ (1 : Nat) ≠ 0 := by decide +kernel

/-- A GOOD with an ECHO that matches, one that does not at a count of 2, one under the kind mark, and the fourth
failure of an entry that is not LOST (R146 to R148). -/
theorem witness_SetOutcomeCredit_entry :
    let a := { actuatorAt 52 with mismatches := 2, failed := 3, owed := -3 }
    let s (mark : Bool) : State :=
      { withActs [a] with outputs := { (withActs [a]).outputs with kindMark := mark } }
    let echo (p : Byte) : OutcomeRecord :=
      { request := setReq, outcome := .good,
        response := some { goodReading 0 [p] with kind := .echo } }
    let entry (o : OutcomeRecord) (mark : Bool) := (deliver o (s mark)).outputs.entries[0]?
    entry (echo 50#8) false =
      some { a with
        acknowledged := some (.percent 45), echoed := some (.percent 50), mismatches := 0, failed := 0,
        state := .active } ∧
    (entry (echo 51#8) false).map (·.mismatches) = some 3 ∧
    (deliver (echo 51#8) (s false)).events.latched 10 = true ∧
    entry (echo 51#8) true = some { a with failed := 0, state := .active } ∧
    entry (outcomeOf setReq .miss) false = some { a with failed := 4, state := .lost } ∧
    (deliver (outcomeOf setReq .miss) (s false)).events.latched 11 = true := by
  dsimp only; decide +kernel

theorem witness_ProbeOutcomeApplied :
    let r := { readReq with owner := .probe 0 }
    (outcomeOf r .miss).request.owner = .probe 0 ∧
    sweeping.nodes.probes[0]? = some (probeAt 37 .active) ∧ sweeping.nodes.dropMark = false ∧
    ({ sweeping.nodes with dropMark := true } : NodeTables).dropMark = true ∧
    (probeAt 37 .active).node.pollable = true ∧ (1 : Nat) ≠ 0 := by dsimp only; decide +kernel

/-- A climate poll's outcome: with 58.5 °C, as a repeat, with the sensor fault, and beyond the range; and the search
of a record of UNKNOWN polarity at its second MISS (R37, R49, R54). -/
theorem witness_ProbeOutcomeApplied_air :
    let r := { readReq with owner := .air 0, address := 40 }
    let a := { airAt 40 .wb none with node := { node 40 .active with lastSequence := some 4 } }
    let s : State :=
      { withAirs [a] base with
        line := { base.line with airSearch := { polarity := .normal, tally := 1 } :: base.line.airSearch.drop 1 } }
    let got (seq : Nat) (payload : List Byte) : OutcomeRecord :=
      { request := r, outcome := .good, response := some (goodReading seq payload) }
    let t (o : OutcomeRecord) := ((deliver o s).nodes.airs[0]?).map fun b => (b.lastTemp, b.cycles)
    a.node.pollable = true ∧ s.nodes.dropMark = false ∧
    t (got 5 [0xDC#8, 5#8, 0#8]) = some (some 1500, 0) ∧ t (got 4 [0#8, 0#8, 0#8]) = some (some 585, 1) ∧
    t (got 5 [0#8, 0#8, 1#8]) = some (some 585, 1) ∧ t (got 5 [0xDD#8, 5#8, 0#8]) = some (some 585, 1) ∧
    (deliver (outcomeOf r .miss) s).line.airSearch[0]? = some { polarity := .reversed, tally := 0 } ∧
    (deliver (outcomeOf r .jabber) s).events.flags[4]? = some { set := true, detail := some 64 } := by
  dsimp only; decide +kernel

/-- Each state, the seventh miss, three failures and two, an empty window and a full one. -/
theorem witness_SupervisionStates :
    let active := { node 19 .active with window := [.bad, .bad], misses := 6 }
    let clean := { node 19 .suspect with window := List.replicate 7 .good }
    ({ node 19 .unseen with misses := 7 } : NodeRecord).misses = 7 ∧
    (active.state = .active ∧ active.misses < 7 ∧ 3 ≤ failures (lastN 8 (active.window ++ [.miss]))) ∧
    3 ≤ failures (lastN 8 (active.window ++ [.bad])) ∧
    failures (lastN 8 ([.bad] ++ [LineOutcome.bad])) < 3 ∧
    (clean.state = .suspect ∧ (lastN 8 (clean.window ++ [.good])).length = 8 ∧
      failures (lastN 8 (clean.window ++ [.good])) = 0) ∧
    ({ node 19 .lost with polarity := some .reversed } : NodeRecord).polarity =
      some (goodReading 4 []).sync ∧
    active.pollable = true ∧ (goodReading 4 []).kind = .reading ∧
    ({ node 19 .active with polarity := some .normal } : NodeRecord).polarity ≠ none ∧
    ({ node 19 .active with lastSequence := some 15 } : NodeRecord).lastSequence = some 15 ∧
    (goodReading 0 []).sequence = (15 + 1) % 16 ∧ (goodReading 0 []).sequence ≠ 15 ∧
    (probeAt 19 .active).node = node 19 .active := by dsimp only; decide +kernel

/-- A LOST record heard in the other polarity: PROBE_SUSPECT (R46, R52) before POLARITY_CHANGE (R48), as R45 orders
the steps. -/
theorem test_polarity_change_after_suspect :
    let n := { node 19 .lost with polarity := some .normal }
    let good : OutcomeRecord :=
      { request := readReq, outcome := .good, response := some (goodReading 4 []) }
    n.polarity = some .normal ∧ Polarity.normal ≠ (goodReading 4 []).sync ∧
    (n.take 19 10 good).2 = [(.probeSuspect, some 19), (.polarityChange, some 19)] := by
  dsimp only; decide +kernel

/-- Node numbers 0 and 71. -/
theorem witness_QuarantineEnds :
    let s : State := { withProbes [probeAt 1 .isolated] with
      nodes := { (withProbes [probeAt 1 .isolated]).nodes with
        airs := List.replicate 7 .powerOn ++ [{ airAt 9 .wb none with node := node 9 .isolated }] } }
    s.resetHeld = false ∧ s.nodes.probes[0]?.map (·.node.state) = some .isolated ∧
    (64 ≤ 71 ∧ s.nodes.airs[71 - 64]?.map (·.node.state) = some .isolated) := by
  dsimp only; decide +kernel

/-- Payloads: malformed, L 0 and 4095, a pin fault, no curve, with and without a temperature and a fault. -/
theorem witness_ReadingConverted :
    ([{ points := [], slope := 0 }, group2] : List SpeciesGroup)[1]? = some group2 ∧
    ¬(3 ≤ ([1#8, 2#8] : List Byte).length) ∧ field16 [0#8, 0#8, 0#8] 0 = 0 ∧
    field16 [0xFF#8, 0x0F#8, 0#8] 0 = 4095 ∧ (byteAt [1#8, 0#8, 1#8] 2).getLsbD 0 = true ∧
    ([] : List (Nat × Nat)) = [] ∧ group2.points ≠ [] ∧
    ((byteAt [0xB1#8, 5#8, 2#8, 0x70#8, 2#8] 2).getLsbD 1 = true ∧
      (byteAt [0xB1#8, 5#8, 2#8, 0x70#8, 2#8] 2).getLsbD 2 = false ∧
      field16 [0xB1#8, 5#8, 2#8, 0x70#8, 2#8] 0 = 1457) ∧
    (byteAt [0xB1#8, 5#8, 6#8, 0x70#8, 2#8] 2).getLsbD 2 = true ∧
    (((withAirs [airAt 40 .zoneDb (some 2)] base).nodes.zoneDb 2).bind AirRecord.freshTemp = some 585 ∧
      (base.nodes.zoneDb 2).bind AirRecord.freshTemp = none) ∧
    curveOrdered group2.points = true ∧ 599 < (600 : Nat) ∧ 2600 < (2601 : Nat) := by decide +kernel

/-- A blind evaluation, one with no usable slot, and one with a rate. -/
theorem witness_EvaluationBuilt :
    (evaluate exampleSlots { ChargeParams.powerOn with q := 5 } .powerOn [] 9120).blind = true ∧
    usableSlots base.nodes.probes 2 = [] ∧ usableSlots exampleSlots 2 ≠ [] ∧
    (let c := (charged .running 0).schedule.charge
     let h := [pastRecord 3100 0 330]
     let e := evaluate exampleSlots .powerOn c h 9120
     e.blind = false ∧ c.state.active = true ∧
       h.getLast?.map (fun r => decide (r.sweep < 9120)) = some true ∧ e.controlling = some 296) ∧
    (let full := (List.range 8).map fun i => pastRecord (9000 + i) i 330
     full.length = 8 ∧ full.getLast?.map (·.sweep) = some 9007 ∧ 9007 < 9120 ∧
       ([pastRecord 9120 0 330]).getLast?.map (·.sweep) = some 9120) ∧
    (charged .warmup 0).schedule.charge.state = .warmup ∧ base.schedule.charge.state = .idle := by
  dsimp only; decide +kernel

/-- A sighted evaluation of each kind of criterion, with and without a rate; the blind counter at 1 and 2. -/
theorem witness_EvaluationApplied :
    let s := charged .running 0
    let e := { pastRecord 9 9 250 with wettest := some (0, 130), driest := some (1, 200), rate := some 11 }
    s.schedule.charge.state = .running ∧ s.schedule.charge.amendment = none ∧
    s.schedule.current = some dryStep ∧ e.blind = false ∧
    (dryStep.criterion = .ctrlBelow ∧ e.controlling = some 250) ∧
    (({ dryStep with criterion := .driestBelow } : StepRecord).criterion = .driestBelow ∧
      e.driest = some (1, 200)) ∧
    (({ dryStep with phase := .equalize, criterion := .wettestBelow } : StepRecord).criterion =
      .wettestBelow ∧ e.wettest = some (0, 130)) ∧
    dwellStep.criterion = .dwell ∧ dwellStep.rateLimit = 0 ∧
    (dryStep.phase = .dry ∧ dryStep.rateLimit ≠ 0 ∧ e.rate = some 11) ∧
    (pastRecord 9 9 250).rate = none ∧ ({ e with blind := true } : EvalRecord).blind = true ∧
    (1 + 1 < s.schedule.params.b ∧ s.schedule.params.b ≤ 2 + 1) := by dsimp only; decide +kernel

/-- HOLD from RUNNING with one cause and with both, HOLD from WARMUP, the states that judge nothing, and a pending
amendment in each state that applies it. -/
theorem witness_EvaluationApplied_held :
    let amended (st : ChargeState) : State :=
      { amending with
        schedule := { amending.schedule with charge := { amending.schedule.charge with state := st } } }
    ((held false true .running).schedule.charge.state = .hold ∧
      (held false true .running).schedule.charge.returnState = some .running ∧
      (held false true .running).schedule.charge.amendment = none ∧
      (held true true .running).schedule.charge.causes.operator = true) ∧
    (held true false .warmup).schedule.charge.returnState = some .warmup ∧
    ([ChargeState.idle, .warmup, .cooldown, .complete].all fun st =>
      (charged st 0).schedule.charge.state == st) = true ∧
    ([ChargeState.warmup, .running, .hold].all fun st =>
      (amended st).schedule.charge.amendment == some (0, dwellStep) &&
        (applyEvaluation (pastRecord 9 9 250) (amended st)).schedule.stepAt 0 == some dwellStep) = true := by
  dsimp only; decide +kernel

/-- No sweep and one in progress, with a sweep pending and none; a pollable slot and none. -/
theorem witness_SweepTimerExpires :
    (base.line.sweeping = false ∧ base.resetHeld = false ∧
      ((withProbes [probeAt 37 .active]).nodes.probes[0]?.map (·.node.pollable) = some true)) ∧
    ((withProbes [probeAt 37 .isolated]).nodes.probes.all (fun p => !p.node.pollable) = true ∧
      base.line.condition = .idle) ∧
    (sweeping.line.sweeping = true ∧ sweeping.line.sweepPending = false) ∧
    ({ sweeping.line with sweepPending := true } : Arbiter).sweepPending = true := by decide +kernel

/-- A sweep past its last pollable slot, completed by a selection and by the outcome of its last READ, with a sweep
pending and none; and one that goes on (R27, R80). -/
theorem witness_SweepTimerExpires_completion :
    let probe := slotOf true .active (mcOf 300) 255
    let s (position : Nat) (more : Bool) : State :=
      { withProbes [probe, probeAt 38 .active] with
        line :=
          { base.line with
            sweeping := true, sweepPending := more, sweepPosition := position, sweepNumber := 4 } }
    let o := outcomeOf { readReq with owner := .probe 1, address := 38 } .miss
    let done (t : State) := (t.line.sweeping, t.line.sweepNumber, t.evaluator.latest.map (·.sweep))
    ((s 2 false).line.condition = .idle ∧ (s 2 false).resetHeld = false) ∧
    done (select (s 2 false)) = (false, 4, some 4) ∧ done (select (s 2 true)) = (true, 5, some 4) ∧
    done (deliver o (s 2 false)) = (false, 4, some 4) ∧ done (deliver o (s 2 true)) = (true, 5, some 4) ∧
    done (deliver { o with request := { o.request with owner := .probe 0 } } (s 1 false)) =
      (true, 4, none) ∧
    ((select (s 2 false)).nodes.probes[0]?.bind fun p => p.reading.map (·.age)) = some 255 ∧
    ((s 2 false).events.flags.length = 25 ∧ (select (s 2 false)).events.latched 12 = true) := by
  dsimp only; decide +kernel

/-- A configured air point at count 255, and an EMPTY one. -/
theorem witness_ClimateExpiryMarksAndAges :
    let s := withAirs [{ airAt 40 .wb none with cycles := 255 }] base
    s.resetHeld = false ∧ s.nodes.airs[0]?.map (·.cycles) = some 255 ∧
    s.nodes.airs[7]? = some .powerOn := by dsimp only; decide +kernel

/-- The rest of an expiry: IDLE, a coast, COOLDOWN with the fans running, and a running charge (R127, R136, R138). -/
theorem witness_ClimateExpiryMarksAndAges_demands :
    let turned (st : ChargeState) (f : FanState) : State :=
      { withAirs [airAt 40 .zoneDb (some 2)] (charged st 0) with
        climate := { base.climate with fan := f } }
    let heat (s : State) := (climateExpiry s).climate.zones.map (·.demand)
    (base.schedule.charge.state = .idle ∧ (turned .running .coastR).climate.fan = .coastR ∧
      heat (turned .running .coastR) = [none, none, none, none]) ∧
    ((turned .cooldown .forward).schedule.charge.state = .cooldown ∧
      heat (turned .cooldown .forward) = [none, some 0, none, none] ∧
      (climateExpiry (turned .cooldown .forward)).climate.vent = some 100) ∧
    ((turned .hold .reverse).schedule.charge.state = .hold ∧
      (turned .hold .reverse).schedule.charge.setpoints ≠ none) := by
  dsimp only; decide +kernel

/-- Zone 2 fresh at a count of 1, stale at 2 with the stale count at the hold, and a zone with no point. -/
theorem witness_HeatLoopRuns :
    let s := heating (airAt 40 .zoneDb (some 2)) 22 0 .tracking
    let dead := heating { airAt 40 .zoneDb (some 2) with cycles := 2 } 30 2 .holding
    s.resetHeld = false ∧ s.climate.fan = .forward ∧ s.schedule.charge.state = .running ∧
    s.schedule.charge.setpoints = some points ∧ s.climate.zones[2 - 1]?.isSome = true ∧
    (s.nodes.zoneDb 2 = some (airAt 40 .zoneDb (some 2)) ∧ (airAt 40 .zoneDb (some 2)).cycles ≤ 1) ∧
    (dead.nodes.zoneDb 2).map (fun a => decide (2 ≤ a.cycles)) = some true ∧
    (min 31 (2 + 1) ≤ dead.climate.params.staleHold ∧ ¬(min 31 (3 + 1) ≤ dead.climate.params.staleHold)) ∧
    (1 ≤ 1 ∧ s.nodes.zoneDb 1 = none ∧ s.climate.zones[1 - 1]?.isSome = true) := by
  dsimp only; decide +kernel

/-- The stale hold of 6 passed at the count of 7: the zone drops, and ZONE_BLIND carries its number (R131). -/
theorem witness_HeatLoopRuns_drop :
    let s (stale : Nat) : State :=
      let h := heating { airAt 40 .zoneDb (some 2) with cycles := 2 } 30 stale .holding
      { h with climate := { h.climate with params := .powerOn } }
    (s 6).climate.params.staleHold < min 31 (6 + 1) ∧ LoopMode.holding ≠ .dropped ∧
    (s 6).events.flags[19]? = some { set := false, detail := none } ∧
    (climateExpiry (s 6)).events.flags[19]? = some { set := true, detail := some 2 } ∧
    (climateExpiry (s 5)).events.flags[19]? = some { set := false, detail := none } := by
  dsimp only; decide +kernel

/-- Primary fresh, secondary alone fresh, and neither. -/
theorem witness_HumidityLoopRuns :
    let wb := airAt 41 .wb none
    let stale := { wb with cycles := 2 }
    ((withAirs [wb, wb] base).nodes.wbPoints = (some 0, some 1)) ∧ wb.cycles + 1 ≤ 2 ∧
    ¬(stale.cycles + 1 ≤ 2) ∧ (withAirs [stale, wb] base).nodes.wbPoints = (some 0, some 1) ∧
    base.nodes.wbPoints = (none, none) ∧ base.events.flags.length = 25 ∧
    (heating wb 0 0 .tracking).schedule.charge.setpoints = some points := by dsimp only; decide +kernel

/-- A running refresh timer with owed counts 6 and 7, and a stopped one. -/
theorem witness_RefreshTimerExpires :
    let s (owed : Int) : State := { withActs [{ actuatorAt 52 with owed := owed }] with
      line := { base.line with refreshTimers := some 1 :: List.replicate 11 none } }
    (s 6).resetHeld = false ∧ (s 6).outputs.entries[0]?.isSome = true ∧
    (s 6).line.refreshTimers[0]? = some (some 1) ∧ (6 : Int) < 7 ∧ (7 : Int) ≤ 7 ∧
    (s 6).line.refreshTimers[11]? = some none := by dsimp only; decide +kernel

/-- The fans in each of the four states with a timer. -/
theorem witness_FanTimersExpire :
    let s (f : FanState) : State := { base with
      climate := { base.climate with fan := f, reversalTimer := some 1, coastTimer := some 1 } }
    (s .forward).climate.fan = .forward ∧ (s .reverse).climate.reversalTimer = some 1 ∧
    (s .coastR).climate.coastTimer = some 1 ∧ (s .coastF).climate.fan = .coastF ∧
    (s .coastF).resetHeld = false := by dsimp only; decide

/-- A charge with setpoints in every state, and one without in IDLE. -/
theorem witness_MinuteTickRamps :
    ([ChargeState.idle, .warmup, .running, .hold, .cooldown, .complete].all fun st =>
      !(charged st 0).resetHeld && (charged st 0).schedule.charge.setpoints == some points &&
        (charged st 0).schedule.charge.state == st) = true ∧
    (base.schedule.charge.state = .idle ∧ base.schedule.charge.setpoints = none) := by decide +kernel

/-- Quarantines with 2 minutes left and with 1, and the reversal timer at 2 and at 1 in either direction (R53,
R135). -/
theorem witness_MinuteTickRamps_other_blocks :
    let isolated (q : Nat) := { probeAt 9 .isolated with node := { node 9 .isolated with quarantine := some q } }
    let s (f : FanState) (left : Nat) : State :=
      { withProbes [isolated 2, isolated 1] with
        climate := { base.climate with fan := f, reversalTimer := some left } }
    let after (f : FanState) (left : Nat) :=
      ((minuteTick (s f left)).climate.fan, (minuteTick (s f left)).climate.reversalTimer,
        (minuteTick (s f left)).climate.coastTimer)
    (isolated 2).node.quarantine ≠ some 0 ∧
    ((minuteTick (s .forward 2)).nodes.probes.take 2).map
        (fun p => (p.node.state, p.node.quarantine)) = [(.isolated, some 1), (.unseen, none)] ∧
    after .forward 2 = (.forward, some 1, none) ∧ after .forward 1 = (.coastR, none, some 60) ∧
    after .reverse 1 = (.coastF, none, some 60) ∧
    (minuteTick (s .forward 1)).schedule.charge.state ≠ .complete ∧ base.climate.reversalTimer = none := by
  dsimp only; decide +kernel

/-- A DWELL step that is due at its value, the first step and the last, and one that is not due. -/
theorem witness_MinuteTickAdvances :
    let s := charged .running 1
    let c := s.schedule.charge
    (s.resetHeld = false ∧ c.state = .running ∧ c.setpoints = some points ∧ c.amendment = none ∧
      s.schedule.stepAt c.step = some dwellStep ∧ s.schedule.params.stepCount = some 2 ∧
      c.dwell < 65535) ∧
    (dwellStep.criterion = .dwell ∧ dwellStep.value ≤ c.dwell + 1) ∧ 2 ≤ c.step + 1 ∧
    ((charged .running 0).schedule.charge.step + 1 < 2 ∧
      (charged .running 0).schedule.stepAt 0 = some dryStep ∧
      (charged .running 0).schedule.stepAt (0 + 1) = some dwellStep) ∧
    (dryStep.criterion ≠ .dwell ∧ (2 : Nat) = s.schedule.params.c ∧ dryStep.minDwell ≤ 179 + 1) ∧
    (¬((0 : Nat) = s.schedule.params.c) ∧ dryStep.maxDwell = 0) ∧
    c.dwell + 1 < dwellStep.maxDwell ∧ s.events.flags.length = 25 := by dsimp only; decide +kernel

/-- A step at its maximum dwell that is not due, with action ALARM and with ADVANCE, the first and the last (R110). -/
theorem witness_MinuteTickAdvances_overdue :
    let step (a : OverdueAction) := { dryStep with maxDwell := 480, overdue := a }
    let s (k : Nat) (a : OverdueAction) : State :=
      { charged .running k with
        schedule :=
          { (charged .running k).schedule with
            steps := List.replicate 2 (some (step a)) ++ List.replicate 22 none,
            charge := { (charged .running k).schedule.charge with dwell := 479 } } }
    let t (k : Nat) (a : OverdueAction) := minuteTick (s k a)
    (s 0 .alarm).schedule.charge.stepOverdue = false ∧ 480 ≤ 479 + 1 ∧
    ((t 0 .alarm).schedule.charge.step = 0 ∧ (t 0 .alarm).schedule.charge.stepOverdue = true ∧
      (t 0 .alarm).events.latched 15 = true) ∧
    ((t 0 .advance).schedule.charge.step = 1 ∧ (t 0 .advance).schedule.charge.dwell = 0 ∧
      (t 0 .advance).events.latched 15 = true) ∧
    (t 1 .advance).schedule.charge.noted = some .finished := by dsimp only; decide +kernel

/-- A warm-up that ends and one that does not; a cooldown that ends by its zones, by its maximum, and not. -/
theorem witness_WarmupAndCooldownEnd :
    let zone (t : Int) := { airAt 40 .zoneDb (some 1) with lastTemp := some t }
    let s := withAirs [zone 580] (charged .warmup 0)
    let cold := withAirs [zone 450] (charged .cooldown 1)
    (s.resetHeld = false ∧ s.schedule.charge.state = .warmup ∧
      s.schedule.charge.setpoints = some points) ∧
    (moveToward s.schedule.params.dbRamp points.activeDb points.targetDb = points.targetDb ∧
      s.nodes.freshZones = [580] ∧ (points.targetDb : Int) - s.schedule.params.warmBand ≤ 580 ∧
      (580 : Int) ≤ points.targetDb + s.schedule.params.warmBand) ∧
    ¬((points.targetDb : Int) - s.schedule.params.warmBand ≤ 579) ∧
    (cold.schedule.charge.state = .cooldown ∧ cold.nodes.freshZones = [450] ∧
      (450 : Int) ≤ (cold.schedule.params.coolEnd : Int)) ∧
    (cold.schedule.params.coolMax ≤ min 65535 (599 + 1) ∧
      ¬(cold.schedule.params.coolMax ≤ min 65535 (598 + 1)) ∧
      ¬((451 : Int) ≤ (cold.schedule.params.coolEnd : Int))) := by dsimp only; decide +kernel

/-- A warm-up at its maximum, one minute before it, and one with no maximum (R104). -/
theorem witness_WarmupAndCooldownEnd_overdue :
    let s (most minutes : Nat) : State :=
      { charged .warmup 0 with
        schedule :=
          { (charged .warmup 0).schedule with
            params := { (charged .warmup 0).schedule.params with warmMax := most },
            charge := { (charged .warmup 0).schedule.charge with warmMinutes := minutes } } }
    (s 60 59).nodes.freshZones = [] ∧
    ((minuteTick (s 60 59)).schedule.charge.warmOverdue = true ∧
      (minuteTick (s 60 59)).events.latched 16 = true) ∧
    (minuteTick (s 60 58)).schedule.charge.warmOverdue = false ∧
    (minuteTick (s 0 59)).schedule.charge.warmOverdue = false := by dsimp only; decide +kernel

/-- RESET low and high; straps 1, 30, 0 and 31. -/
theorem witness_ResetPin :
    ({ base with resetHeld := true } : State).resetHeld = true ∧ base.resetHeld = false ∧
    Instr.minuteTick ≠ .resetAssert ∧
    (1 ≤ (1#5).toNat ∧ (30#5).toNat ≤ 30) ∧ (0#5).toNat = 0 ∧ (31#5).toNat = 31 := by decide

/-- RESTART with one place free and none; a restart under way with straps 1 and 30, records configured and not. -/
theorem witness_RestartTakesEffect :
    (∀ src tag args, base.carries (namedCommand src 15#8 tag args)) ∧
    ((looping [] (entries 15 kindNotice) 0 .idle).loop.insertQueue.length < 16 ∧
      16 ≤ fullQueues.loop.insertQueue.length ∧
      (looping [] (entries 16 kindNotice) 0 .idle).command.turnOf (namedCommand 0#8 15#8 0#8 []) = true) ∧
    (let s : State := { withProbes [probeAt 37 .lost] with
      command := { current := some resumeCommand, restarting := true, waiting := [] } }
     s.resetHeld = false ∧ s.command.restarting = true ∧ s.loop.out = .idle ∧ 1 ≤ s.loop.strap ∧
       s.loop.strap ≤ 30 ∧ (s.nodes.probes[0]?.bind (·.node.address)) = some 37) :=
  ⟨fun _ _ _ => ⟨rfl, rfl⟩, by decide +kernel, by dsimp only; decide +kernel⟩

/-- The RESTART REPLY at the head of the Insert Queue being sent, with a frame in reception on loop-in (R165). -/
theorem witness_RestartTakesEffect_sending :
    let e : InsertEntry := { frame := frameTo 0#8 1#8 kindReply 0, restartReply := true }
    let s : State :=
      { looping [] [e] 0 (.sending e.frame .inserted) with
        loop :=
          { (looping [] [e] 0 (.sending e.frame .inserted)).loop with loopIn := .frame [7#8] false },
        command := { current := some resumeCommand, restarting := true, waiting := [] } }
    s.resetHeld = false ∧ s.command.restarting = true ∧ s.loop.insertQueue = e :: [] ∧
    e.restartReply = true ∧ s.loop.strap = 1 ∧ (restartNow s).loop.out = .spacing ∧
    (restartNow s).loop.loopIn = .waiting ∧ (restartNow s).loop.insertQueue = [] := by
  dsimp only; decide +kernel

/-- What RESTART does on the line: a poll cut short in SENDING and one awaited; a configured actuator's timer and wait,
and an unconfigured one's (R18, R39). -/
theorem witness_RestartTakesEffect_line :
    let s (ph : PlpPhase) : State :=
      { inPhase ph readReq 0 with
        outputs := { base.outputs with entries := actuatorAt 52 :: base.outputs.entries.drop 1 },
        line :=
          { (inPhase ph readReq 0).line with
            refreshTimers := some 1 :: List.replicate 11 none, retryWait := List.replicate 12 true } }
    let t (ph : PlpPhase) := restartEffect (s ph)
    ((s .sending).plp.phase = .sending ∧ (s .lag).plp.phase = .lag ∧ (t .sending).plp.phase = .sending ∧
      (t .sending).line.condition = .abandoning) ∧
    ((s .await).plp.phase = .await ∧ (t .await).plp.phase = .idle ∧ (t .await).line.condition = .idle) ∧
    ((t .await).line.refreshTimers.take 2 = [some 5, none] ∧
      (t .await).line.retryWait.take 2 = [false, true]) := by
  dsimp only; decide +kernel

/-- LINE RESET on any line; a line being abandoned, and one that is not. -/
theorem witness_LineResetAndAbandonment :
    (∀ src tag args, base.carries (namedCommand src 14#8 tag args)) ∧
    (withProbes [probeAt 37 .lost]).nodes.probes[0]?.map (·.node.address) = some (some 37) ∧
    ({ base.line with condition := .abandoning } : Arbiter).condition = .abandoning ∧
    base.line.condition ≠ .abandoning ∧ base.plp.phase ≠ .sending ∧
    ((sendingAt 5 175).plp.phase = .sending ∧ (sendingAt 5 175).pollPlaced ∧
      (sendingAt 5 175).command.turnOf (namedCommand 0#8 14#8 0#8 []) = true) :=
  ⟨fun _ _ _ => ⟨rfl, rfl⟩, by unfold State.pollPlaced; decide +kernel⟩

/-- A transaction in SENDING and one in LAG, on which LINE RESET begins an abandonment (R18). -/
theorem witness_LineResetAndAbandonment_sending :
    ([PlpPhase.sending, .lag].all fun ph =>
      let t := lineResetEffect (inPhase ph readReq 0)
      (inPhase ph readReq 0).command.turnOf (namedCommand 0#8 14#8 0#8 []) &&
        t.line.condition == .abandoning && t.plp.phase == ph && t.plp.request == none &&
        t.line.sweepPosition == (inPhase ph readReq 0).line.sweepPosition) = true := by decide +kernel

/-- A machine whose loop-in has seen the idle line. -/
def listening : State :=
  { base with loop := { base.loop with loopIn := .ready, loopRx := .hunting 23 } }

/-- Hop counts 30 and 31, three frames held and four, a frame for this station, for another and our own. -/
theorem witness_LoopFramesRepeated :
    let f := frameTo 7#8 0#8 0#8 30
    (∀ s ∈ [listening, base], ∀ chars framing, s.loop.loopIn ≠ .frame chars framing) ∧
    f.payload.length ≤ 120 ∧ f.hops ≤ 31 ∧ f.source.toNat ≠ base.loop.station ∧
    f.dest.toNat ≠ base.loop.station ∧ f.dest.toNat ≠ 31 ∧ f.hops < 31 ∧
    (looping (List.replicate 3 f) [] 0 .idle).loop.repeatQueue.length < 4 ∧
    4 ≤ (looping (List.replicate 4 f) [] 0 .idle).loop.repeatQueue.length ∧
    (frameTo 7#8 0#8 0#8 31).hops = 31 ∧ (byte base.loop.station).toNat = base.loop.station ∧
    (frameTo 7#8 (byte base.loop.station) 0#8 0).source.toNat = base.loop.station ∧
    (List.replicate 5 0#8 : List Byte).length < 6 ∧
    listening.loop.loopRx = .hunting 23 ∧ base.loop.loopRx = .hunting 0 ∧ 22 ≤ 22 ∧
    listening.resetHeld = false ∧ f.chars ≠ [] := by
  refine ⟨fun s hs chars framing h => ?_, by decide +kernel⟩
  simp only [List.mem_cons, List.not_mem_nil, or_false] at hs
  rcases hs with rfl | rfl <;> cases h

/-- The Command Unit free, busy with three waiting and with four; marks clear and set; station 31. -/
theorem witness_LoopCommandsTaken :
    let f := frameTo (byte base.loop.station) 0#8 0#8 0
    (∀ chars framing, listening.loop.loopIn ≠ .frame chars framing) ∧
    f.payload.length ≤ 120 ∧ f.hops ≤ 31 ∧ f.source.toNat ≠ base.loop.station ∧
    (f.dest.toNat = base.loop.station ∧ f.kind = 0#8 ∧ f.edh = false ∧ f.eda = false) ∧
    base.command.current = none ∧ (busyWith resumeCommand 3).command.current ≠ none ∧
    (busyWith resumeCommand 3).command.waiting.length < 4 ∧
    4 ≤ (busyWith resumeCommand 4).command.waiting.length ∧
    ({ f with edh := true } : LoopFrame).edh = true ∧
    (frameTo (byte base.loop.station) 0#8 kindReply 0).kind ≠ 0#8 ∧
    ((frameTo 31#8 0#8 0#8 30).dest.toNat = 31 ∧ base.loop.station ≠ 31 ∧
      (frameTo 31#8 0#8 0#8 30).hops < 31 ∧ base.loop.repeatQueue.length < 4) := by
  refine ⟨fun _ _ h => ?_, ?_⟩
  · cases h
  · dsimp only; decide +kernel

/-- Both queues, one and none; repeat runs 3 and 4; each kind of frame being sent. -/
theorem witness_LoopOutHandedOver :
    let f := frameTo 7#8 0#8 0#8 1
    let e := { frame := f, restartReply := true : InsertEntry }
    (looping [f] [] 0 .spacing).loop.out = .spacing ∧ (looping [f] [] 0 .idle).loop.insertQueue = [] ∧
    (looping [f] [e] 3 .idle).loop.run ≤ 3 ∧ (looping [f] [e] 4 .idle).loop.run = 4 ∧
    (looping [] [e] 0 .idle).loop.repeatQueue = [] ∧ base.loop.insertQueue = [] ∧
    (looping [f] [] 0 (.sending f .repeated)).loop.out = .sending f .repeated ∧
    (looping [] [e] 0 (.sending f .inserted)).loop.insertQueue = e :: [] ∧
    e.restartReply = true ∧ ({ e with restartReply := false } : InsertEntry).restartReply = false ∧
    base.resetHeld = false := by dsimp only; decide +kernel

/-- One place free and none; another COMMAND being carried out with three waiting and with four; a RESTART that
waits to take effect; an UNKNOWN_COMMAND row; and a COMMAND held, with no row waiting. -/
theorem witness_RepliesOfferedInTurn :
    (looping [] (entries 15 kindNotice) 0 .idle).loop.insertQueue.length < 16 ∧
    16 ≤ (looping [] (entries 16 kindNotice) 0 .idle).loop.insertQueue.length ∧
    commandRows.length = 29 ∧
    (busyWith resumeCommand 3).command.current = some resumeCommand ∧
    resumeCommand ≠ namedCommand 0#8 4#8 1#8 [] ∧
    (busyWith resumeCommand 3).command.waiting.length < 4 ∧
    4 ≤ (busyWith resumeCommand 4).command.waiting.length ∧
    (fullQueues.command.restarting = true ∧ fullQueues.command.current = some resumeCommand) ∧
    ((busyWith resumeCommand 0).pending = [] ∧
      (busyWith resumeCommand 0).command.restarting = false) ∧
    (busyWith resumeCommand 3).resetHeld = false := by decide +kernel

/-- RESUME with no charge held is a refusal. -/
theorem witness_RefusalChangesNothing :
    (answerOf 5).isSome = true ∧ (resume base).status ≠ .ok ∧ (resume base).status ≠ .adjusted := by
  decide +kernel

/-- The whole PASS_LIST table, a range of the PROBE table that a REPLY cannot hold, and one beyond it. -/
theorem witness_StatusAndTablesRead :
    (∀ c, base.carries c) ∧ base.climate.zones.length = 4 ∧ base.events.sources.length = 4 ∧
    (tableRecords 8 base).map (fun r => (r.1, r.2.length)) = some (2, 5) ∧ 0 + 5 ≤ 5 ∧ 1 ≤ 5 ∧
    (tableRecords 0 base).map (fun r => (r.1, r.2.length)) = some (35, 64) ∧ 60 + 4 ≤ 64 ∧
    64 < 60 + 5 :=
  ⟨fun _ => ⟨rfl, rfl⟩, by decide +kernel⟩

/-- Two step records for the last places; one faulty; tables 9 and 255; kinds 20 and 255; known codes. -/
theorem witness_WritesGoToTheirTables :
    (∀ c, base.carries c) ∧ nodeKindOf 2#8 = some .actuator ∧ responseOf 3#8 = some .diagnostic ∧
    nodeKindOf 0#8 = some .probe ∧ responseOf 0#8 = some .reading ∧ (8 : Byte).toNat < 9 ∧ 65535 < 65536 ∧
    9 ≤ (9#8).toNat ∧ 20 ≤ (20#8).toNat ∧ base.schedule.steps.length = 24 ∧
    (22 : Byte).toNat + [dryBytes, dryBytes].length ≤ 24 ∧ dryBytes.length = 15 ∧
    base.schedule.charge.state.active = false ∧ (charged .running 1).schedule.charge.step < (2 : Byte).toNat ∧
    parseStep dryBytes = some (dryStep, false) ∧ parseStep (List.replicate 15 9#8) = none :=
  ⟨fun _ => ⟨rfl, rfl⟩, by decide +kernel⟩

/-- Addresses 126, 0 and 127; the address as it was and another; a duplicate. -/
theorem witness_ProbeRecordWritten :
    let s := withProbes [probeAt 10 .active, probeAt 11 .active]
    (∀ c, s.carries c) ∧ s.nodes.probes[(0 : Byte).toNat]? = some (probeAt 10 .active) ∧
    base.nodes.probes[(63 : Byte).toNat]? = some .powerOn ∧ (126 : Byte).toNat ≤ 126 ∧
    126 < (127 : Byte).toNat ∧ (1 : Byte).toNat ≤ 1 ∧ (probeAt 10 .active).node.address = some 10 ∧
    uniqueAddresses (configuredRecords s.nodes.probes s.nodes.airs s.outputs.entries) = true ∧
    uniqueAddresses (configuredRecords (s.nodes.probes.set 0 (probeAt 126 .unseen)) s.nodes.airs
      s.outputs.entries) = true ∧
    uniqueAddresses (configuredRecords (s.nodes.probes.set 0 (probeAt 11 .unseen)) s.nodes.airs
      s.outputs.entries) = false := by
  refine ⟨fun _ => ⟨rfl, rfl⟩, ?_⟩; decide +kernel

/-- Zones 1, 4, 0 and 5; the address as it was and another; a second ZONE_DB point of a zone. -/
theorem witness_AirRecordWritten :
    let s := withAirs [airAt 40 .zoneDb (some 1), airAt 41 .wb none] base
    (∀ c, s.carries c) ∧ s.nodes.airs[(0 : Byte).toNat]? = some (airAt 40 .zoneDb (some 1)) ∧
    roleOf 0#8 = some .zoneDb ∧ roleOf 1#8 = some .wb ∧ (4 : Byte).toNat ≤ 4 ∧ (0 : Byte).toNat = 0 ∧
    4 < (5 : Byte).toNat ∧
    uniqueAddresses (configuredRecords s.nodes.probes (s.nodes.airs.set 0 (airAt 42 .wb none))
      s.outputs.entries) = true ∧
    allDistinct (zoneDbZones (s.nodes.airs.set 0 (airAt 42 .wb none))) = true ∧
    allDistinct (zoneDbZones (s.nodes.airs.set 1 (airAt 42 .zoneDb (some 1)))) = false := by
  refine ⟨fun _ => ⟨rfl, rfl⟩, ?_⟩; decide +kernel

/-- Records judged: the address as it was, the kind changed, another address, and a structural fault. -/
theorem witness_ActuatorRecordWritten :
    let a := actuatorAt 52
    let s := withActs [a]
    (∀ c, s.carries c) ∧ s.outputs.entries[(0 : Byte).toNat]? = some a ∧
    parseActuator a ([52#8, 1#8, 0#8, 0#8, 0#8] ++ List.replicate 8 0#8) =
      some ({ address := some 52, function := .vent, safe := .percent 0, override := .none }, false) ∧
    (parseActuator a ([52#8, 3#8, 0#8, fanCode .stop, 0#8] ++ List.replicate 8 0#8)).map
      (fun r => (r.1.address, r.1.function.isFan)) = some (some 52, true) ∧
    (parseActuator a ([53#8, 1#8, 0#8, 0#8, 0#8] ++ List.replicate 8 0#8)).map (·.1.address) =
      some (some 53) ∧
    parseActuator a ([127#8, 1#8, 0#8, 0#8, 0#8] ++ List.replicate 8 0#8) = none ∧
    uniqueAddresses (configuredRecords s.nodes.probes s.nodes.airs
      (s.outputs.entries.set 0 (actuatorAt 53))) = true := by
  refine ⟨fun _ => ⟨rfl, rfl⟩, ?_⟩; decide +kernel

/-- Records of R142 at the boundaries: address 126, HEAT zones 0 and 5, 101 percent, FFh as a percentage, a fan code
for a percent function, and HOLD across a change of kind (assumption 29). -/
theorem witness_ActuatorRecordWritten_judged :
    let judged (l : List Byte) := parseActuator (actuatorAt 52) (l ++ List.replicate 7 0#8)
    judged [126#8, 0#8, 0#8, 101#8, 2#8, 0xFF#8] =
      some ({ address := some 126, function := .heat 1, safe := .percent 100,
              override := .force (.percent 100) }, true) ∧
    (judged [0#8, 0#8, 5#8, 100#8, 1#8, 0xF1#8]) =
      some ({ address := none, function := .heat 4, safe := .percent 100, override := .hold }, true) ∧
    judged [0#8, 1#8, 0#8, 0xF1#8, 0#8, 0#8] = none ∧
    judged [0#8, 3#8, 0#8, 0xF1#8, 1#8, 0#8] = none ∧
    (judged [0#8, 3#8, 0#8, 0xF1#8, 2#8, 0xF0#8]).isSome = true := by
  dsimp only; decide +kernel

/-- Groups of R70: two breakpoints at the ends of their ranges, equal MC20 values, and each structural fault; steps of
R97 with a criterion the phase allows and one it does not, at the ends of the ranges. -/
theorem witness_ParametersAndRecordsWritten_judged :
    let group (count : Byte) (l : List (Nat × Nat)) :=
      parseGroup
        ([count] ++
          (l ++ List.replicate (12 - l.length) (65535, 65535)).flatMap (fun p : Nat × Nat => le16 p.1 ++ le16 p.2) ++
          [16#8])
    let step (ph cr : Byte) (v db : Nat) :=
      parseStep ([ph, cr] ++ le16 v ++ le16 db ++ le16 400 ++ le16 0 ++ le16 0 ++ [0#8, 0#8, 0#8])
    (group 2#8 [(1, 999), (4094, 999)] =
      some ({ points := [(1, 999), (4094, 999)], slope := 15 }, true)) ∧
    (group 2#8 [(0, 999), (4094, 999)] = none ∧ group 2#8 [(1, 998), (4094, 999)] = none ∧
      group 3#8 [(1, 999), (4094, 999)] = none ∧ group 1#8 [(1, 999)] = none ∧
      group 2#8 [(65535, 65535), (1, 999), (4094, 999)] = none ∧
      group 2#8 [(5, 999), (5, 998)] = none) ∧
    ((step 0#8 0#8 1000 1200).map fun r => (r.1.value, r.2)) = some (999, true) ∧
    ((step 2#8 3#8 0 1200).map fun r => (r.1.value, r.2)) = some (1, true) ∧
    ((step 1#8 1#8 999 1200).map fun r => (r.1.value, r.2)) = some (999, false) ∧
    step 1#8 0#8 5 5 = none ∧ step 2#8 1#8 5 5 = none ∧ step 0#8 4#8 5 5 = none := by
  dsimp only; decide +kernel

/-- Indices 0 and the last of each table; a step count in use and one that is not; records judged and faulty. -/
theorem witness_ParametersAndRecordsWritten :
    (∀ c, base.carries c) ∧ (8 : Byte).toNat < 9 ∧ (12 : Byte).toNat < 13 ∧ 65535 < 65536 ∧
    (let s := charged .running 1
     s.schedule.charge.state.active = true ∧ ¬(s.schedule.charge.step < 1) ∧
       s.schedule.charge.step < 2 ∧ s.schedule.loadedBelow 2 = true) ∧
    (parseGroup ([0#8] ++ List.replicate 48 0xFF#8 ++ [3#8])).map (·.1.slope) = some 3 ∧
    parseGroup ([1#8] ++ List.replicate 48 0xFF#8 ++ [3#8]) = none ∧
    parseStep dryBytes = some (dryStep, false) ∧ parseStep (List.replicate 15 9#8) = none ∧
    (parsePass [0#8, 0#8]).isSome = true ∧ parsePass [9#8, 9#8] = none ∧
    ((charged .running 1).schedule.charge.state.active = true ∧
      (1 : Byte).toNat = (charged .running 1).schedule.charge.step) := by
  refine ⟨fun _ => ⟨rfl, rfl⟩, ?_⟩; dsimp only; decide +kernel

/-- A consistent schedule in IDLE and in COMPLETE, and a charge already active. -/
theorem witness_ChargeStarts :
    ((charged .idle 0).carries (namedCommand 0#8 3#8 0#8 [])) ∧
    (charged .idle 0).schedule.consistent = true ∧ (charged .complete 0).schedule.consistent = true ∧
    (charged .idle 0).schedule.stepAt 0 = some dryStep ∧ base.schedule.consistent = false ∧
    (∀ i, i < 2 → (charged .idle 0).schedule.stepAt i ≠ none) ∧
    ({ (charged .idle 0).schedule with
        steps := [some dwellStep, some dryStep] } : Schedule).consistent = false ∧
    startDb [-5, 1300] = 600 ∧ startDb [205, 206] = 206 ∧
    (charged .running 0).schedule.charge.state ≠ .idle := by
  refine ⟨⟨rfl, rfl⟩, ?_⟩; decide +kernel

/-- Every charge state; a hold with one cause, with both and with the other, from each return state. -/
theorem witness_HoldAndResume :
    (∀ st k c, (charged st k).carries c) ∧ (∀ a b r c, (held a b r).carries c) ∧
    (held true true .running).schedule.charge.causes.blind = true ∧
    ((held true false .warmup).schedule.charge.causes.operator = true ∧
      (held true false .warmup).schedule.charge.returnState = some .warmup) ∧
    (held true false .running).schedule.charge.returnState = some .running ∧
    (held false true .running).schedule.charge.causes.operator = false :=
  ⟨fun _ _ _ => ⟨rfl, rfl⟩, fun _ _ _ _ => ⟨rfl, rfl⟩, by decide +kernel⟩

/-- The last step of the schedule and the one after it, with and without an amendment. -/
theorem witness_SetStepAndAdvance :
    let s := held true false .warmup
    (∀ c, s.carries c) ∧ s.schedule.charge.state = .hold ∧ s.schedule.params.stepCount = some 2 ∧
    (1 : Byte).toNat < 2 ∧ ¬((2 : Byte).toNat < 2) ∧ (s.schedule.steps[1]?).join = some dwellStep ∧
    s.schedule.charge.setpoints = some points ∧ s.schedule.charge.step + 1 < 2 ∧
    (charged .running 0).schedule.charge.state ≠ .hold ∧
    ((charged .running 1).schedule.charge.state = .running ∧
      2 ≤ (charged .running 1).schedule.charge.step + 1 ∧
      (charged .running 1).schedule.params.stepCount = some 2) ∧
    (amending.schedule.charge.amendment = some (0, dwellStep) ∧
      amending.schedule.charge.state = .running) := by
  refine ⟨fun _ => ⟨rfl, rfl⟩, ?_⟩; decide +kernel

theorem witness_AbortEndsCharge :
    (∀ st k c, (charged st k).carries c) ∧
    ([ChargeState.idle, .warmup, .running, .hold, .cooldown, .complete].all fun st =>
      (charged st 0).schedule.charge.state == st) = true :=
  ⟨fun _ _ _ => ⟨rfl, rfl⟩, by decide +kernel⟩

/-- The current step with no amendment and with one; step 23; step 24; a faulty record. -/
theorem witness_StepAmended :
    (∀ c, amending.carries c) ∧ dryBytes.length = 15 ∧ parseStep dryBytes = some (dryStep, false) ∧
    ((charged .running 0).schedule.charge.state.active = true ∧
      (0 : Byte).toNat = (charged .running 0).schedule.charge.step ∧
      (charged .running 0).schedule.charge.amendment = none) ∧
    amending.schedule.charge.amendment ≠ none ∧
    ((23 : Byte).toNat < 24 ∧ (23 : Byte).toNat ≠ (charged .running 0).schedule.charge.step) ∧
    24 ≤ (24 : Byte).toNat ∧ parseStep (List.replicate 15 9#8) = none := by
  refine ⟨fun _ => ⟨rfl, rfl⟩, ?_⟩; decide +kernel

/-- A percent entry and a fan entry, with values of both kinds; index 12; mode 3. -/
theorem witness_OverrideSetsSource :
    let s := withActs [actuatorAt 52, { actuatorAt 53 with function := .fan, safe := .fan .stop }]
    (∀ c, s.carries c) ∧ s.outputs.entries.length = 12 ∧
    s.outputs.entries[(0 : Byte).toNat]? = some (actuatorAt 52) ∧ (actuatorAt 52).function ≠ .fan ∧
    fanOf 101#8 = none ∧ fanOf (fanCode .forward) = some .forward ∧
    s.outputs.entries[(1 : Byte).toNat]?.map (·.function) = some .fan ∧ 12 ≤ (12 : Byte).toNat ∧
    3 ≤ (3 : Byte).toNat := by
  refine ⟨fun _ => ⟨rfl, rfl⟩, ?_⟩; dsimp only; decide +kernel

/-- Two WB entries, one twice, and an entry that is none. -/
theorem witness_WbSelectionJudged :
    let s := withAirs [airAt 41 .wb none, airAt 42 .wb none] base
    (∀ c, s.carries c) ∧ s.nodes.airs[(0 : Byte).toNat]? = some (airAt 41 .wb none) ∧
    s.nodes.airs[(1 : Byte).toNat]? = some (airAt 42 .wb none) ∧
    (airAt 41 .wb none).node.address ≠ none ∧ (airAt 41 .wb none).role = .wb ∧ (0 : Byte) ≠ 1 ∧
    s.nodes.airs[(8 : Byte).toNat]? = none := by
  refine ⟨fun _ => ⟨rfl, rfl⟩, ?_⟩; decide +kernel

/-- A survey idle, running with and without a PING in flight, and stopping. -/
theorem witness_SurveyStartsAndStops :
    (∀ c, surveying.carries c) ∧ base.survey.condition = .idle ∧ surveying.survey.condition = .running ∧
    surveying.survey.inFlight = none ∧
    ({ surveying.survey with inFlight := some 1 } : Survey).inFlight ≠ none ∧
    ({ surveying.survey with condition := .stopping } : Survey).condition = .stopping := by
  refine ⟨fun _ => ⟨rfl, rfl⟩, ?_⟩; decide +kernel

/-- PING outcomes at addresses 125 and 126 of a survey that runs, and of one that stops: an entry ANSWERED, GARBLED
and NO ANSWER, a mismatch, an unknown node and neither (R63 to R67). -/
theorem witness_SurveyStartsAndStops_outcomes :
    let s (c : SurveyCondition) (probes : List ProbeRecord) : State :=
      { withProbes probes with survey := { surveying.survey with condition := c, next := none } }
    let ping (a : Nat) (o : LineOutcome) (g : Option GoodResponse) : OutcomeRecord :=
      { request := { readReq with owner := .survey a, address := a, kind := .ping }, outcome := o,
        response := g }
    let ident (payload : List Byte) := some { goodReading 0 payload with kind := .ident }
    let answered := ping 126 .good (ident [0#8, 1#8])
    let t (o : OutcomeRecord) (c : SurveyCondition) (probes : List ProbeRecord) := deliver o (s c probes)
    (t (ping 125 .miss none) .running []).survey.next = some 126 ∧
    (t (ping 125 .good (ident [0#8])) .running []).survey.entryAt 125 = .garbled ∧
    (t answered .running []).survey.entryAt 126 = .answered .probe .lrc ∧
    (t answered .running []).survey.comparison = some { mismatches := 0, unknowns := 1, first := none } ∧
    (t answered .running []).events.flags[8]? = some { set := true, detail := some 126 } ∧
    (t answered .running [probeAt 126 .unseen]).events.flags[8]? = some { set := false, detail := none } ∧
    (t (ping 126 .miss none) .running [probeAt 126 .unseen]).events.flags[8]? =
      some { set := true, detail := some 126 } ∧
    (t answered .stopping []).survey.condition = .idle ∧ (t answered .stopping []).survey.count = 0 := by
  dsimp only; decide +kernel

/-- The greatest set and the least beyond it. -/
theorem witness_EventSetsTaken :
    (∀ c, base.carries c) ∧ 2 ^ 25 - 1 < 2 ^ 25 ∧ 2 ^ 25 < 2 ^ 32 ∧
    base.events.flags[24]? = some { set := false, detail := none } := by
  refine ⟨fun _ => ⟨rfl, rfl⟩, ?_⟩; decide +kernel

theorem witness_ReportModeAndStatusLines :
    (∀ c, base.carries c) ∧ 3 ≤ (3 : Byte).toNat ∧ 8 ≤ (8 : Byte).toNat ∧ base.resetHeld = false :=
  ⟨fun _ => ⟨rfl, rfl⟩, by decide⟩

/-- Each report mode with 12 frames held and 13; the count one below the interval and two; an outcome whose kinds an
entry of the Pass-through List holds, and one without (R160 to R164, R178). -/
theorem witness_ReportModeAndStatusLines_reports :
    let s (mode : ReportMode) (held count : Nat) : State :=
      { withProbes [slotOf true .active (mcOf 300) 0] with
        loop :=
          { (looping [] (entries held kindReport) 0 .idle).loop with
            mode := mode, interval := 5, reportCount := count,
            passList := some (.probe, .reading) :: List.replicate 4 none } }
    let kinds (t : State) (k : Nat) := (t.loop.insertQueue.drop k).map fun e => e.frame.payload.take 2
    let e := pastRecord 9 9 250
    let good (o : Owner) : OutcomeRecord :=
      { request := { readReq with owner := o }, outcome := .good, response := some (goodReading 3 [7#8]) }
    base.events.mask = 0#25 ∧ base.events.sources[3]?.isSome = true ∧
    kinds (reportEvaluation .powerOn e (s .full 11 0)) 11 = [[0#8, 0#8], [1#8, 0#8]] ∧
    kinds (reportEvaluation .powerOn e (s .evaluation 0 0)) 0 = [[0#8, 0#8]] ∧
    (reportEvaluation .powerOn e (s .full 12 0)).loop.reportGap = true ∧
    kinds (climateExpiry (s .full 12 4)) 12 = [[2#8, 0#8]] ∧
    (climateExpiry (s .full 12 3)).loop.reportCount = 4 ∧
    (climateExpiry (s .off 0 4)).loop.insertQueue = [] ∧
    ((passThrough (good (.probe 12)) (s .off 0 0)).loop.insertQueue.map (·.frame.payload)) =
      [[0#8, 37#8, 0#8, 0#8, 3#8, 1#8, 1#8, 7#8]] ∧
    (passThrough (good (.air 0)) (s .off 0 0)).loop.insertQueue = [] := by dsimp only; decide +kernel

/-- A clear flag and a set one, selected and not, with a place free and none. -/
theorem witness_RaiseLatches :
    let masked : EventUnit := { EventUnit.powerOn with mask := 0x8#25 }
    base.events.flags[Event.number .probeLost]? = some { set := false, detail := none } ∧
    (base.events.latch (.probeLost, some 9)).flags[3]? = some { set := true, detail := some 9 } ∧
    masked.mask.getLsbD 3 = true ∧ base.events.mask.getLsbD 3 = false ∧
    base.loop.insertQueue.length < 16 ∧
    16 ≤ (looping [] (entries 16 kindNotice) 0 .idle).loop.insertQueue.length ∧
    base.resetHeld = false := by dsimp only; decide +kernel

end Sys2Proof.Tests
end

section
/-! The line survey (chapter 4): SURVEY START and SURVEY ABORT, what a PING outcome enters in the map, and the
completion of a survey with its comparison and its events (R62 to R67, R69). -/

namespace Sys2Proof.Machine.LineSurvey

/-! ## The two commands (R62, R67) -/

theorem exec_surveyStart {s : State} {src tag : Byte} {args : List Byte}
    (h : s.carries (namedCommand src 12#8 tag args)) :
    exec (.surveyStart src tag args) s = .next (finish src 12#8 tag (surveyStart s)) :=
  congrArg Host.Outcome.next (namedRow_of_carries h surveyStart)

theorem exec_surveyAbort {s : State} {src tag : Byte} {args : List Byte}
    (h : s.carries (namedCommand src 13#8 tag args)) :
    exec (.surveyAbort src tag args) s = .next (finish src 13#8 tag (surveyAbort s)) :=
  congrArg Host.Outcome.next (namedRow_of_carries h surveyAbort)

theorem surveyStart_of_idle {s : State} (h : s.survey.condition = .idle) :
    surveyStart s = .ok { s with survey := s.survey.start } := if_pos h

theorem surveyStart_of_not_idle {s : State} (h : s.survey.condition ≠ .idle) :
    surveyStart s = .refuse .refusedBusy s := if_neg h

theorem surveyAbort_of_idle {s : State} (h : s.survey.condition = .idle) :
    surveyAbort s = .refuse .refusedState s := by simp [surveyAbort, h]

theorem surveyAbort_of_running {s : State} (h : s.survey.condition = .running) :
    surveyAbort s = .ok { s with survey := s.survey.stop } := by simp [surveyAbort, h]

theorem surveyAbort_of_stopping {s : State} (h : s.survey.condition = .stopping) :
    surveyAbort s = .ok s := by simp [surveyAbort, h]

/-- With no PING in flight, the in-flight field that the end of a survey clears is clear already. -/
theorem stop_of_none_inFlight {v : Survey} (h : v.inFlight = none) :
    v.stop = { v with condition := .idle, next := none } := by
  simp [Survey.stop, Survey.end, h]

theorem stop_of_inFlight {v : Survey} (h : v.inFlight ≠ none) :
    v.stop = { v with condition := .stopping, next := none } := by
  obtain ⟨a, ha⟩ := Option.ne_none_iff_exists'.1 h
  simp [Survey.stop, ha]

/-! ## The map entry of a PING outcome (R64) -/

theorem entryOf_miss {o : OutcomeRecord} (h : o.outcome = .miss) : entryOf o = .noAnswer := by
  simp [entryOf, h]

theorem entryOf_bad_or_jabber {o : OutcomeRecord} (h : o.outcome = .bad ∨ o.outcome = .jabber) :
    entryOf o = .garbled := by
  rcases h with h | h <;> simp [entryOf, h]

theorem identOf_cons (x y : Byte) (rest : List Byte) {k : NodeKind} {c : CheckKind}
    (hk : nodeKindOf x = some k) (hc : checkOf y = some c) :
    identOf (x :: y :: rest) = some (k, c) := by simp [identOf, hk, hc]

/-- A payload names no ident where it is too short or one of its codes names nothing. -/
theorem identOf_eq_none {p : List Byte}
    (h : p.length < 2 ∨ nodeKindOf (byteAt p 0) = none ∨ checkOf (byteAt p 1) = none) :
    identOf p = none := by
  match p with
  | [] | [_] => rfl
  | x :: y :: rest =>
    rcases h with h | h | h
    · simp only [List.length_cons] at h; omega
    · replace h : nodeKindOf x = none := h
      simp [identOf, h]
    · replace h : checkOf y = none := h
      cases hk : nodeKindOf x <;> simp [identOf, hk, h]

theorem entryOf_ident {o : OutcomeRecord} {g : GoodResponse} {k : NodeKind} {c : CheckKind}
    (ho : o.outcome = .good) (hg : o.response = some g) (hi : g.kind = .ident)
    (hp : identOf g.payload = some (k, c)) : entryOf o = .answered k c := by
  simp [entryOf, ho, hg, hi, hp]

theorem entryOf_not_ident {o : OutcomeRecord} {g : GoodResponse} (ho : o.outcome = .good)
    (hg : o.response = some g) (h : g.kind ≠ .ident ∨ identOf g.payload = none) :
    entryOf o = .garbled := by
  simp only [entryOf, ho, hg]
  split
  · next hkind hident =>
    rcases h with h | h
    · exact absurd hkind h
    · rw [h] at hident; cases hident
  · rfl

/-! ## Flags after raises (R175) -/

theorem latched_congr {u w : EventUnit} {n : Nat} (h : u.flags[n]? = w.flags[n]?) :
    u.latched n = w.latched n := by simp [EventUnit.latched, h]

/-- A raise latches its clear flag with its detail. -/
theorem latch_of_clear {u : EventUnit} {r : Raise}
    (h : u.flags[r.1.number]? = some { set := false, detail := none }) :
    (u.latch r).flags[r.1.number]? = some { set := true, detail := r.2 } := by
  simp [EventUnit.latch, h]

/-! ## The Monitor and pass-through at a PING outcome (R69, R164) -/

/-- The Monitor raises LINE_DEGRADED and LINE_DOWN only. -/
theorem healthRaise_number_lt {a b : LineHealth} {r : Raise} (h : r ∈ healthRaise a b) :
    r.1.number < 2 := by
  unfold healthRaise at h
  split at h <;> simp at h <;> subst h <;> decide

theorem monitor_flags (o : LineOutcome) (s : State) {n : Nat} (h : 2 ≤ n) :
    (monitor o s).events.flags[n]? = s.events.flags[n]? := by
  unfold monitor
  rw [raiseAll_events]
  refine foldl_latch_other _ _ _ fun r hr => ?_
  have := healthRaise_number_lt hr
  omega

theorem monitor_flags_length (o : LineOutcome) (s : State) :
    (monitor o s).events.flags.length = s.events.flags.length := by
  unfold monitor
  rw [raiseAll_events, foldl_latch_flags_length]

/-- A start request of the Monitor finds a survey that is not IDLE and is ignored (R69). -/
theorem monitor_survey_of_not_idle (o : LineOutcome) {s : State} (h : s.survey.condition ≠ .idle) :
    (monitor o s).survey = s.survey := by
  simp [monitor, Survey.startRequest, h]

@[simp] theorem monitor_records (o : LineOutcome) (s : State) : (monitor o s).records = s.records := by
  simp [State.records, monitor]

theorem passThrough_flags (o : OutcomeRecord) (s : State) {n : Nat} (h : n ≠ 23) :
    (passThrough o s).events.flags[n]? = s.events.flags[n]? := by
  obtain ⟨ev, lp, heq, hev⟩ := passThrough_cases o s
  rw [heq]
  rcases hev with rfl | rfl
  · rfl
  · exact latch_other _ _ _ (Ne.symm h)

/-! ## The Survey Engine's step (R63 to R65, R67) -/

theorem ownerSurvey_running {a : Nat} (o : OutcomeRecord) {s : State}
    (h : s.survey.condition = .running) (ha : a < 126) :
    ownerSurvey a o s = { s with survey := { s.survey.enter a o with next := some (a + 1) } } := by
  simp [ownerSurvey, h, Config.lineAddresses, ha]

theorem ownerSurvey_last {a : Nat} (o : OutcomeRecord) {s : State}
    (h : s.survey.condition = .running) (ha : 126 ≤ a) :
    ownerSurvey a o s = completeSurvey { s with survey := s.survey.enter a o } := by
  simp [ownerSurvey, h, Config.lineAddresses, Nat.not_lt.2 ha]

theorem ownerSurvey_stopping (a : Nat) (o : OutcomeRecord) {s : State}
    (h : s.survey.condition = .stopping) :
    ownerSurvey a o s = { s with survey := (s.survey.enter a o).end } := by
  simp [ownerSurvey, h]

theorem completeSurvey_survey (s : State) :
    (completeSurvey s).survey =
      { s.survey.end with
        count := (s.survey.count + 1) % 256, comparison := some (compare s.survey s.records) } := by
  simp [completeSurvey]

/-- The raises of a survey that completes with the map as it stands (R65). -/
def completionRaises (v : Survey) (records : List (Nat × NodeKind)) : List Raise :=
  surveyRaises (compare v records) (lowest (unknownNodes v records))

theorem completeSurvey_events (s : State) :
    (completeSurvey s).events =
      (completionRaises s.survey s.records).foldl EventUnit.latch s.events := by
  simp only [completeSurvey, raiseAll_events, completionRaises]

/-! ## The delivery of a PING outcome -/

/-- The machine as the Survey Engine takes a delivered outcome: the line is idle, and the Line Health Monitor
has had it. -/
def monitored (o : OutcomeRecord) (s : State) : State :=
  monitor o.outcome { s with plp := s.plp.toIdle, line := { s.line with condition := .idle } }

theorem deliver_ping {o : OutcomeRecord} {a : Nat} (s : State) (h : o.request.owner = .survey a) :
    deliver o s = passThrough o (ownerSurvey a o (monitored o s)) := by
  simp [deliver, arbiterTake, deliverToOwner, monitored, h]

theorem monitored_survey (o : OutcomeRecord) {s : State} (h : s.survey.condition ≠ .idle) :
    (monitored o s).survey = s.survey := monitor_survey_of_not_idle _ h

theorem monitored_records (o : OutcomeRecord) (s : State) : (monitored o s).records = s.records :=
  monitor_records _ _

theorem monitored_flags (o : OutcomeRecord) (s : State) {n : Nat} (h : 2 ≤ n) :
    (monitored o s).events.flags[n]? = s.events.flags[n]? := monitor_flags _ _ h

theorem monitored_flags_length (o : OutcomeRecord) (s : State) :
    (monitored o s).events.flags.length = s.events.flags.length := monitor_flags_length _ _

theorem deliver_survey_running {o : OutcomeRecord} {s : State} {a : Nat}
    (ho : o.request.owner = .survey a) (h : s.survey.condition = .running) (ha : a < 126) :
    (deliver o s).survey = { s.survey.enter a o with next := some (a + 1) } := by
  have hm := monitored_survey o (s := s) (by simp [h])
  rw [deliver_ping s ho, passThrough_survey, ownerSurvey_running o (by rw [hm, h]) ha, hm]

theorem deliver_survey_last {o : OutcomeRecord} {s : State} {a : Nat}
    (ho : o.request.owner = .survey a) (h : s.survey.condition = .running) (ha : 126 ≤ a) :
    (deliver o s).survey =
      { (s.survey.enter a o).end with
        count := (s.survey.count + 1) % 256,
        comparison := some (compare (s.survey.enter a o) s.records) } := by
  have hm := monitored_survey o (s := s) (by simp [h])
  rw [deliver_ping s ho, passThrough_survey, ownerSurvey_last o (by rw [hm, h]) ha,
    completeSurvey_survey, ← monitored_records o s, hm]
  rfl

theorem deliver_survey_stopping {o : OutcomeRecord} {s : State} {a : Nat}
    (ho : o.request.owner = .survey a) (h : s.survey.condition = .stopping) :
    (deliver o s).survey = (s.survey.enter a o).end := by
  have hm := monitored_survey o (s := s) (by simp [h])
  rw [deliver_ping s ho, passThrough_survey, ownerSurvey_stopping a o (by rw [hm, h]), hm]

/-- At the last PING every flag but that of REPORT_LOST, which pass-through may raise, is what the raises of the
completion leave of it after the Monitor. -/
theorem deliver_flags_last {o : OutcomeRecord} {s : State} {a n : Nat}
    (ho : o.request.owner = .survey a) (h : s.survey.condition = .running) (ha : 126 ≤ a)
    (hn : n ≠ 23) :
    (deliver o s).events.flags[n]? =
      ((completionRaises (s.survey.enter a o) s.records).foldl EventUnit.latch
        (monitored o s).events).flags[n]? := by
  have hm := monitored_survey o (s := s) (by simp [h])
  rw [deliver_ping s ho, passThrough_flags _ _ hn, ownerSurvey_last o (by rw [hm, h]) ha,
    completeSurvey_events, ← monitored_records o s, hm]
  rfl

theorem deliver_flags_stopping {o : OutcomeRecord} {s : State} {a n : Nat}
    (ho : o.request.owner = .survey a) (h : s.survey.condition = .stopping) (hn : 2 ≤ n)
    (hn' : n ≠ 23) : (deliver o s).events.flags[n]? = s.events.flags[n]? := by
  have hm := monitored_survey o (s := s) (by simp [h])
  rw [deliver_ping s ho, passThrough_flags _ _ hn', ownerSurvey_stopping a o (by rw [hm, h])]
  exact monitored_flags o s hn

/-- Whatever becomes of the survey, the outcome is entered in the map and no PING is in flight then. -/
theorem deliver_map_inFlight {o : OutcomeRecord} {s : State} {a : Nat}
    (ho : o.request.owner = .survey a) (h : s.survey.condition ≠ .idle) :
    (deliver o s).survey.map = s.survey.map.set (a - 1) (entryOf o) ∧
      (deliver o s).survey.inFlight = none := by
  cases hc : s.survey.condition with
  | idle => exact absurd hc h
  | running =>
    rcases Nat.lt_or_ge a 126 with ha | ha
    · rw [deliver_survey_running ho hc ha]; exact ⟨rfl, rfl⟩
    · rw [deliver_survey_last ho hc ha]; exact ⟨rfl, rfl⟩
  | stopping => rw [deliver_survey_stopping ho hc]; exact ⟨rfl, rfl⟩

/-! ## The comparison (R66) and the events of a completion (R65) -/

theorem matchesEntry_iff {k : NodeKind} {m : MapEntry} :
    matchesEntry k m = true ↔ ∃ c, m = .answered k c := by
  cases m <;> simp [matchesEntry]

/-- The configured records that do not match their map entries, in table order. -/
def wrongRecords (v : Survey) (records : List (Nat × NodeKind)) : List (Nat × NodeKind) :=
  records.filter fun r => !matchesEntry r.2 (v.entryAt r.1)

/-- The configured records that match their map entries. -/
def rightRecords (v : Survey) (records : List (Nat × NodeKind)) : List (Nat × NodeKind) :=
  records.filter fun r => matchesEntry r.2 (v.entryAt r.1)

theorem mismatching_eq (v : Survey) (records : List (Nat × NodeKind)) :
    mismatching v records = (wrongRecords v records).map Prod.fst := rfl

theorem wrong_append_right_perm (v : Survey) (records : List (Nat × NodeKind)) :
    (wrongRecords v records ++ rightRecords v records).Perm records :=
  List.perm_append_comm.trans (List.filter_append_perm _ _)

theorem matched_of_mem_right {v : Survey} {records : List (Nat × NodeKind)} {r : Nat × NodeKind}
    (h : r ∈ rightRecords v records) : ∃ c, v.entryAt r.1 = .answered r.2 c :=
  matchesEntry_iff.1 (List.mem_filter.1 h).2

theorem not_matched_of_mem_wrong {v : Survey} {records : List (Nat × NodeKind)} {r : Nat × NodeKind}
    (h : r ∈ wrongRecords v records) : ¬∃ c, v.entryAt r.1 = .answered r.2 c := by
  have := (List.mem_filter.1 h).2
  rw [← matchesEntry_iff]
  simpa using this

theorem compare_mismatches (v : Survey) (records : List (Nat × NodeKind)) :
    (compare v records).mismatches = (wrongRecords v records).length := by
  simp [compare, mismatching_eq]

theorem compare_first_eq_none_iff (v : Survey) (records : List (Nat × NodeKind)) :
    (compare v records).first = none ↔ wrongRecords v records = [] := by
  simp [compare, mismatching_eq, lowest_none]

theorem compare_first_spec {v : Survey} {records : List (Nat × NodeKind)} {b : Nat}
    (h : (compare v records).first = some b) :
    (∃ r ∈ wrongRecords v records, r.1 = b) ∧ ∀ r ∈ wrongRecords v records, b ≤ r.1 := by
  obtain ⟨hmem, hle⟩ := lowest_some (mismatching v records) b h
  rw [mismatching_eq] at hmem hle
  exact ⟨List.mem_map.1 hmem, fun r hr => hle r.1 (List.mem_map_of_mem hr)⟩

theorem completionRaises_of_clean {v : Survey} {records : List (Nat × NodeKind)}
    (hw : wrongRecords v records = []) (hu : unknownNodes v records = []) :
    completionRaises v records = [(.surveyDone, none)] := by
  simp [completionRaises, surveyRaises, compare, mismatching_eq, hw, hu]

theorem completionRaises_of_wrong {v : Survey} {records : List (Nat × NodeKind)}
    (hw : wrongRecords v records ≠ []) :
    completionRaises v records =
      [(.surveyDone, none), (.surveyMismatch, (compare v records).first)] := by
  simp [completionRaises, surveyRaises, compare, mismatching_eq, hw]

theorem completionRaises_of_unknown {v : Survey} {records : List (Nat × NodeKind)}
    (hw : wrongRecords v records = []) (hu : unknownNodes v records ≠ []) :
    completionRaises v records =
      [(.surveyDone, none), (.surveyMismatch, lowest (unknownNodes v records))] := by
  simp [completionRaises, surveyRaises, compare, mismatching_eq, hw, hu]

theorem surveyDone_mem_completionRaises (v : Survey) (records : List (Nat × NodeKind)) :
    ((.surveyDone, none) : Raise) ∈ completionRaises v records := by
  simp [completionRaises, surveyRaises]

/-- SURVEY_DONE does not touch the flag of SURVEY_MISMATCH, which the second raise latches where it is clear. -/
theorem flag_of_done_then_mismatch {u : EventUnit} (d : Option Nat)
    (h : u.flags[8]? = some { set := false, detail := none }) :
    ([(.surveyDone, none), (.surveyMismatch, d)].foldl EventUnit.latch u).flags[8]? =
      some { set := true, detail := d } := by
  have hdone : (u.latch (.surveyDone, none)).flags[8]? = some { set := false, detail := none } :=
    (latch_other u (.surveyDone, none) 8 (by decide)).trans h
  exact latch_of_clear (r := (.surveyMismatch, d)) hdone

/-- What the raises of a completion leave of the flags of SURVEY_DONE and SURVEY_MISMATCH (R65). -/
theorem completionRaises_flags (v : Survey) (records : List (Nat × NodeKind)) (u : EventUnit)
    (hlen : u.flags.length = 25) :
    let w := (completionRaises v records).foldl EventUnit.latch u
    w.latched 7 = true ∧
      (u.flags[8]? = some { set := false, detail := none } →
        (wrongRecords v records = [] → unknownNodes v records = [] →
          w.flags[8]? = some { set := false, detail := none }) ∧
        (wrongRecords v records ≠ [] →
          w.flags[8]? = some { set := true, detail := (compare v records).first }) ∧
        (wrongRecords v records = [] → unknownNodes v records ≠ [] →
          ∃ b ∈ unknownNodes v records, (∀ d ∈ unknownNodes v records, b ≤ d) ∧
            w.flags[8]? = some { set := true, detail := some b })) := by
  intro w
  refine ⟨foldl_latch_mem _ u _ (surveyDone_mem_completionRaises v records) ?_,
    fun hclear => ⟨fun hw hu => ?_, fun hw => ?_, fun hw hu => ?_⟩⟩
  · rw [hlen]; decide
  · simp only [w, completionRaises_of_clean hw hu]
    exact (latch_other u (.surveyDone, none) 8 (by decide)).trans hclear
  · simp only [w, completionRaises_of_wrong hw]
    exact flag_of_done_then_mismatch _ hclear
  · obtain ⟨b, hb⟩ := Option.ne_none_iff_exists'.1 (mt (lowest_none _).1 hu)
    obtain ⟨hmem, hle⟩ := lowest_some _ _ hb
    refine ⟨b, hmem, hle, ?_⟩
    simp only [w, completionRaises_of_unknown hw hu, hb]
    exact flag_of_done_then_mismatch _ hclear

/-- Settles O57: the two commands from their own case equations; the delivery from the whole next survey in each
condition, with the comparison's lists the filtered records and the unknown nodes. -/
theorem surveyStartsAndStops : Obligations.SurveyStartsAndStops := by
  refine ⟨fun s src tag args => ⟨fun hc => ⟨fun h => ?_, fun h => ?_⟩, fun hc =>
    ⟨fun h => ?_, fun h hf => ?_, fun h hf => ?_, fun h => ?_⟩⟩, ?_⟩
  · rw [exec_surveyStart hc, surveyStart_of_idle h]; rfl
  · rw [exec_surveyStart hc, surveyStart_of_not_idle h]
  · rw [exec_surveyAbort hc, surveyAbort_of_idle h]
  · rw [exec_surveyAbort hc, surveyAbort_of_running h, stop_of_none_inFlight hf]
  · rw [exec_surveyAbort hc, surveyAbort_of_running h, stop_of_inFlight hf]
  · rw [exec_surveyAbort hc, surveyAbort_of_stopping h]
  intro o s a ho hne v t entered w at_ matched unknown
  obtain ⟨hmap, hfly⟩ := deliver_map_inFlight ho hne
  have hentered {m : MapEntry} (h : entryOf o = m) : w.map = entered m := by rw [← h]; exact hmap
  refine ⟨hfly, fun h => hentered (entryOf_miss h), fun h => hentered (entryOf_bad_or_jabber h),
    fun g hgood hg => ⟨fun x y rest k c hi hp hk hcheck => ?_, fun h => ?_⟩,
    fun h ha => ?_, fun h ha => ?_, fun h => ?_⟩
  · exact hentered (entryOf_ident hgood hg hi (hp ▸ identOf_cons x y rest hk hcheck))
  · exact hentered (entryOf_not_ident hgood hg (h.imp_right identOf_eq_none))
  · have hw : w = _ := deliver_survey_running ho h ha
    rw [hw]
    exact ⟨h, rfl, rfl, rfl⟩
  · have hw : w = _ := deliver_survey_last ho h ha
    have hat (b : Nat) : at_ b = (v.enter a o).entryAt b := by simp only [at_, hw]; rfl
    have hunknown (b : Nat) : b ∈ unknownNodes (v.enter a o) s.records ↔ unknown b := by
      have hlen : (v.enter a o).map.length = v.map.length := List.length_set
      simp only [unknown, hat, ← hlen]
      exact (unknownNodes_spec (v.enter a o) s.records).2 b
    refine ⟨by rw [hw]; rfl, by rw [hw]; rfl, by rw [hw],
      wrongRecords (v.enter a o) s.records, rightRecords (v.enter a o) s.records,
      unknownNodes (v.enter a o) s.records, compare (v.enter a o) s.records, by rw [hw],
      wrong_append_right_perm _ _, fun r hr => ?_, fun r hr => ?_,
      (unknownNodes_spec _ _).1, hunknown, compare_mismatches _ _, rfl,
      compare_first_eq_none_iff _ _, fun b => compare_first_spec, fun hlen => ?_⟩
    · simp only [matched, hat]; exact matched_of_mem_right hr
    · simp only [matched, hat]; exact not_matched_of_mem_wrong hr
    · have hflags := completionRaises_flags (v.enter a o) s.records (monitored o s).events
        ((monitored_flags_length o s).trans hlen)
      rw [monitored_flags o s (n := 8) (by decide)] at hflags
      simp only [t, latched_congr (deliver_flags_last ho h ha (n := 7) (by decide)),
        deliver_flags_last ho h ha (n := 8) (by decide)]
      exact hflags
  · have hw : w = _ := deliver_survey_stopping ho h
    rw [hw]
    exact ⟨rfl, rfl, rfl, rfl, deliver_flags_stopping ho h (by decide) (by decide),
      deliver_flags_stopping ho h (by decide) (by decide)⟩

end Sys2Proof.Machine.LineSurvey
end

section
/-! The moisture conversion (chapter 5): the reading of a READING payload, stage 1's causes, the curve of stage 2, the
wood temperature of stage 3 and the correction of stage 4 (R72 to R78). -/

namespace Sys2Proof.Machine.MoistureConversion

/-! ## The payload (R72) -/

/-- A READING payload of which R72 makes a reading: the marks are there, L is a 12-bit code, and the temperature is
there where the marks announce one. -/
def PayloadFormed (payload : List Byte) : Prop :=
  3 ≤ payload.length ∧ field16 payload 0 ≤ 4095 ∧
    ((byteAt payload 2).getLsbD 1 = true → 5 ≤ payload.length)

/-- The fields at their places in a payload, whether or not it is well formed. -/
def payloadFields (payload : List Byte) : ProbePayload where
  lcode := field16 payload 0
  pinFault := (byteAt payload 2).getLsbD 0
  wood := if (byteAt payload 2).getLsbD 1 then some (fieldSigned payload 3) else none
  tempFault := (byteAt payload 2).getLsbD 2

theorem parseProbePayload_of_formed {payload : List Byte} (h : PayloadFormed payload) :
    parseProbePayload payload = some (payloadFields payload) := by
  obtain ⟨hlen, hcode, htemp⟩ := h
  rw [parseProbePayload, if_neg (Nat.not_lt.2 hlen), if_neg (Nat.not_lt.2 hcode)]
  by_cases hmark : (byteAt payload 2).getLsbD 1 = true
  · simp only [payloadFields, if_pos hmark, if_neg (Nat.not_lt.2 (htemp hmark))]
  · simp only [payloadFields, if_neg hmark]

theorem parseProbePayload_of_not_formed {payload : List Byte} (h : ¬PayloadFormed payload) :
    parseProbePayload payload = none := by
  by_cases hlen : payload.length < 3
  · exact if_pos hlen
  by_cases hcode : 4095 < field16 payload 0
  · rw [parseProbePayload, if_neg hlen, if_pos hcode]
  by_cases htemp : (byteAt payload 2).getLsbD 1 = true → 5 ≤ payload.length
  · exact absurd ⟨Nat.not_lt.1 hlen, Nat.not_lt.1 hcode, htemp⟩ h
  · obtain ⟨hmark, hshort⟩ := Classical.not_imp.1 htemp
    simp only [parseProbePayload, if_neg hlen, if_neg hcode, if_pos hmark,
      if_pos (Nat.not_le.1 hshort)]

theorem payloadFields_wood {payload : List Byte} (h : (byteAt payload 2).getLsbD 1 = true) :
    (payloadFields payload).wood = some (fieldSigned payload 3) := if_pos h

/-- A payload that carries no temperature, or one marked faulty, gives stage 3 none of the probe's own. -/
theorem payloadFields_no_temperature {payload : List Byte}
    (h : (byteAt payload 2).getLsbD 1 = false ∨ (byteAt payload 2).getLsbD 2 = true) :
    (payloadFields payload).wood = none ∨ (payloadFields payload).tempFault = true :=
  h.imp_left fun hmark => if_neg (Bool.eq_false_iff.1 hmark)

/-! ## Stage 1: the first failing test gives the cause (R74) -/

section
variable {g : SpeciesGroup} {zoneAir : Option Int} {db : Option Nat} {p : ProbePayload}

theorem convertStages_short (h : p.lcode = 0) :
    convertStages g zoneAir db p = .invalid .short := if_pos h

theorem convertStages_open (h : p.lcode = 4095) :
    convertStages g zoneAir db p = .invalid .open := by
  simp [convertStages, h]

theorem convertStages_pinFault (hlow : 0 < p.lcode) (hhigh : p.lcode < 4095)
    (hpin : p.pinFault = true) : convertStages g zoneAir db p = .invalid .pinFault := by
  simp [convertStages, Nat.ne_of_gt hlow, Nat.ne_of_lt hhigh, hpin]

theorem convertStages_noCurve (hlow : 0 < p.lcode) (hhigh : p.lcode < 4095)
    (hpin : p.pinFault = false) (hcurve : g.points = []) :
    convertStages g zoneAir db p = .invalid .noCurve := by
  simp [convertStages, Nat.ne_of_gt hlow, Nat.ne_of_lt hhigh, hpin, hcurve]

/-- The result of stages 2 to 4 for an L code, with the wood temperature of stage 3 given. -/
def convertedAt (g : SpeciesGroup) (l : Nat) (wood : Int × TempSource) : Validity :=
  .valid
    { wood := wood.1, source := wood.2, mc20 := (readCurve g.points l).1,
      mc := correctedMc (readCurve g.points l).1 g.slope wood.1,
      clamp := (readCurve g.points l).2 }

theorem convertStages_valid (hlow : 0 < p.lcode) (hhigh : p.lcode < 4095)
    (hpin : p.pinFault = false) (hcurve : g.points ≠ []) :
    convertStages g zoneAir db p = convertedAt g p.lcode (woodTemperature p zoneAir db) := by
  simp [convertStages, convertedAt, Nat.ne_of_gt hlow, Nat.ne_of_lt hhigh, hpin, hcurve]

/-! ## Stage 2: the curve (R75, R76)

The codes of an ordered curve rise strictly, so every breakpoint before one that L has reached can be dropped. -/

theorem codes_increasing {points : List (Nat × Nat)} (h : curveOrdered points = true) :
    points.Pairwise fun a b => a.1 < b.1 := by
  induction points with
  | nil => exact .nil
  | cons a rest ih =>
    cases rest with
    | nil => exact List.pairwise_singleton _ a
    | cons b rest =>
      simp only [curveOrdered, Bool.and_eq_true, decide_eq_true_eq] at h
      obtain ⟨⟨hab, -⟩, hrest⟩ := h
      have hincreasing := ih hrest
      refine .cons (fun c hc => ?_) hincreasing
      obtain rfl | hc := List.mem_cons.1 hc
      · exact hab
      · exact Nat.lt_trans hab ((List.pairwise_cons.1 hincreasing).1 c hc)

theorem readCurve_below {a : Nat × Nat} {rest : List (Nat × Nat)} {l : Nat} (h : l < a.1) :
    readCurve (a :: rest) l = (a.2, .wet) := if_pos h

theorem readCurve_at (a : Nat × Nat) (rest : List (Nat × Nat)) :
    readCurve (a :: rest) a.1 = (a.2, .none) := by
  cases rest <;> simp [readCurve, curveFrom]

theorem readCurve_above {a : Nat × Nat} {l : Nat} (h : a.1 < l) :
    readCurve [a] l = (a.2, .dry) := by
  simp [readCurve, curveFrom, Nat.lt_asymm h, Nat.ne_of_gt h]

theorem readCurve_between {a b : Nat × Nat} {rest : List (Nat × Nat)} {l : Nat} (ha : a.1 < l)
    (hb : l < b.1) : readCurve (a :: b :: rest) l = (interpolate a b l, .none) := by
  simp [readCurve, curveFrom, Nat.lt_asymm ha, Nat.ne_of_gt ha, hb]

theorem readCurve_drop_first {a b : Nat × Nat} {rest : List (Nat × Nat)} {l : Nat} (hab : a.1 < b.1)
    (hb : b.1 ≤ l) : readCurve (a :: b :: rest) l = readCurve (b :: rest) l := by
  have ha : a.1 < l := Nat.lt_of_lt_of_le hab hb
  simp [readCurve, curveFrom, Nat.lt_asymm ha, Nat.ne_of_gt ha, Nat.not_lt.2 hb]

theorem readCurve_drop_front {front : List (Nat × Nat)} {a : Nat × Nat} {rest : List (Nat × Nat)}
    {l : Nat} (hp : (front ++ a :: rest).Pairwise fun a b => a.1 < b.1) (ha : a.1 ≤ l) :
    readCurve (front ++ a :: rest) l = readCurve (a :: rest) l := by
  induction front with
  | nil => rfl
  | cons x front ih =>
    obtain ⟨hx, htail⟩ := List.pairwise_cons.1 hp
    rw [← ih htail]
    cases front with
    | nil => exact readCurve_drop_first (hx a (by simp)) ha
    | cons y front =>
      have hya : y.1 < a.1 := (List.pairwise_cons.1 htail).1 a (by simp)
      exact readCurve_drop_first (hx y (by simp)) (Nat.le_trans (Nat.le_of_lt hya) ha)

/-! ## Stage 3: the wood temperature and its source (R77) -/

theorem woodTemperature_probe {t : Int} (hwood : p.wood = some t) (hfault : p.tempFault = false) :
    woodTemperature p zoneAir db = (clampInt (-200) 1200 t, .probe) := by
  simp [woodTemperature, hwood, hfault]

/-- A temperature marked faulty counts for as little as none. -/
theorem woodTemperature_eq_wood_none (h : p.wood = none ∨ p.tempFault = true) :
    woodTemperature p zoneAir db = woodTemperature { p with wood := none } zoneAir db := by
  obtain hwood | hfault := h
  · rw [← hwood]
  · cases hwood : p.wood <;> simp [woodTemperature, hwood, hfault]

theorem woodTemperature_zoneAir {t : Int} (h : p.wood = none ∨ p.tempFault = true) :
    woodTemperature p (some t) db = (clampInt (-200) 1200 t, .zoneAir) :=
  woodTemperature_eq_wood_none h

theorem woodTemperature_setpoint (h : p.wood = none ∨ p.tempFault = true) :
    woodTemperature p none db = (((db.getD Config.roomDb : Nat) : Int), .setpoint) :=
  woodTemperature_eq_wood_none h

end

/-! ## Stage 4: the correction (R78) -/

theorem correctedMc_eq (mc20 slope : Nat) (t : Int) :
    correctedMc mc20 slope t = min 999 (roundHalfUp (mc20 * correctionFactor slope t) 1000) :=
  Nat.zero_max _

/-! ## The whole conversion for a slot (R72, R73) -/

section
variable {table : List SpeciesGroup} {nodes : NodeTables} {db : Option Nat} {slot : ProbeRecord}
  {sweep : Nat} {gap : Bool} {payload : List Byte} {g : SpeciesGroup}

theorem groupOf_of_getElem? {i : Nat} (h : table[i]? = some g) : groupOf table i = g := by
  simp [groupOf, h]

theorem convert_of_not_formed (h : ¬PayloadFormed payload) :
    convert table nodes db slot sweep gap payload = none := by
  simp [convert, parseProbePayload_of_not_formed h]

theorem convert_of_formed (hg : table[slot.group]? = some g) (h : PayloadFormed payload) {v : Validity}
    (hv : convertStages g ((nodes.zoneDb slot.zone).bind AirRecord.freshTemp) db
      (payloadFields payload) = v) :
    convert table nodes db slot sweep gap payload =
      some { lcode := field16 payload 0, validity := v, seqGap := gap, sweep := sweep, age := 0 } := by
  subst hv
  simp [convert, parseProbePayload_of_formed h, groupOf_of_getElem? hg, payloadFields]

end

/-! ## The obligation -/

/-- Settles O24: stage 1's causes and the three sources of stage 3 from the equations of `convertStages` and
`woodTemperature`; on the curve, the breakpoints before the one L has reached are dropped first. -/
theorem readingConverted : Obligations.ReadingConverted := by
  refine ⟨?_, fun points l hord => ⟨fun a rest hpts h => ?_, fun front a hpts h => ?_,
    fun a hmem h => ?_, fun front a b rest hpts ha hb => ?_⟩⟩
  · intro table nodes db slot sweep gap payload g hg l pin carries fault made formed zoneAir valid
    refine ⟨convert_of_not_formed, fun hf h => convert_of_formed hg hf (convertStages_short h),
      fun hf h => convert_of_formed hg hf (convertStages_open h),
      fun hf hlow hhigh hpin => convert_of_formed hg hf (convertStages_pinFault hlow hhigh hpin),
      fun hf hlow hhigh hpin hcurve =>
        convert_of_formed hg hf (convertStages_noCurve hlow hhigh hpin hcurve),
      fun hf hlow hhigh hpin hcurve => ?_⟩
    have hmade {t : Int} {source : TempSource}
        (hwood : woodTemperature (payloadFields payload) zoneAir db = (t, source)) :
        made (valid t source) :=
      convert_of_formed hg hf <| (convertStages_valid hlow hhigh hpin hcurve).trans <| by
        rw [hwood, convertedAt, correctedMc_eq]; rfl
    refine ⟨fun hmark hok => hmade (woodTemperature_probe (payloadFields_wood hmark) hok),
      fun t hno hair => hmade ?_, fun t hno hair hdb => hmade ?_, fun hno hair hdb => hmade ?_⟩
    · rw [hair, woodTemperature_zoneAir (payloadFields_no_temperature hno)]; rfl
    · rw [hair, hdb, woodTemperature_setpoint (payloadFields_no_temperature hno)]; rfl
    · rw [hair, hdb, woodTemperature_setpoint (payloadFields_no_temperature hno)]; rfl
  · rw [hpts, readCurve_below h]
  · subst hpts
    rw [readCurve_drop_front (codes_increasing hord) (Nat.le_of_lt h), readCurve_above h]
  · obtain ⟨front, rest, rfl⟩ := List.append_of_mem hmem
    rw [h, readCurve_drop_front (codes_increasing hord) (Nat.le_refl _), readCurve_at]
  · subst hpts
    rw [readCurve_drop_front (codes_increasing hord) (Nat.le_of_lt ha), readCurve_between ha hb, interpolate]

end Sys2Proof.Machine.MoistureConversion
end

section
/-! The Charge Evaluator (chapter 6): the usable slots, their ranking, the driest of them, the fields of an
evaluation record, and the history it joins (R85 to R91, R93). -/

namespace Sys2Proof.Machine.ChargeEvaluation

/-! ## Usable slots (R85) -/

theorem reading_mc_eq_some_iff {r : Reading} {mc : Nat} :
    r.mc = some mc ↔ ∃ v, r.validity = .valid v ∧ v.mc = mc := by
  cases h : r.validity <;> simp [Reading.mc, h]

theorem usableMc_eq_some_iff {q : ProbeRecord} {stale mc : Nat} :
    q.usableMc stale = some mc ↔
      ∃ r v, q.incl = true ∧ q.node.state = .active ∧ q.reading = some r ∧ r.age ≤ stale ∧
        r.validity = .valid v ∧ v.mc = mc := by
  cases hr : q.reading with
  | none => simp [ProbeRecord.usableMc, hr]
  | some r => simp [ProbeRecord.usableMc, hr, reading_mc_eq_some_iff, and_assoc]

theorem mem_indexed_zero {α : Type} {l : List α} {i : Nat} {a : α} :
    (i, a) ∈ indexed 0 l ↔ l[i]? = some a := by
  simp [List.mem_iff_getElem?, indexed_getElem?]

/-- A usable slot stands in the list under its own number, with the MC it contributes. -/
theorem mem_usableSlots_iff_usableMc {probes : List ProbeRecord} {stale slot mc : Nat} :
    (slot, mc) ∈ usableSlots probes stale ↔
      ∃ q, probes[slot]? = some q ∧ q.usableMc stale = some mc := by
  rw [usableSlots, List.mem_filterMap]
  constructor
  · rintro ⟨⟨i, q⟩, hmem, hmap⟩
    obtain ⟨m, hm, heq⟩ := Option.map_eq_some_iff.1 hmap
    cases heq
    exact ⟨q, mem_indexed_zero.1 hmem, hm⟩
  · rintro ⟨q, hq, hm⟩
    exact ⟨(slot, q), mem_indexed_zero.2 hq, Option.map_eq_some_iff.2 ⟨mc, hm, rfl⟩⟩

theorem mem_usableSlots {probes : List ProbeRecord} {stale slot mc : Nat} :
    (slot, mc) ∈ usableSlots probes stale ↔
      ∃ q r v, probes[slot]? = some q ∧ q.incl = true ∧ q.node.state = .active ∧
        q.reading = some r ∧ r.age ≤ stale ∧ r.validity = .valid v ∧ v.mc = mc := by
  simp only [mem_usableSlots_iff_usableMc, usableMc_eq_some_iff, exists_and_left]

theorem usableSlots_rising (probes : List ProbeRecord) (stale : Nat) :
    (usableSlots probes stale).Pairwise fun a b => a.1 < b.1 := by
  refine (indexed_pairwise probes 0).1.filterMap _ fun a b hlt x hx y hy => ?_
  obtain ⟨_, _, rfl⟩ := Option.map_eq_some_iff.1 hx
  obtain ⟨_, _, rfl⟩ := Option.map_eq_some_iff.1 hy
  exact hlt

theorem usableSlots_nodup (probes : List ProbeRecord) (stale : Nat) :
    (usableSlots probes stale).Nodup :=
  (usableSlots_rising probes stale).imp fun h heq => Nat.ne_of_lt h (congrArg Prod.fst heq)

/-! ## The ranking (R87) -/

theorem ranksBefore_iff {a b : Nat × Nat} :
    ranksBefore a b = true ↔ b.2 < a.2 ∨ (a.2 = b.2 ∧ a.1 < b.1) := by
  simp [ranksBefore]

theorem ranksBefore_trans {a b c : Nat × Nat} (hab : ranksBefore a b = true)
    (hbc : ranksBefore b c = true) : ranksBefore a c = true := by
  rw [ranksBefore_iff] at *; omega

/-- Of two different slots one ranks before the other. -/
theorem ranksBefore_of_not_ranksBefore {a b : Nat × Nat} (hne : a ≠ b) (h : ¬ranksBefore a b = true) :
    ranksBefore b a = true := by
  rw [ranksBefore_iff] at *
  have := mt Prod.ext_iff.2 hne
  omega

theorem rankInsert_pairwise {a : Nat × Nat} {l : List (Nat × Nat)} (ha : a ∉ l)
    (hl : l.Pairwise fun x y => ranksBefore x y = true) :
    (rankInsert a l).Pairwise fun x y => ranksBefore x y = true := by
  induction l with
  | nil => exact List.pairwise_singleton _ _
  | cons b l ih =>
    obtain ⟨hne, hnot⟩ := not_or.1 (mt List.mem_cons.2 ha)
    obtain ⟨hb, hrest⟩ := List.pairwise_cons.1 hl
    unfold rankInsert
    split
    · next hab =>
      refine List.pairwise_cons.2 ⟨List.forall_mem_cons.2 ⟨hab, fun x hx => ?_⟩, hl⟩
      exact ranksBefore_trans hab (hb x hx)
    · next hab =>
      refine List.pairwise_cons.2 ⟨fun x hx => ?_, ih hnot hrest⟩
      rcases List.mem_cons.1 ((rankInsert_perm a l).mem_iff.1 hx) with rfl | hx
      · exact ranksBefore_of_not_ranksBefore hne hab
      · exact hb x hx

theorem ranking_pairwise {l : List (Nat × Nat)} (h : l.Nodup) :
    (ranking l).Pairwise fun x y => ranksBefore x y = true := by
  induction l with
  | nil => exact List.Pairwise.nil
  | cons a l ih =>
    obtain ⟨ha, hl⟩ := List.nodup_cons.1 h
    exact rankInsert_pairwise (mt (ranking_perm l).mem_iff.1 ha) (ih hl)

/-- The wettest slot heads the ranking and ranks before every other (R89). -/
theorem ranking_head {l : List (Nat × Nat)} (h : l.Nodup) (hne : l ≠ []) :
    ∃ w, (ranking l).head? = some w ∧ w ∈ l ∧ ∀ v ∈ l, v ≠ w → ranksBefore w v = true := by
  have hperm := ranking_perm l
  have hord := ranking_pairwise h
  cases hr : ranking l with
  | nil => rw [hr] at hperm; exact absurd hperm.symm.eq_nil hne
  | cons w rest =>
    rw [hr] at hperm hord
    refine ⟨w, rfl, hperm.mem_iff.1 List.mem_cons_self, fun v hv hvw => ?_⟩
    exact (List.pairwise_cons.1 hord).1 v
      ((List.mem_cons.1 (hperm.mem_iff.2 hv)).resolve_left hvw)

/-! ## The driest slot (R89) -/

/-- Slot `d` is at most as wet as slot `v`: lower MC, or equal MC and not a higher slot. -/
def NotWetter (d v : Nat × Nat) : Prop := d.2 < v.2 ∨ (d.2 = v.2 ∧ d.1 ≤ v.1)

theorem NotWetter.refl (a : Nat × Nat) : NotWetter a a := .inr ⟨rfl, Nat.le_refl _⟩

theorem NotWetter.trans {a b d : Nat × Nat} (hda : NotWetter d a) (hab : NotWetter a b) :
    NotWetter d b := by
  unfold NotWetter at *; omega

/-- Against another slot the comparison is strict. -/
theorem NotWetter.strict {d v : Nat × Nat} (h : NotWetter d v) (hne : v ≠ d) :
    d.2 < v.2 ∨ (d.2 = v.2 ∧ d.1 < v.1) := by
  have := mt Prod.ext_iff.2 hne
  unfold NotWetter at h; omega

theorem drier_eq_or (a b : Nat × Nat) : drier a b = a ∨ drier a b = b := by
  unfold drier
  split
  · exact .inl rfl
  · exact .inr rfl

theorem drier_notWetter (a b : Nat × Nat) : NotWetter (drier a b) a ∧ NotWetter (drier a b) b := by
  unfold drier
  split
  · next h => exact ⟨.refl a, h⟩
  · next h => exact ⟨by unfold NotWetter; omega, .refl b⟩

theorem foldl_drier_mem (l : List (Nat × Nat)) (a : Nat × Nat) : l.foldl drier a ∈ a :: l := by
  induction l generalizing a with
  | nil => exact List.mem_cons_self
  | cons b l ih =>
    have hmem := ih (drier a b)
    rw [List.mem_cons, List.mem_cons]
    rcases List.mem_cons.1 hmem with heq | hmem
    · rcases drier_eq_or a b with h | h
      · exact .inl (heq.trans h)
      · exact .inr (.inl (heq.trans h))
    · exact .inr (.inr hmem)

theorem foldl_drier_notWetter (l : List (Nat × Nat)) (a : Nat × Nat) :
    ∀ v ∈ a :: l, NotWetter (l.foldl drier a) v := by
  induction l generalizing a with
  | nil => exact List.forall_mem_singleton.2 (.refl a)
  | cons b l ih =>
    obtain ⟨hfirst, hrest⟩ := List.forall_mem_cons.1 (ih (drier a b))
    obtain ⟨ha, hb⟩ := drier_notWetter a b
    exact List.forall_mem_cons.2
      ⟨hfirst.trans ha, List.forall_mem_cons.2 ⟨hfirst.trans hb, hrest⟩⟩

/-- The driest slot is one of them, and every other one is wetter or has the same MC and a higher slot. -/
theorem driestOf_spec {l : List (Nat × Nat)} (h : l ≠ []) :
    ∃ d, driestOf l = some d ∧ d ∈ l ∧
      ∀ v ∈ l, v ≠ d → d.2 < v.2 ∨ (d.2 = v.2 ∧ d.1 < v.1) := by
  cases l with
  | nil => exact absurd rfl h
  | cons a rest =>
    exact ⟨_, rfl, foldl_drier_mem rest a, fun v hv => (foldl_drier_notWetter rest a v hv).strict⟩

/-! ## The charge minute and the history (R90, R91) -/

theorem active_iff {st : ChargeState} :
    st.active = true ↔ st = .warmup ∨ st = .running ∨ st = .hold ∨ st = .cooldown := by
  cases st <;> simp [ChargeState.active]

theorem not_active_iff {st : ChargeState} : st.active = false ↔ st = .idle ∨ st = .complete := by
  cases st <;> simp [ChargeState.active]

theorem recordMinute_of_active {c : Charge} (h : c.state.active = true) : recordMinute c = c.minute :=
  if_pos h

theorem recordMinute_of_not_active {c : Charge} (h : c.state.active = false) : recordMinute c = 0 :=
  if_neg (Bool.eq_false_iff.1 h)

theorem historyBefore_of_lt {history : List EvalRecord} {newest : EvalRecord} {sweep : Nat}
    (hn : history.getLast? = some newest) (h : newest.sweep < sweep) :
    historyBefore history sweep = history := by
  simp [historyBefore, hn, h]

theorem historyBefore_of_le {history : List EvalRecord} {newest : EvalRecord} {sweep : Nat}
    (hn : history.getLast? = some newest) (h : sweep ≤ newest.sweep) :
    historyBefore history sweep = [] := by
  simp [historyBefore, hn, Nat.not_lt.2 h]

theorem joinHistory_of_not_joining {history : List EvalRecord} {c : Charge} {e : EvalRecord}
    (h : e.blind = true ∨ c.state.active = false) : joinHistory history c e = history := by
  rcases h with h | h <;> simp [joinHistory, h]

theorem joinHistory_of_joining {history : List EvalRecord} {c : Charge} {e : EvalRecord}
    (hb : e.blind = false) (ha : c.state.active = true) :
    joinHistory history c e = lastN 8 (historyBefore history e.sweep ++ [e]) :=
  if_pos ⟨hb, ha⟩

/-- While the history has room, the record is added at its end. -/
theorem lastN_append_singleton_of_lt {α : Type} {n : Nat} {l : List α} (a : α) (h : l.length < n) :
    lastN n (l ++ [a]) = l ++ [a] := by
  have hroom : (l ++ [a]).length - n = 0 := by simp; omega
  rw [lastN, hroom, List.drop_zero]

/-- In a full history the oldest record goes. -/
theorem lastN_append_singleton_of_eq {α : Type} {n : Nat} {l : List α} (a : α) (h : l.length = n)
    (hn : 1 ≤ n) : lastN n (l ++ [a]) = l.drop 1 ++ [a] := by
  have hover : (l ++ [a]).length - n = 1 := by simp; omega
  rw [lastN, hover, List.drop_append_of_le_length (h ▸ hn)]

/-! ## The record of an evaluation (R86 to R90, R93) -/

theorem mcSum_eq_sum (slots : List (Nat × Nat)) : mcSum slots = (slots.map Prod.snd).sum := by
  rw [List.sum_eq_foldl_nat, List.foldl_map]; rfl

/-- No quorum: no usable slot, or fewer than Q (R86). -/
def NoQuorum (probes : List ProbeRecord) (p : ChargeParams) : Prop :=
  (usableSlots probes p.stale).length = 0 ∨ (usableSlots probes p.stale).length < p.q

/-- The number of slots that control (R87). -/
def controllingCount (probes : List ProbeRecord) (p : ChargeParams) : Nat :=
  min p.w (usableSlots probes p.stale).length

/-- The controlling set, wettest first (R87). -/
def controllingSet (probes : List ProbeRecord) (p : ChargeParams) : List (Nat × Nat) :=
  (ranking (usableSlots probes p.stale)).take (controllingCount probes p)

/-- The controlling MC where there is a quorum (R88). -/
def controllingMc (probes : List ProbeRecord) (p : ChargeParams) : Nat :=
  roundHalfUp (mcSum (controllingSet probes p)) (controllingCount probes p)

theorem controllingSet_length (probes : List ProbeRecord) (p : ChargeParams) :
    (controllingSet probes p).length = controllingCount probes p := by
  rw [controllingSet, List.length_take, (ranking_perm _).length_eq]
  exact Nat.min_eq_left (Nat.min_le_right _ _)

theorem controllingMc_eq (probes : List ProbeRecord) (p : ChargeParams) :
    controllingMc probes p =
      roundHalfUp ((controllingSet probes p).map Prod.snd).sum (controllingSet probes p).length := by
  rw [controllingMc, mcSum_eq_sum, controllingSet_length]

section
variable {probes : List ProbeRecord} {p : ChargeParams} {c : Charge} {history : List EvalRecord}
  {sweep : Nat}

theorem evaluate_sweep : (evaluate probes p c history sweep).sweep = sweep :=
  (apply_ite EvalRecord.sweep _ _ _).trans (ite_self _)

theorem evaluate_n :
    (evaluate probes p c history sweep).n = (usableSlots probes p.stale).length :=
  (apply_ite EvalRecord.n _ _ _).trans (ite_self _)

theorem evaluate_minute : (evaluate probes p c history sweep).minute = recordMinute c :=
  (apply_ite EvalRecord.minute _ _ _).trans (ite_self _)

theorem evaluate_wettest :
    (evaluate probes p c history sweep).wettest = (ranking (usableSlots probes p.stale)).head? :=
  (apply_ite EvalRecord.wettest _ _ _).trans (ite_self _)

theorem evaluate_driest :
    (evaluate probes p c history sweep).driest = driestOf (usableSlots probes p.stale) :=
  (apply_ite EvalRecord.driest _ _ _).trans (ite_self _)

theorem evaluate_of_noQuorum (h : NoQuorum probes p) :
    evaluate probes p c history sweep =
      { sweep := sweep, minute := recordMinute c, n := (usableSlots probes p.stale).length, k := 0,
        controlling := none, wettest := (ranking (usableSlots probes p.stale)).head?,
        driest := driestOf (usableSlots probes p.stale), slots := [], blind := true, rate := none } :=
  if_pos h

theorem evaluate_of_quorum (h : ¬NoQuorum probes p) :
    evaluate probes p c history sweep =
      { sweep := sweep, minute := recordMinute c, n := (usableSlots probes p.stale).length,
        k := controllingCount probes p, controlling := some (controllingMc probes p),
        wettest := (ranking (usableSlots probes p.stale)).head?,
        driest := driestOf (usableSlots probes p.stale),
        slots := (controllingSet probes p).map Prod.fst, blind := false,
        rate :=
          if c.state.active then
            dryingRate (historyBefore history sweep) (recordMinute c) (controllingMc probes p)
          else none } :=
  if_neg h

theorem evaluate_blind_iff : (evaluate probes p c history sweep).blind = true ↔ NoQuorum probes p := by
  by_cases h : NoQuorum probes p
  · simp [evaluate_of_noQuorum h, h]
  · simp [evaluate_of_quorum h, h]

theorem quorum_of_not_blind (h : (evaluate probes p c history sweep).blind = false) :
    ¬NoQuorum probes p :=
  mt evaluate_blind_iff.2 (Bool.eq_false_iff.1 h)

/-- Outside a charge, and against an empty history, there is no rate (R93). -/
theorem evaluate_rate_eq_none (h : c.state.active = false ∨ historyBefore history sweep = []) :
    (evaluate probes p c history sweep).rate = none := by
  by_cases hq : NoQuorum probes p
  · rw [evaluate_of_noQuorum hq]
  · rw [evaluate_of_quorum hq]
    rcases h with h | h <;> simp [h, dryingRate]

theorem evaluate_rate_of_active (hq : ¬NoQuorum probes p) (ha : c.state.active = true) :
    (evaluate probes p c history sweep).rate =
      dryingRate (historyBefore history sweep) c.minute (controllingMc probes p) := by
  rw [evaluate_of_quorum hq, recordMinute_of_active ha]
  exact if_pos ha

end

/-! ## The obligation -/

/-- Settles O25: the ranking is the strict order of R87 on what is usable, so that its first slots are the
controlling set and its head the wettest; the history's cases are those of `historyBefore`. -/
theorem evaluationBuilt : Obligations.EvaluationBuilt := by
  intro probes p c history sweep e usable before
  have hnodup : usable.Nodup := usableSlots_nodup probes p.stale
  refine ⟨fun slot mc => mem_usableSlots, evaluate_sweep, evaluate_n, fun hst => ?_, fun hst => ?_,
    evaluate_blind_iff, fun hb => ?_, fun hnone => ?_, fun hsome => ⟨?_, ?_⟩, fun hb => ?_, ?_,
    joinHistory_of_not_joining, fun hb ha => ⟨?_, fun newest hn => ⟨fun hlt hlen => ?_,
      fun hlt hlen => ?_, fun hle => ?_⟩⟩⟩
  · exact evaluate_minute.trans (recordMinute_of_active (active_iff.2 hst))
  · have ha := not_active_iff.2 hst
    exact ⟨evaluate_minute.trans (recordMinute_of_not_active ha), evaluate_rate_eq_none (.inl ha)⟩
  · simp only [e, evaluate_of_noQuorum (evaluate_blind_iff.1 hb), and_self]
  · simp only [e, evaluate_wettest, evaluate_driest]
    rw [show usableSlots probes p.stale = [] from hnone]
    exact ⟨rfl, rfl⟩
  · obtain ⟨w, hw, hmem, hfirst⟩ := ranking_head hnodup hsome
    exact ⟨w, evaluate_wettest.trans hw, hmem, fun v hv hne => ranksBefore_iff.1 (hfirst v hv hne)⟩
  · obtain ⟨d, hd, hspec⟩ := driestOf_spec hsome
    exact ⟨d, evaluate_driest.trans hd, hspec⟩
  · have hq := quorum_of_not_blind hb
    refine ⟨controllingSet probes p, (ranking usable).drop (controllingCount probes p), ?_, ?_,
      controllingSet_length probes p, ?_⟩
    · rw [controllingSet, List.take_append_drop]; exact ranking_perm usable
    · rw [controllingSet, List.take_append_drop]
      exact (ranking_pairwise hnodup).imp ranksBefore_iff.1
    · simp only [e, evaluate_of_quorum hq, controllingSet_length, controllingMc_eq, and_self]
  · intro old more mc hb ha hlast hold hmc span
    have hq := quorum_of_not_blind hb
    have hmc : controllingMc probes p = mc := by
      simpa only [e, evaluate_of_quorum hq, Option.some.injEq] using hmc
    obtain ⟨newest, hn, hlt⟩ := Option.map_eq_some_iff.1 hlast
    rw [evaluate_rate_of_active hq ha, historyBefore_of_lt hn (of_decide_eq_true hlt), hold, hmc]
    rfl
  · rintro rfl
    exact ⟨joinHistory_of_joining hb ha, evaluate_rate_eq_none (.inr rfl)⟩
  · rw [joinHistory_of_joining hb ha, evaluate_sweep, historyBefore_of_lt hn hlt,
      lastN_append_singleton_of_lt _ hlen]
  · rw [joinHistory_of_joining hb ha, evaluate_sweep, historyBefore_of_lt hn hlt,
      lastN_append_singleton_of_eq _ hlen (by decide)]
  · have hempty := historyBefore_of_le hn hle
    refine ⟨?_, evaluate_rate_eq_none (.inr hempty)⟩
    rw [joinHistory_of_joining hb ha, evaluate_sweep, hempty]
    rfl

end Sys2Proof.Machine.ChargeEvaluation
end

section
/-! START CHARGE (chapter 7): when a schedule is consistent, active DB at the start, and the two answers
(R92, R101, R102, R129). -/

namespace Sys2Proof.Machine.ChargeStart

/-! ## Active DB at the start (R102) -/

theorem startDb_of_ne_nil {fresh : List Int} (h : fresh ≠ []) :
    startDb fresh = roundHalfUp (fresh.map (clampToNat 1200)).sum fresh.length := by
  cases fresh with
  | nil => exact absurd rfl h
  | cons t rest => rw [List.sum_eq_foldl_nat]; rfl

/-! ## Consistent schedules (R101) -/

theorem loadedBelow_iff {e : Schedule} {n : Nat} :
    e.loadedBelow n = true ↔ ∀ i, i < n → e.stepAt i ≠ none := by
  simp [Schedule.loadedBelow, Option.isSome_iff_ne_none]

/-- Not going backward, said by the phase of the earlier step: DRY may be followed by any phase. -/
theorem phase_order_le_iff (p q : Phase) :
    p.order ≤ q.order ↔ (p = .equalize → q ≠ .dry) ∧ (p = .condition → q = .condition) := by
  cases p with
  | dry => simp [Phase.order]
  | equalize => cases q <;> simp [Phase.order]
  | condition => cases q <;> simp [Phase.order]

/-- With every step below `n` loaded, the order of phases is a matter of steps that follow each other. -/
theorem phasesOrdered_steps_iff {e : Schedule} {n : Nat} (h : ∀ i, i < n → e.stepAt i ≠ none) :
    phasesOrdered ((List.range n).filterMap e.stepAt) = true ↔
      ∀ i a b, i + 1 < n → e.stepAt i = some a → e.stepAt (i + 1) = some b →
        a.phase.order ≤ b.phase.order := by
  obtain ⟨hlen, hget⟩ := loadedSteps_spec e n h
  rw [phasesOrdered_iff]
  constructor
  · intro hord i a b hi ha hb
    exact hord i a b ((hget i (by omega)).trans ha) ((hget (i + 1) hi).trans hb)
  · intro hord i a b ha hb
    have hi : i + 1 < n := hlen ▸ (List.getElem?_eq_some_iff.1 hb).1
    exact hord i a b hi ((hget i (by omega)).symm.trans ha) ((hget (i + 1) hi).symm.trans hb)

theorem consistent_iff (e : Schedule) :
    e.consistent = true ↔
      ∃ n, e.params.stepCount = some n ∧ (∀ i, i < n → e.stepAt i ≠ none) ∧
        ∀ i a b, i + 1 < n → e.stepAt i = some a → e.stepAt (i + 1) = some b →
          a.phase.order ≤ b.phase.order := by
  cases hn : e.params.stepCount with
  | none => simp [Schedule.consistent, hn]
  | some n =>
    have hsteps : e.consistent = true ↔
        (∀ i, i < n → e.stepAt i ≠ none) ∧
          phasesOrdered ((List.range n).filterMap e.stepAt) = true := by
      simp only [Schedule.consistent, hn, Bool.and_eq_true, loadedBelow_iff]
    rw [hsteps, and_congr_right fun h => phasesOrdered_steps_iff h]
    simp only [Option.some.injEq, exists_eq_left']

/-! ## The two answers (R101, R102) -/

theorem canStart_iff {e : Schedule} :
    canStart e = true ↔
      (e.charge.state = .idle ∨ e.charge.state = .complete) ∧ e.consistent = true := by
  simp [canStart]

theorem startCharge_of_canStart {s : State} (h : canStart s.schedule = true) :
    startCharge s = .ok (beginCharge s) := if_pos h

theorem startCharge_of_not_canStart {s : State} (h : ¬canStart s.schedule = true) :
    startCharge s = .refuse .refusedState s := if_neg h

theorem exec_startCharge {s : State} {src tag : Byte} {args : List Byte}
    (h : s.carries (namedCommand src 3#8 tag args)) :
    exec (.startCharge src tag args) s = .next (finish src 3#8 tag (startCharge s)) :=
  congrArg Host.Outcome.next (namedRow_of_carries h startCharge)

/-! ## The obligation -/

/-- Settles O50: the two answers follow `canStart`, the state of an accepted one is `beginCharge` with step 0
loaded, and consistency is read off the loaded steps. -/
theorem chargeStarts : Obligations.ChargeStarts := by
  refine ⟨?_, fun e => ?_, rfl, fun fresh h => startDb_of_ne_nil h⟩
  · intro s src tag args r hc c accepted db
    refine ⟨fun hacc hstep => ?_, fun hacc => ?_⟩
    · rw [exec_startCharge hc, startCharge_of_canStart (canStart_iff.2 hacc)]
      simp only [beginCharge, Schedule.startCharge, hstep]
      rfl
    · rw [exec_startCharge hc, startCharge_of_not_canStart (mt canStart_iff.1 hacc)]
  · simp only [consistent_iff, phase_order_le_iff]

end Sys2Proof.Machine.ChargeStart
end
section
/-! The Schedule Engine (chapter 7): what its operations do to the schedule, the charge and the events, said once
for the obligations below. -/

namespace Sys2Proof.Machine.DryingSchedule

/-! ## Evaluations (R105 to R107, R117) -/

/-- What an evaluation does to the counters, trim and hold of a charge, before a pending amendment is applied. -/
def judgedBy (ev : EvalRecord) (e : Schedule) : Schedule :=
  if e.charge.judged then (if ev.blind then e.blinded else e.sighted ev) else e

/-- The events of an evaluation that is applied. -/
def evaluationRaises (ev : EvalRecord) (e : Schedule) : List Raise :=
  if e.charge.judged then (if ev.blind then blindRaise e else rateRaise e ev) else []

theorem applyEvaluation_eq (ev : EvalRecord) (s : State) :
    applyEvaluation ev s =
      raiseAll (evaluationRaises ev s.schedule)
        { s with
          schedule :=
            if s.schedule.charge.state.ramps then (judgedBy ev s.schedule).applyAmendment
            else judgedBy ev s.schedule } := rfl

theorem returnIfFree_frame (c : Charge) :
    c.returnIfFree =
      { c with state := c.returnIfFree.state, returnState := c.returnIfFree.returnState } := by
  unfold Charge.returnIfFree; split <;> rfl

theorem sighted_frame (ev : EvalRecord) (e : Schedule) :
    e.sighted ev =
      { e with
        charge :=
          { e.charge with
            confirmation := confirmationAfter e ev, blinds := 0, trim := trimAfter e ev,
            state := (e.sighted ev).charge.state, returnState := (e.sighted ev).charge.returnState,
            causes := (e.sighted ev).charge.causes } } := by
  unfold Schedule.sighted
  dsimp only
  split
  · rw [returnIfFree_frame]
  · rfl

theorem blinded_frame (e : Schedule) :
    e.blinded =
      { e with
        charge :=
          { e.charge with
            blinds := blindsAfter e, state := e.blinded.charge.state,
            returnState := e.blinded.charge.returnState, causes := e.blinded.charge.causes } } := by
  unfold Schedule.blinded; dsimp only; (repeat' split) <;> rfl

/-- The judgment of an evaluation changes these fields of the charge only. -/
theorem judgedBy_frame (ev : EvalRecord) (e : Schedule) :
    judgedBy ev e =
      { e with
        charge :=
          { e.charge with
            confirmation := (judgedBy ev e).charge.confirmation,
            blinds := (judgedBy ev e).charge.blinds, trim := (judgedBy ev e).charge.trim,
            state := (judgedBy ev e).charge.state,
            returnState := (judgedBy ev e).charge.returnState,
            causes := (judgedBy ev e).charge.causes } } := by
  unfold judgedBy
  split
  · split
    · rw [blinded_frame]
    · rw [sighted_frame]
  · rfl

theorem judged_iff (c : Charge) :
    c.judged = true ↔
      c.state = .running ∨ (c.state = .hold ∧ c.returnState = some .running) := by
  simp [Charge.judged]

/-! ## Transitions (R111) -/

theorem hasNext_iff (e : Schedule) :
    e.hasNext = true ↔ ∃ n, e.params.stepCount = some n ∧ e.charge.step + 1 < n := by
  cases h : e.params.stepCount <;> simp [Schedule.hasNext, h]

theorem holdsStep_iff (e : Schedule) (k : Nat) :
    e.holdsStep k = true ↔ ∃ n, e.params.stepCount = some n ∧ k < n := by
  cases h : e.params.stepCount <;> simp [Schedule.holdsStep, h]

theorem hasNext_of_lt {e : Schedule} {n : Nat} (hn : e.params.stepCount = some n)
    (hlt : e.charge.step + 1 < n) : e.hasNext = true :=
  (hasNext_iff e).2 ⟨n, hn, hlt⟩

theorem not_hasNext_of_le {e : Schedule} {n : Nat} (hn : e.params.stepCount = some n)
    (hle : n ≤ e.charge.step + 1) : ¬e.hasNext = true := by
  rw [hasNext_iff]
  rintro ⟨m, hm, hlt⟩
  cases hn.symm.trans hm
  exact absurd hlt (Nat.not_lt.2 hle)

theorem transition_of_hasNext {s : State} (h : s.schedule.hasNext = true) :
    transition s =
      raise (.stepChanged, some (s.schedule.charge.step + 1))
        (startPulse { s with schedule := s.schedule.leave.goTo (s.schedule.charge.step + 1) }) :=
  if_pos h

theorem transition_of_not_hasNext {s : State} (h : ¬s.schedule.hasNext = true) :
    transition s = enterCooldown .finished (startPulse { s with schedule := s.schedule.leave }) :=
  if_neg h

@[simp] theorem startPulse_schedule (s : State) : (startPulse s).schedule = s.schedule := rfl

@[simp] theorem writeAmendment_params (e : Schedule) : e.writeAmendment.params = e.params := by
  unfold Schedule.writeAmendment; split <;> rfl

@[simp] theorem writeAmendment_charge (e : Schedule) :
    e.writeAmendment.charge = { e.charge with amendment := none } := by
  unfold Schedule.writeAmendment
  split
  · next h => rw [← h]
  · rfl

@[simp] theorem leave_params (e : Schedule) : e.leave.params = e.params := writeAmendment_params e

@[simp] theorem leave_charge (e : Schedule) :
    e.leave.charge = { e.charge.leaveStep with amendment := none } := by
  simp [Schedule.leave, Charge.leaveStep]

theorem leave_step (e : Schedule) : e.leave.charge.step = e.charge.step := by
  rw [leave_charge]; rfl

end Sys2Proof.Machine.DryingSchedule
end

section
/-! The current step of an active charge stays below the step count (R99 to R101, R111, R115). -/

namespace Sys2Proof.Machine.DryingSchedule

/-! ## The law on the Schedule Engine alone -/

/-- `State.stepInSchedule`, which speaks of the Schedule Engine only. -/
def StepHeld (e : Schedule) : Prop :=
  (∀ n, e.params.stepCount = some n → 1 ≤ n) ∧
    (e.charge.state.active = true → ∃ n, e.params.stepCount = some n ∧ e.charge.step < n)

theorem stepInSchedule_iff (s : State) : s.stepInSchedule ↔ StepHeld s.schedule := Iff.rfl

/-- The schedule `f` has the parameters and the current step of `e`, and has an active charge only where `e`
has. -/
structure SameStep (e f : Schedule) : Prop where
  params : f.params = e.params
  step : f.charge.step = e.charge.step
  active : f.charge.state.active = true → e.charge.state.active = true

theorem SameStep.refl (e : Schedule) : SameStep e e := ⟨rfl, rfl, id⟩

theorem SameStep.trans {e f g : Schedule} (hef : SameStep e f) (hfg : SameStep f g) : SameStep e g :=
  ⟨hfg.params.trans hef.params, hfg.step.trans hef.step, hef.active ∘ hfg.active⟩

theorem StepHeld.sameStep {e f : Schedule} (h : StepHeld e) (hef : SameStep e f) : StepHeld f := by
  obtain ⟨hcount, hstep⟩ := h
  refine ⟨hef.params ▸ hcount, fun hact => ?_⟩
  rw [hef.params, hef.step]
  exact hstep (hef.active hact)

/-- A charge that is not active is at no step of the schedule. -/
theorem StepHeld.ended {e f : Schedule} (h : StepHeld e) (hp : f.params = e.params)
    (hf : f.charge.state.active = false) : StepHeld f :=
  ⟨hp ▸ h.1, fun hact => absurd hact (Bool.eq_false_iff.1 hf)⟩

/-- A step below the step count may become the current one. -/
theorem StepHeld.moved {e f : Schedule} {n : Nat} (h : StepHeld e) (hp : f.params = e.params)
    (hn : e.params.stepCount = some n) (hf : f.charge.step < n) : StepHeld f :=
  ⟨hp ▸ h.1, fun _ => ⟨n, hp ▸ hn, hf⟩⟩

/-! ## Operations that stay at the step -/

theorem countMinute_step (c : Charge) : c.countMinute.step = c.step := by
  unfold Charge.countMinute; split <;> rfl

theorem countMinute_state (c : Charge) : c.countMinute.state = c.state := by
  unfold Charge.countMinute; split <;> rfl

theorem countAndRamp_params (e : Schedule) : e.countAndRamp.params = e.params := by
  unfold Schedule.countAndRamp; split <;> rfl

theorem countAndRamp_step (e : Schedule) : e.countAndRamp.charge.step = e.charge.step := by
  unfold Schedule.countAndRamp; split <;> exact countMinute_step _

theorem countAndRamp_state (e : Schedule) : e.countAndRamp.charge.state = e.charge.state := by
  unfold Schedule.countAndRamp; split <;> exact countMinute_state _

theorem countAndRamp_sameStep (e : Schedule) : SameStep e e.countAndRamp :=
  ⟨countAndRamp_params e, countAndRamp_step e, fun h => countAndRamp_state e ▸ h⟩

theorem applyAmendment_sameStep (e : Schedule) : SameStep e e.applyAmendment := by
  unfold Schedule.applyAmendment
  split
  · exact .refl e
  · exact ⟨rfl, rfl, id⟩

/-- An evaluation judges an active charge only, and moves it to no other step. -/
theorem judgedBy_sameStep (ev : EvalRecord) (e : Schedule) : SameStep e (judgedBy ev e) := by
  by_cases hj : e.charge.judged = true
  · have hact : e.charge.state.active = true := by
      rcases (judged_iff _).1 hj with h | ⟨h, _⟩ <;> rw [h] <;> rfl
    exact ⟨by rw [judgedBy_frame], by rw [judgedBy_frame], fun _ => hact⟩
  · rw [judgedBy, if_neg hj]
    exact .refl e

theorem applyEvaluation_sameStep (ev : EvalRecord) (s : State) :
    SameStep s.schedule (applyEvaluation ev s).schedule := by
  rw [applyEvaluation_eq, raiseAll_schedule]
  dsimp only
  split
  · exact (judgedBy_sameStep ev _).trans (applyAmendment_sameStep _)
  · exact judgedBy_sameStep ev _

/-! ## State operations that keep the law -/

/-- The operation keeps the law. -/
def KeepsStep (f : State → State) : Prop :=
  ∀ s, StepHeld s.schedule → StepHeld (f s).schedule

theorem keepsStep_of_schedule {f : State → State} (h : ∀ s, (f s).schedule = s.schedule) :
    KeepsStep f := fun s hs => (h s).symm ▸ hs

theorem keepsStep_of_sameStep {f : State → State} (h : ∀ s, SameStep s.schedule (f s).schedule) :
    KeepsStep f := fun s hs => hs.sameStep (h s)

theorem KeepsStep.awake {f : State → State} (h : KeepsStep f) : KeepsStep (awake f) := by
  intro s hs
  cases hr : s.resetHeld with
  | true => rw [awake_of_low hr]; exact hs
  | false => rw [awake_of_high hr]; exact h s hs

/-! ## The minute tick -/

/-- A transition of an active charge goes to a step below the step count, or stays where it is (R111). -/
theorem transition_keepsStep {s : State} (h : StepHeld s.schedule)
    (hact : s.schedule.charge.state.active = true) : StepHeld (transition s).schedule := by
  by_cases hn : s.schedule.hasNext = true
  · obtain ⟨n, hcount, hlt⟩ := (hasNext_iff _).1 hn
    rw [transition_of_hasNext hn]
    exact h.moved (leave_params _) hcount hlt
  · rw [transition_of_not_hasNext hn]
    exact h.sameStep ⟨leave_params _, leave_step _, fun _ => hact⟩

theorem warmupTests_keepsStep {s : State} (h : StepHeld s.schedule)
    (hact : s.schedule.charge.state.active = true) : StepHeld (warmupTests s).schedule := by
  unfold warmupTests
  split
  · exact h.sameStep ⟨rfl, rfl, fun _ => hact⟩
  · split
    · exact h.sameStep ⟨rfl, rfl, id⟩
    · exact h

theorem runningTests_keepsStep {s : State} (h : StepHeld s.schedule)
    (hact : s.schedule.charge.state.active = true) : StepHeld (runningTests s).schedule := by
  have hmarked : StepHeld
      { s.schedule with charge := { s.schedule.charge with stepOverdue := true } } :=
    h.sameStep ⟨rfl, rfl, id⟩
  unfold runningTests
  split
  · exact transition_keepsStep h hact
  · split
    · dsimp only
      split
      · exact transition_keepsStep hmarked hact
      · exact hmarked
    · exact h

theorem completeCharge_keepsStep (r : Option ChargeResult) : KeepsStep (completeCharge r) :=
  fun s hs => hs.ended (writeAmendment_params s.schedule) rfl

theorem scheduleMinute_keepsStep : KeepsStep scheduleMinute := by
  intro s hs
  have hc := hs.sameStep (countAndRamp_sameStep s.schedule)
  have hst := countAndRamp_state s.schedule
  unfold scheduleMinute
  dsimp only
  split
  case h_1 h => exact warmupTests_keepsStep hc (by simp [hst, h, ChargeState.active])
  case h_2 h => exact runningTests_keepsStep hc (by simp [hst, h, ChargeState.active])
  case h_3 h =>
    unfold cooldownTest
    split
    · exact completeCharge_keepsStep _ _ hc
    · exact hc
  all_goals exact hc

theorem minuteTick_keepsStep : KeepsStep minuteTick := by
  intro s hs
  unfold minuteTick
  rw [reversalMinute_schedule, quarantineMinute_schedule]
  exact scheduleMinute_keepsStep s hs

/-! ## Sweeps and evaluations -/

theorem runEvaluation_keepsStep (sweep : Nat) : KeepsStep (runEvaluation sweep) := by
  refine keepsStep_of_sameStep fun s => ?_
  have h := applyEvaluation_sameStep
    (evaluate (ageReadings sweep s.nodes.probes) s.schedule.params s.schedule.charge
      s.evaluator.history sweep)
  unfold runEvaluation
  dsimp only
  refine (?_ : SameStep s.schedule _).trans (h _)
  rw [raiseAll_schedule, reportEvaluation_schedule]
  exact .refl _

theorem completeSweep_keepsStep : KeepsStep completeSweep := fun s hs =>
  runEvaluation_keepsStep s.line.sweepNumber s hs

theorem startSweep_keepsStep : KeepsStep startSweep := by
  intro s hs
  unfold startSweep
  dsimp only
  split
  · exact completeSweep_keepsStep _ hs
  · exact hs

theorem testSweep_keepsStep : KeepsStep testSweep := by
  intro s hs
  have hdone := completeSweep_keepsStep s hs
  unfold testSweep
  dsimp only
  split
  · split
    · exact startSweep_keepsStep _ hdone
    · exact hdone
  · exact hs

theorem sweepExpiry_keepsStep : KeepsStep sweepExpiry := by
  intro s hs
  unfold sweepExpiry
  split
  · split
    · exact hs
    · exact hs
  · exact startSweep_keepsStep _ hs

theorem select_keepsStep : KeepsStep select := by
  intro s hs
  have htested := testSweep_keepsStep s hs
  unfold select
  split
  · dsimp only
    split
    · exact htested
    · exact htested
  · exact hs

/-! ## The probe line: only a delivery reaches the Schedule Engine -/

theorem arbiterTake_keepsStep (before : NodeTables) (o : OutcomeRecord) :
    KeepsStep (arbiterTake before o) := by
  intro s hs
  unfold arbiterTake
  split
  case h_1 => exact testSweep_keepsStep _ hs
  case h_3 => rw [creditSet_schedule]; exact hs
  all_goals exact hs

theorem deliver_keepsStep (o : OutcomeRecord) : KeepsStep (deliver o) := by
  intro s hs
  refine arbiterTake_keepsStep _ _ _ ?_
  rw [passThrough_schedule, deliverToOwner_schedule, monitor_schedule]
  exact hs

theorem decideOutcome_keepsStep (jabbering : Bool) : KeepsStep (decideOutcome jabbering) := by
  intro s hs
  unfold decideOutcome
  split
  · exact deliver_keepsStep _ s hs
  · exact hs

theorem takeCharacter_keepsStep (bits : LineBits) (framing : Bool) :
    KeepsStep (takeCharacter bits framing) := by
  intro s hs
  unfold takeCharacter
  dsimp only
  split
  · exact decideOutcome_keepsStep _ _ hs
  · exact hs

theorem hearLevel_keepsStep (raw : Bool) : KeepsStep (hearLevel · raw) := by
  intro s hs
  unfold hearLevel
  dsimp only
  split
  · exact takeCharacter_keepsStep _ _ _ hs
  · exact hs

theorem hearLevels_keepsStep (samples : List Bool) : KeepsStep (samples.foldl hearLevel) := by
  induction samples with
  | nil => exact fun _ hs => hs
  | cons raw rest ih => exact fun s hs => ih _ (hearLevel_keepsStep raw s hs)

theorem characterReceived_keepsStep (signal : LineSignal) : KeepsStep (characterReceived signal) := by
  cases signal with
  | char bits framing => exact fun s hs => takeCharacter_keepsStep bits framing (s.heard framing) hs
  | raw samples => exact hearLevels_keepsStep samples

theorem responseTimeout_keepsStep : KeepsStep responseTimeout := by
  intro s hs
  unfold responseTimeout
  split
  case h_3 => exact hs
  all_goals exact deliver_keepsStep _ s hs

theorem gapFault_keepsStep : KeepsStep gapFault := by
  intro s hs
  unfold gapFault
  split
  · exact decideOutcome_keepsStep _ _ hs
  · exact hs

theorem trailingWatchEnd_keepsStep (inProgress : Bool) : KeepsStep (trailingWatchEnd inProgress) := by
  intro s hs
  unfold trailingWatchEnd
  split
  · exact decideOutcome_keepsStep _ s hs
  · exact hs

/-! ## Resets -/

theorem restartEffect_schedule (s : State) :
    (restartEffect s).schedule = { s.schedule with charge := s.schedule.charge.restart } := by
  unfold restartEffect; rw [raiseAll_schedule]; rfl

theorem restartEffect_keepsStep : KeepsStep restartEffect := by
  intro s hs
  rw [restartEffect_schedule]
  exact hs.ended rfl rfl

theorem restartNow_keepsStep : KeepsStep restartNow := by
  intro s hs
  unfold restartNow
  split
  · refine restartEffect_keepsStep _ ?_
    (repeat' split) <;> exact hs
  · exact hs

theorem frameSent_keepsStep : KeepsStep frameSent := by
  intro s hs
  unfold frameSent
  split
  case h_2 =>
    dsimp only
    split
    · exact restartEffect_keepsStep _ hs
    · exact hs
  all_goals exact hs

/-- The schedule at reset holds no step count and no charge. -/
theorem reset_stepHeld : StepHeld State.reset.schedule := ⟨nofun, nofun⟩

theorem resetHigh_keepsStep (stn : BitVec 5) (prate lrate : Bool) :
    KeepsStep (resetHigh stn prate lrate) := by
  intro s _
  unfold resetHigh
  rw [raiseAll_schedule]
  exact reset_stepHeld

/-! ## The second tick -/

theorem sweepSecond_keepsStep : KeepsStep sweepSecond := by
  intro s hs
  unfold sweepSecond
  split
  · exact sweepExpiry_keepsStep s hs
  · exact hs

theorem refreshSeconds_keepsStep (l : List Nat) :
    KeepsStep (l.foldl fun s i => refreshSecond i s) := by
  induction l with
  | nil => exact fun _ hs => hs
  | cons i rest ih =>
    intro s hs
    exact ih _ ((refreshSecond_schedule i s).symm ▸ hs)

theorem secondTick_keepsStep : KeepsStep secondTick := by
  intro s hs
  unfold secondTick
  rw [climateSecond_schedule, coastSecond_schedule]
  exact sweepSecond_keepsStep _ (refreshSeconds_keepsStep _ s hs)

/-! ## The commands of a charge -/

/-- The command's answer keeps the law. -/
def AnswerKeepsStep (answer : State → Answer) : Prop :=
  ∀ s, StepHeld s.schedule → StepHeld (answer s).state.schedule

theorem startCharge_keepsStep : AnswerKeepsStep startCharge := by
  intro s hs
  unfold startCharge
  split
  · next h =>
    obtain ⟨n, hn, _⟩ := (ChargeStart.consistent_iff _).1 (ChargeStart.canStart_iff.1 h).2
    exact hs.moved (f := s.schedule.startCharge s.nodes.freshZones) rfl hn (hs.1 n hn)
  · exact hs

theorem hold_keepsStep : AnswerKeepsStep hold := by
  intro s hs
  unfold hold
  split
  case h_1 h => exact hs.sameStep ⟨rfl, rfl, fun _ => by rw [h]; rfl⟩
  case h_2 h => exact hs.sameStep ⟨rfl, rfl, fun _ => by rw [h]; rfl⟩
  case h_3 => exact hs.sameStep ⟨rfl, rfl, id⟩
  all_goals exact hs

theorem resume_step (c : Charge) : c.resume.step = c.step := by
  rw [Charge.resume, returnIfFree_frame]

theorem resume_keepsStep : AnswerKeepsStep resume := by
  intro s hs
  unfold resume
  split
  · next h => exact hs.sameStep ⟨rfl, resume_step _, fun _ => by rw [h.1]; rfl⟩
  · exact hs

theorem advance_keepsStep : AnswerKeepsStep advance := by
  intro s hs
  have hw : StepHeld (s.withCharge s.schedule.charge.endWarmup).schedule :=
    hs.sameStep ⟨rfl, rfl, id⟩
  unfold advance
  split
  case h_1 h => exact transition_keepsStep hw (congrArg ChargeState.active h)
  case h_2 h => exact transition_keepsStep hw (congrArg ChargeState.active h)
  all_goals exact hs

theorem setStep_keepsStep (args : List Byte) : AnswerKeepsStep (setStep args) := by
  intro s hs
  unfold setStep
  split
  · exact hs
  · split
    · exact hs
    · split
      · next h =>
        obtain ⟨n, hn, hlt⟩ := (holdsStep_iff _ _).1 h
        exact hs.moved (leave_params _) hn hlt
      · exact hs

theorem enterCooldown_keepsStep (r : ChargeResult) {s : State} (hs : StepHeld s.schedule)
    (hact : s.schedule.charge.state.active = true) : StepHeld (enterCooldown r s).schedule :=
  hs.sameStep ⟨rfl, rfl, fun _ => hact⟩

theorem abortCharge_keepsStep : AnswerKeepsStep abortCharge := by
  intro s hs
  unfold abortCharge
  split
  case h_1 h => exact enterCooldown_keepsStep _ hs (congrArg ChargeState.active h)
  case h_2 h => exact enterCooldown_keepsStep _ hs (congrArg ChargeState.active h)
  case h_3 h => exact enterCooldown_keepsStep _ hs (congrArg ChargeState.active h)
  case h_4 => exact completeCharge_keepsStep _ s hs
  all_goals exact hs

theorem stepAmend_sameStep (args : List Byte) (s : State) :
    SameStep s.schedule (stepAmend args s).state.schedule := by
  unfold stepAmend amend
  (repeat' split) <;> exact ⟨rfl, rfl, id⟩

/-! ## Table writes (R97, R99) -/

theorem scheduleWrite_sameStep (args : List Byte) (s : State) :
    SameStep s.schedule (scheduleWrite args s).state.schedule := by
  unfold scheduleWrite
  (repeat' split) <;> exact ⟨rfl, rfl, id⟩

/-- A parameter written leaves the step count, or is the step count. -/
theorem set_stepCount (p : ChargeParams) (i v : Nat) :
    (p.set i v).stepCount = if i = 3 then some v else p.stepCount := by
  unfold ChargeParams.set
  split <;> simp_all

/-- The step count after a write is the one held before, or a written one. -/
theorem written_stepCount (values : List (Nat × Nat)) (p : ChargeParams) :
    (p.written values).stepCount = p.stepCount ∨
      ∃ v, (3, v) ∈ values ∧ (p.written values).stepCount = some v := by
  unfold ChargeParams.written
  induction values generalizing p with
  | nil => exact .inl rfl
  | cons x rest ih =>
    obtain ⟨i, v⟩ := x
    rcases ih (p.set i v) with h | ⟨w, hw, h⟩
    · by_cases hi : i = 3
      · subst hi
        exact .inr ⟨v, List.mem_cons_self, h.trans (set_stepCount p 3 v)⟩
      · exact .inl (h.trans ((set_stepCount p i v).trans (if_neg hi)))
    · exact .inr ⟨w, List.mem_cons_of_mem _ hw, h⟩

/-- A written step count has been clamped to 1..24. -/
theorem one_le_judged_stepCount {l : List (Nat × List Byte)} {values : List (Nat × Nat)} {adj : Bool}
    (h : judgeAll judgeChargeParam l = some (values, adj)) {v : Nat} (hv : (3, v) ∈ values) :
    1 ≤ v := by
  obtain ⟨a, b, _, hparse⟩ := (judgeAll_mem h).2 _ hv
  have hclamp : clampNat 1 24 (paramValue a) = v := congrArg Prod.fst (Option.some.inj hparse)
  exact hclamp ▸ (clampNat_bounds _ (by decide)).1

/-- A write that R99 does not refuse leaves the current step of an active charge below the written count. -/
theorem step_lt_of_not_countInUse {e : Schedule} {values : List (Nat × Nat)} {v : Nat}
    (h : ¬countInUse e values = true) (hact : e.charge.state.active = true) (hv : (3, v) ∈ values) :
    e.charge.step < v := by
  refine Decidable.byContradiction fun hlt => h ?_
  simp only [countInUse, hact, Bool.true_and, List.any_eq_true]
  exact ⟨(3, v), hv, by simp [hlt]⟩

theorem chargeParamsWrite_keepsStep (args : List Byte) : AnswerKeepsStep (chargeParamsWrite args) := by
  intro s hs
  unfold chargeParamsWrite
  split
  · exact hs
  · next values adj hj =>
    obtain ⟨l, _, hjudge⟩ := Option.bind_eq_some_iff.1 hj
    split
    · exact hs
    · next hfree =>
      rcases written_stepCount values s.schedule.params with hsame | ⟨v, hv, hnew⟩
      · exact ⟨fun n hn => hs.1 n (hsame.symm.trans hn), fun hact => by
          obtain ⟨n, hn, hlt⟩ := hs.2 hact
          exact ⟨n, hsame.trans hn, hlt⟩⟩
      · refine ⟨fun n hn => ?_, fun hact => ⟨v, hnew, step_lt_of_not_countInUse hfree hact hv⟩⟩
        cases hnew.symm.trans hn
        exact one_le_judged_stepCount hjudge hv

theorem tableWriteOf_keepsStep {table : Nat} {write : List Byte → State → Answer}
    (h : tableWriteOf table = some write) (args : List Byte) : AnswerKeepsStep (write args) := by
  unfold tableWriteOf at h
  split at h <;> cases h
  · exact keepsStep_of_schedule (probeWrite_schedule args)
  · exact keepsStep_of_schedule (airWrite_schedule args)
  · exact keepsStep_of_schedule (actuatorWrite_schedule args)
  · exact keepsStep_of_schedule (calibrationWrite_schedule args)
  · exact keepsStep_of_sameStep (scheduleWrite_sameStep args)
  · exact chargeParamsWrite_keepsStep args
  · exact keepsStep_of_schedule (climateParamsWrite_schedule args)
  · exact keepsStep_of_schedule (lineParamsWrite_schedule args)
  · exact keepsStep_of_schedule (passListWrite_schedule args)

theorem tableWrite_keepsStep (args : List Byte) : AnswerKeepsStep (tableWrite args) := by
  intro s hs
  unfold tableWrite
  split
  · exact hs
  · split
    · next h => exact tableWriteOf_keepsStep h _ s hs
    · exact hs

/-! ## COMMANDs -/

theorem answerOf_keepsStep {kind : Nat} {answer : List Byte → State → Answer}
    (h : answerOf kind = some answer) (args : List Byte) : AnswerKeepsStep (answer args) := by
  unfold answerOf at h
  split at h <;> cases h
  · exact keepsStep_of_schedule fun _ => rfl
  · exact tableWrite_keepsStep args
  · exact keepsStep_of_schedule fun s => congrArg State.schedule (tableRead_state args s)
  · exact startCharge_keepsStep
  · exact hold_keepsStep
  · exact resume_keepsStep
  · exact advance_keepsStep
  · exact setStep_keepsStep args
  · exact abortCharge_keepsStep
  · exact keepsStep_of_sameStep (stepAmend_sameStep args)
  · exact keepsStep_of_schedule (overrideCommand_schedule args)
  · exact keepsStep_of_schedule (wbSelect_schedule args)
  · exact keepsStep_of_schedule surveyStart_schedule
  · exact keepsStep_of_schedule surveyAbort_schedule
  · exact keepsStep_of_schedule lineReset_schedule
  · exact keepsStep_of_schedule (clearEvents_schedule args)
  · exact keepsStep_of_schedule (setEventMask_schedule args)
  · exact keepsStep_of_schedule (setReportMode_schedule args)
  · exact keepsStep_of_schedule (setStatusLines_schedule args)

theorem takeRestart_keepsStep (c : LoopCommand) (source kind tag : Byte) :
    KeepsStep (takeRestart c source kind tag) := by
  intro s hs
  unfold takeRestart
  split
  · exact hs
  · exact restartEffect_keepsStep s hs

theorem carryOut_keepsStep (c : LoopCommand) : KeepsStep (carryOut c) := by
  intro s hs
  unfold carryOut
  split
  · exact hs
  · exact hs
  · split
    · exact takeRestart_keepsStep _ _ _ _ s hs
    · split
      · next h => exact answerOf_keepsStep h _ s hs
      · exact hs

theorem carryCurrent_keepsStep : KeepsStep carryCurrent := by
  intro s hs
  unfold carryCurrent
  split
  · split
    · exact hs
    · exact carryOut_keepsStep _ s hs
  · exact hs

theorem commandRow_keepsStep (c : LoopCommand) {carry : State → State} (h : KeepsStep carry) :
    KeepsStep (commandRow c carry) := by
  intro s hs
  rcases commandRow_cases c carry s with heq | heq | heq <;> rw [heq]
  · exact hs
  · exact h s hs
  · exact (arrive_schedule c s).symm ▸ hs

theorem namedRow_keepsStep (src kind tag : Byte) (args : List Byte) {answer : State → Answer}
    (h : AnswerKeepsStep answer) : KeepsStep (namedRow src kind tag args answer) :=
  commandRow_keepsStep _ fun s hs => h s hs

/-- A row of a command whose answer is that of a command kind. -/
theorem kindRow_keepsStep {kind : Nat} {answer : List Byte → State → Answer}
    (h : answerOf kind = some answer) (src k tag : Byte) (args more : List Byte) :
    KeepsStep (namedRow src k tag args (answer more)) :=
  namedRow_keepsStep src k tag args (answerOf_keepsStep h more)

/-- A row of TABLE WRITE for one table. -/
theorem tableRow_keepsStep {table : Nat} {write : List Byte → State → Answer}
    (h : tableWriteOf table = some write) (src k tag : Byte) (args more : List Byte) :
    KeepsStep (namedRow src k tag args (write more)) :=
  namedRow_keepsStep src k tag args (tableWriteOf_keepsStep h more)

/-! ## Every row, and every step -/

theorem exec_keepsStep (i : Instr) (s : State) (hs : StepHeld s.schedule) :
    ∃ t, exec i s = .next t ∧ StepHeld t.schedule := by
  cases i with
  | readStatus => exact ⟨_, rfl, kindRow_keepsStep (kind := 0) rfl _ _ _ _ [] s hs⟩
  | tableWrite => exact ⟨_, rfl, kindRow_keepsStep (kind := 1) rfl _ _ _ _ _ s hs⟩
  | tableWriteProbe => exact ⟨_, rfl, tableRow_keepsStep (table := 0) rfl _ _ _ _ _ s hs⟩
  | tableWriteAirpoint => exact ⟨_, rfl, tableRow_keepsStep (table := 1) rfl _ _ _ _ _ s hs⟩
  | tableWriteActuator => exact ⟨_, rfl, tableRow_keepsStep (table := 2) rfl _ _ _ _ _ s hs⟩
  | tableWriteCalibration => exact ⟨_, rfl, tableRow_keepsStep (table := 3) rfl _ _ _ _ _ s hs⟩
  | tableWriteSchedule => exact ⟨_, rfl, tableRow_keepsStep (table := 4) rfl _ _ _ _ _ s hs⟩
  | tableWriteChargeParams => exact ⟨_, rfl, tableRow_keepsStep (table := 5) rfl _ _ _ _ _ s hs⟩
  | tableWriteClimateParams => exact ⟨_, rfl, tableRow_keepsStep (table := 6) rfl _ _ _ _ _ s hs⟩
  | tableWriteLineParams => exact ⟨_, rfl, tableRow_keepsStep (table := 7) rfl _ _ _ _ _ s hs⟩
  | tableWritePassList => exact ⟨_, rfl, tableRow_keepsStep (table := 8) rfl _ _ _ _ _ s hs⟩
  | tableRead => exact ⟨_, rfl, kindRow_keepsStep (kind := 2) rfl _ _ _ _ _ s hs⟩
  | startCharge => exact ⟨_, rfl, kindRow_keepsStep (kind := 3) rfl _ _ _ _ [] s hs⟩
  | hold => exact ⟨_, rfl, kindRow_keepsStep (kind := 4) rfl _ _ _ _ [] s hs⟩
  | resume => exact ⟨_, rfl, kindRow_keepsStep (kind := 5) rfl _ _ _ _ [] s hs⟩
  | advance => exact ⟨_, rfl, kindRow_keepsStep (kind := 6) rfl _ _ _ _ [] s hs⟩
  | setStep => exact ⟨_, rfl, kindRow_keepsStep (kind := 7) rfl _ _ _ _ _ s hs⟩
  | abortCharge => exact ⟨_, rfl, kindRow_keepsStep (kind := 8) rfl _ _ _ _ [] s hs⟩
  | stepAmend => exact ⟨_, rfl, kindRow_keepsStep (kind := 9) rfl _ _ _ _ _ s hs⟩
  | override => exact ⟨_, rfl, kindRow_keepsStep (kind := 10) rfl _ _ _ _ _ s hs⟩
  | wbSelect => exact ⟨_, rfl, kindRow_keepsStep (kind := 11) rfl _ _ _ _ _ s hs⟩
  | surveyStart => exact ⟨_, rfl, kindRow_keepsStep (kind := 12) rfl _ _ _ _ [] s hs⟩
  | surveyAbort => exact ⟨_, rfl, kindRow_keepsStep (kind := 13) rfl _ _ _ _ [] s hs⟩
  | lineReset => exact ⟨_, rfl, kindRow_keepsStep (kind := 14) rfl _ _ _ _ [] s hs⟩
  | restart => exact ⟨_, rfl, commandRow_keepsStep _ (takeRestart_keepsStep _ _ _ _) s hs⟩
  | clearEvents => exact ⟨_, rfl, kindRow_keepsStep (kind := 16) rfl _ _ _ _ _ s hs⟩
  | setEventMask => exact ⟨_, rfl, kindRow_keepsStep (kind := 17) rfl _ _ _ _ _ s hs⟩
  | setReportMode => exact ⟨_, rfl, kindRow_keepsStep (kind := 18) rfl _ _ _ _ _ s hs⟩
  | setStatusLines => exact ⟨_, rfl, kindRow_keepsStep (kind := 19) rfl _ _ _ _ _ s hs⟩
  | unknownCommand => exact ⟨_, rfl, commandRow_keepsStep _ (carryOut_keepsStep _) s hs⟩
  | restartEffect => exact ⟨_, rfl, restartNow_keepsStep.awake s hs⟩
  | resetAssert => exact ⟨_, rfl, reset_stepHeld⟩
  | resetRelease stn prate lrate =>
    refine ⟨_, rfl, ?_⟩
    split
    · exact resetHigh_keepsStep stn prate lrate s hs
    · exact hs
  | minuteTick => exact ⟨_, rfl, minuteTick_keepsStep.awake s hs⟩
  | quarantineEnd node =>
    exact ⟨_, rfl, (keepsStep_of_schedule (f := quarantineEnd node.val) fun _ => rfl).awake s hs⟩
  | sweepTimerExpiry => exact ⟨_, rfl, sweepExpiry_keepsStep.awake s hs⟩
  | climateCycleExpiry =>
    exact ⟨_, rfl, (keepsStep_of_schedule climateExpiry_schedule).awake s hs⟩
  | refreshTimerExpiry index =>
    exact ⟨_, rfl, (keepsStep_of_schedule (refreshExpiry_schedule index.val)).awake s hs⟩
  | reversalTimerExpiry =>
    exact ⟨_, rfl, (keepsStep_of_schedule reversalExpiry_schedule).awake s hs⟩
  | coastTimerExpiry => exact ⟨_, rfl, (keepsStep_of_schedule coastExpiry_schedule).awake s hs⟩
  | stepPulseEnd => exact ⟨_, rfl, (keepsStep_of_schedule (f := pulseEnd) fun _ => rfl).awake s hs⟩
  | lineSelect => exact ⟨_, rfl, select_keepsStep.awake s hs⟩
  | leadEnd => exact ⟨_, rfl, (keepsStep_of_schedule leadEnd_schedule).awake s hs⟩
  | pollSent => exact ⟨_, rfl, (keepsStep_of_schedule pollSent_schedule).awake s hs⟩
  | lagEnd => exact ⟨_, rfl, (keepsStep_of_schedule lagEnd_schedule).awake s hs⟩
  | characterReceived signal => exact ⟨_, rfl, (characterReceived_keepsStep signal).awake s hs⟩
  | responseTimeout => exact ⟨_, rfl, responseTimeout_keepsStep.awake s hs⟩
  | gapFault => exact ⟨_, rfl, gapFault_keepsStep.awake s hs⟩
  | trailingWatchEnd b => exact ⟨_, rfl, (trailingWatchEnd_keepsStep b).awake s hs⟩
  | abandonmentComplete =>
    exact ⟨_, rfl, (keepsStep_of_schedule finishAbandonment_schedule).awake s hs⟩
  | loopFrameReceived signal how =>
    exact ⟨_, rfl, (keepsStep_of_schedule (loopHeard_schedule signal how)).awake s hs⟩
  | loopOutFrameSent => exact ⟨_, rfl, frameSent_keepsStep.awake s hs⟩
  | loopOutHandover => exact ⟨_, rfl, (keepsStep_of_schedule handOver_schedule).awake s hs⟩

theorem idle_keepsStep : KeepsStep idle := by
  intro s hs
  unfold idle
  split
  · exact hs
  · split
    · exact carryCurrent_keepsStep s hs
    · exact secondTick_keepsStep s hs

/-- Settles O8: each row keeps the law, as the operations it is made of do; only transitions, SET STEP, START
CHARGE and a write of the step count move the step or the count. -/
theorem currentStepStaysInSchedule : Obligations.CurrentStepStaysInSchedule := by
  intro s t hs hstep
  unfold step at hstep
  split at hstep
  · cases hstep
    exact idle_keepsStep s hs
  · next c rest _ =>
    obtain ⟨u, hu, hheld⟩ := exec_keepsStep c { s with pending := rest } hs
    cases hu.symm.trans hstep
    exact (stepInSchedule_iff _).2 hheld

end Sys2Proof.Machine.DryingSchedule
end
section
/-! HOLD, RESUME, ABORT CHARGE and STEP AMEND: the answer of each command, case by case (R112, R113, R116, R118 to
R120). -/

namespace Sys2Proof.Machine.DryingSchedule

/-! ## HOLD and RESUME (R112, R113) -/

theorem exec_hold {s : State} {src tag : Byte} {args : List Byte}
    (h : s.carries (namedCommand src 4#8 tag args)) :
    exec (.hold src tag args) s = .next (finish src 4#8 tag (hold s)) :=
  congrArg Host.Outcome.next (namedRow_of_carries h hold)

theorem exec_resume {s : State} {src tag : Byte} {args : List Byte}
    (h : s.carries (namedCommand src 5#8 tag args)) :
    exec (.resume src tag args) s = .next (finish src 5#8 tag (resume s)) :=
  congrArg Host.Outcome.next (namedRow_of_carries h resume)

section
variable {s : State}

theorem hold_of_warmup (h : s.schedule.charge.state = .warmup) :
    hold s = .ok (enterHold .warmup s) := by
  simp only [hold, h]

theorem hold_of_running (h : s.schedule.charge.state = .running) :
    hold s = .ok (enterHold .running s) := by
  simp only [hold, h]

theorem hold_of_hold (h : s.schedule.charge.state = .hold) :
    hold s =
      .ok
        (s.withCharge
          { s.schedule.charge with
            causes := { s.schedule.charge.causes with operator := true } }) := by
  simp only [hold, h]

theorem hold_refused
    (h : s.schedule.charge.state = .idle ∨ s.schedule.charge.state = .cooldown ∨
      s.schedule.charge.state = .complete) : hold s = .refuse .refusedState s := by
  rcases h with h | h | h <;> simp only [hold, h]

theorem resume_of_held (h : s.schedule.charge.state = .hold)
    (hop : s.schedule.charge.causes.operator = true) :
    resume s = .ok (s.withCharge s.schedule.charge.resume) :=
  if_pos ⟨h, hop⟩

theorem resume_refused
    (h : s.schedule.charge.state ≠ .hold ∨ s.schedule.charge.causes.operator = false) :
    resume s = .refuse .refusedState s := by
  refine if_neg fun ⟨hst, hop⟩ => ?_
  rcases h with h | h
  · exact h hst
  · exact absurd hop (Bool.eq_false_iff.1 h)

end

theorem returnIfFree_of_cause {c : Charge} (h : c.causes.operator = true ∨ c.causes.blind = true) :
    c.returnIfFree = c := by
  refine if_neg fun ⟨_, hop, hbl⟩ => ?_
  rcases h with h | h
  · exact absurd h (Bool.eq_false_iff.1 hop)
  · exact absurd h (Bool.eq_false_iff.1 hbl)

/-- With no cause left a held charge is again in the state that its return state names. -/
theorem returnIfFree_of_free {c : Charge} (h : c.state = .hold) (hop : c.causes.operator = false)
    (hbl : c.causes.blind = false) :
    c.returnIfFree =
      { c with
        state := if c.returnState = some .warmup then .warmup else .running,
        returnState := none } := by
  unfold Charge.returnIfFree
  rw [if_pos ⟨h, hop, hbl⟩]
  split
  · next hr => rw [if_pos hr]
  · next hr => rw [if_neg hr]

theorem resume_of_blind {c : Charge} (h : c.causes.blind = true) :
    c.resume = { c with causes := { operator := false, blind := true } } := by
  simp only [Charge.resume, h]
  exact returnIfFree_of_cause (.inr rfl)

theorem resume_of_free {c : Charge} (h : c.state = .hold) (hbl : c.causes.blind = false) :
    c.resume =
      { c with
        state := if c.returnState = some .warmup then .warmup else .running,
        returnState := none, causes := { operator := false, blind := false } } := by
  simp only [Charge.resume, hbl]
  exact returnIfFree_of_free h rfl rfl

/-- Settles O51: each case is one branch of HOLD or RESUME, and the return of RESUME is that of a charge with no
cause left. -/
theorem holdAndResume : Obligations.HoldAndResume := by
  intro s src tag args c put
  refine ⟨fun hc => ?_, fun hc => ?_⟩
  · rw [exec_hold hc]
    refine ⟨fun h => ?_, fun h => ?_, fun h => ?_, fun h => ?_⟩
    · rw [hold_of_warmup h]; rfl
    · rw [hold_of_running h]; rfl
    · rw [hold_of_hold h]; rfl
    · rw [hold_refused h]
  · rw [exec_resume hc]
    refine ⟨fun h hop hbl => ?_, fun h hop hbl hr => ?_, fun h hop hbl hr => ?_, fun h => ?_⟩
    · rw [resume_of_held h hop, resume_of_blind hbl]; rfl
    · rw [resume_of_held h hop, resume_of_free h hbl, if_pos hr]; rfl
    · have hne : s.schedule.charge.returnState ≠ some .warmup := by rw [hr]; decide
      rw [resume_of_held h hop, resume_of_free h hbl, if_neg hne]; rfl
    · rw [resume_refused h]

/-! ## ABORT CHARGE (R118 to R120) -/

theorem exec_abortCharge {s : State} {src tag : Byte} {args : List Byte}
    (h : s.carries (namedCommand src 8#8 tag args)) :
    exec (.abortCharge src tag args) s = .next (finish src 8#8 tag (abortCharge s)) :=
  congrArg Host.Outcome.next (namedRow_of_carries h abortCharge)

section
variable {s : State}

theorem abortCharge_of_going
    (h : s.schedule.charge.state = .warmup ∨ s.schedule.charge.state = .running ∨
      s.schedule.charge.state = .hold) : abortCharge s = .ok (enterCooldown .aborted s) := by
  rcases h with h | h | h <;> simp only [abortCharge, h]

theorem abortCharge_of_cooldown (h : s.schedule.charge.state = .cooldown) :
    abortCharge s = .ok (completeCharge (some .aborted) s) := by
  simp only [abortCharge, h]

theorem abortCharge_refused
    (h : s.schedule.charge.state = .idle ∨ s.schedule.charge.state = .complete) :
    abortCharge s = .refuse .refusedState s := by
  rcases h with h | h <;> simp only [abortCharge, h]

end

theorem coasting_iff (f : FanState) : f.coasting = true ↔ f = .coastR ∨ f = .coastF := by
  cases f <;> simp [FanState.coasting]

/-- The cooldown demands, with the vent by the fan state (R138). -/
theorem climate_enterCooldown_eq (c : Climate) (vent : Nat) :
    c.enterCooldown vent =
      { c with
        zones :=
          c.zones.map fun l =>
            { l with demand := l.demand.map fun _ => 0, value := 0, mode := .tracking, stale := 0 },
        spray := some 0, vent := some (if c.fan = .coastR ∨ c.fan = .coastF then 0 else vent) } := by
  simp only [Climate.enterCooldown, coasting_iff]
  rfl

/-- The Schedule Table with a pending amendment written to its step (R118). -/
theorem writeAmendment_steps (e : Schedule) :
    e.writeAmendment.steps =
      match e.charge.amendment with
      | some (i, r) => e.steps.set i (some r)
      | none => e.steps := by
  unfold Schedule.writeAmendment; split <;> simp_all

theorem writeAmendment_eq (e : Schedule) :
    e.writeAmendment =
      { steps := e.writeAmendment.steps, params := e.params,
        charge := { e.charge with amendment := none } } := by
  rw [← writeAmendment_params e, ← writeAmendment_charge e]

/-- Settles O53: ABORT CHARGE is the entry into COOLDOWN, or in COOLDOWN the completion. -/
theorem abortEndsCharge : Obligations.AbortEndsCharge := by
  intro s src tag args hc c
  rw [exec_abortCharge hc]
  refine ⟨fun h => ?_, fun h => ?_, fun h => ?_⟩
  · rw [abortCharge_of_going h, enterCooldown, climate_enterCooldown_eq]
    rfl
  · rw [abortCharge_of_cooldown h, completeCharge, Schedule.complete, writeAmendment_eq,
      writeAmendment_steps]
    rfl
  · rw [abortCharge_refused h]

/-! ## STEP AMEND (R116) -/

theorem exec_stepAmend {s : State} {src tag : Byte} {args : List Byte}
    (h : s.carries (namedCommand src 9#8 tag args)) :
    exec (.stepAmend src tag args) s = .next (finish src 9#8 tag (stepAmend args s)) :=
  congrArg Host.Outcome.next (namedRow_of_carries h (stepAmend args))

theorem amendsCurrent_iff (s : State) (i : Nat) :
    amendsCurrent s i = true ↔ s.schedule.charge.state.active = true ∧ i = s.schedule.charge.step := by
  simp [amendsCurrent]

section
variable {s : State} {i : Byte} {bytes : List Byte}

theorem stepAmend_of_parsed (hl : bytes.length = 15) (hi : i.toNat < 24) {r : StepRecord}
    {adjusted : Bool} (h : parseStep bytes = some (r, adjusted)) :
    stepAmend (i :: bytes) s = amend i.toNat r adjusted s := by
  have hfits : ¬(bytes.length < 15 ∨ Config.scheduleSteps ≤ i.toNat) := by
    simp only [Config.scheduleSteps]; omega
  simp only [stepAmend, if_neg hfits, h]

theorem stepAmend_refused (h : 24 ≤ i.toNat ∨ parseStep bytes = none) :
    stepAmend (i :: bytes) s = .refuse .badArgument s := by
  simp only [stepAmend]
  split
  · rfl
  · next hfits =>
    have hnone := h.resolve_left fun hi => hfits (.inr hi)
    rw [hnone]

end

section
variable {s : State} {i : Nat} {r : StepRecord} {adjusted : Bool}

theorem amend_current (h : amendsCurrent s i = true) (ha : s.schedule.charge.amendment = none) :
    amend i r adjusted s =
      .done adjusted (s.withCharge { s.schedule.charge with amendment := some (i, r) }) := by
  simp [amend, h, ha]

theorem amend_busy (h : amendsCurrent s i = true) (ha : s.schedule.charge.amendment ≠ none) :
    amend i r adjusted s = .refuse .refusedBusy s := by
  simp [amend, h, Option.isSome_iff_ne_none.2 ha]

theorem amend_other (h : ¬amendsCurrent s i = true) :
    amend i r adjusted s = .done adjusted (writeSteps [(i, r)] s) := if_neg h

theorem writeSteps_one (i : Nat) (r : StepRecord) (s : State) :
    writeSteps [(i, r)] s =
      { s with schedule := { s.schedule with steps := s.schedule.steps.set i (some r) } } := by
  rw [writeSteps, putAll_one, modify_const]

end

/-- Settles O54: a record that is judged without a fault goes to `amend`, whose cases are those of R116. -/
theorem stepAmended : Obligations.StepAmended := by
  intro s src tag i bytes hc hl c current
  rw [exec_stepAmend hc]
  refine ⟨fun r adjusted hi hp hcur ha => ?_, fun r adjusted hi hp hcur ha => ?_,
    fun r adjusted hi hp hcur => ?_, fun h => ?_⟩
  · rw [stepAmend_of_parsed hl hi hp, amend_current ((amendsCurrent_iff _ _).2 hcur) ha]
    rfl
  · rw [stepAmend_of_parsed hl hi hp, amend_busy ((amendsCurrent_iff _ _).2 hcur) ha]
  · rw [stepAmend_of_parsed hl hi hp, amend_other (mt (amendsCurrent_iff _ _).1 hcur), writeSteps_one]
  · rw [stepAmend_refused h]

end Sys2Proof.Machine.DryingSchedule
end

section
/-! SET STEP and ADVANCE: leaving a step for another, or for COOLDOWN (R111, R114, R115, R118, R119). -/

namespace Sys2Proof.Machine.DryingSchedule

theorem exec_setStep {s : State} {src tag : Byte} {args : List Byte}
    (h : s.carries (namedCommand src 7#8 tag args)) :
    exec (.setStep src tag args) s = .next (finish src 7#8 tag (setStep args s)) :=
  congrArg Host.Outcome.next (namedRow_of_carries h (setStep args))

theorem exec_advance {s : State} {src tag : Byte} {args : List Byte}
    (h : s.carries (namedCommand src 6#8 tag args)) :
    exec (.advance src tag args) s = .next (finish src 6#8 tag (advance s)) :=
  congrArg Host.Outcome.next (namedRow_of_carries h advance)

section
variable {s : State} {k : Byte} {rest : List Byte}

theorem setStep_accepted (h : s.schedule.charge.state = .hold)
    (hk : s.schedule.holdsStep k.toNat = true) :
    setStep (k :: rest) s = .ok (takeStep k.toNat s) := by
  simp [setStep, h, hk]

theorem setStep_beyond (h : s.schedule.charge.state = .hold)
    (hk : ¬s.schedule.holdsStep k.toNat = true) :
    setStep (k :: rest) s = .refuse .badArgument s := by
  simp [setStep, h, hk]

theorem setStep_not_held (h : s.schedule.charge.state ≠ .hold) :
    setStep (k :: rest) s = .refuse .refusedState s := by
  simp [setStep, h]

theorem advance_accepted
    (h : s.schedule.charge.state = .running ∨ s.schedule.charge.state = .hold) :
    advance s = .ok (transition (s.withCharge s.schedule.charge.endWarmup)) := by
  rcases h with h | h <;> simp only [advance, h]

theorem advance_refused
    (h : s.schedule.charge.state = .idle ∨ s.schedule.charge.state = .warmup ∨
      s.schedule.charge.state = .cooldown ∨ s.schedule.charge.state = .complete) :
    advance s = .refuse .refusedState s := by
  rcases h with h | h | h | h <;> simp only [advance, h]

end

theorem leave_steps (e : Schedule) : e.leave.steps = e.writeAmendment.steps := rfl

theorem leave_eq (e : Schedule) :
    e.leave =
      { steps := e.writeAmendment.steps, params := e.params,
        charge := { e.charge.leaveStep with amendment := none } } := by
  rw [← leave_params e, ← leave_charge e]; rfl

/-- A charge that goes to step `k` by a transition or by the operator, with the targets of `r` (R111, R115). -/
theorem leave_goTo_eq (e : Schedule) {k : Nat} {r : StepRecord} {sp : Setpoints}
    (hr : (e.leave.steps[k]?).join = some r) (hsp : e.charge.setpoints = some sp) :
    e.leave.goTo k =
      { steps := e.writeAmendment.steps, params := e.params,
        charge :=
          { e.charge with
            step := k, dwell := 0, confirmation := 0, trim := false, stepOverdue := false,
            amendment := none,
            setpoints := some { sp with targetDb := r.dbTarget, targetDep := r.depTarget } } } := by
  have hat : e.leave.stepAt k = some r := hr
  unfold Schedule.goTo
  rw [hat, leave_params, leave_charge]
  simp only [Charge.leaveStep, hsp]
  rfl

/-- Settles O52: SET STEP and ADVANCE leave the step in one way, and differ in the step they go to; ADVANCE from the
last step enters COOLDOWN. -/
theorem setStepAndAdvance : Obligations.SetStepAndAdvance := by
  refine ⟨?_, ?_⟩
  · intro s src tag k rest hc c steps inSchedule
    rw [exec_setStep hc]
    refine ⟨fun r sp h hk hr hsp => ?_, fun h hk => ?_, fun h => ?_⟩
    · have hsteps : ((s.withCharge c.endWarmup).schedule.leave.steps[k.toNat]?).join = some r := by
        rw [leave_steps, writeAmendment_steps]; exact hr
      rw [setStep_accepted h ((holdsStep_iff _ _).2 hk), takeStep, leave_goTo_eq _ hsteps hsp,
        writeAmendment_steps]
      rfl
    · rw [setStep_beyond h (mt (holdsStep_iff _ _).1 hk)]
    · rw [setStep_not_held h]
  · intro s src tag args r sp n hc c steps
    rw [exec_advance hc]
    refine ⟨fun h hn hlt hr hsp => ?_, fun h hn hle => ?_, fun h => ?_⟩
    · have hnext : (s.withCharge c.endWarmup).schedule.hasNext = true := hasNext_of_lt hn hlt
      have hsteps : ((s.withCharge c.endWarmup).schedule.leave.steps[
          (s.withCharge c.endWarmup).schedule.charge.step + 1]?).join = some r := by
        rw [leave_steps, writeAmendment_steps]; exact hr
      rw [advance_accepted h, transition_of_hasNext hnext, leave_goTo_eq _ hsteps hsp,
        writeAmendment_steps]
      rfl
    · have hlast : ¬(s.withCharge c.endWarmup).schedule.hasNext = true := not_hasNext_of_le hn hle
      rw [advance_accepted h, transition_of_not_hasNext hlast, enterCooldown,
        climate_enterCooldown_eq, leave_eq, writeAmendment_steps]
      rfl
    · rw [advance_refused h]

end Sys2Proof.Machine.DryingSchedule
end
section
/-! The minute tick of the Schedule Engine: a running step that advances, is overdue or stays, and the ends of
warm-up and cooldown (R103, R104, R109 to R111, R119). -/

namespace Sys2Proof.Machine.DryingSchedule

/-! ## The minute tick (R103) -/

theorem exec_minuteTick {s : State} (h : s.resetHeld = false) :
    exec .minuteTick s = .next (minuteTick s) :=
  congrArg Host.Outcome.next (awake_of_high h minuteTick)

theorem minuteTick_schedule (s : State) : (minuteTick s).schedule = (scheduleMinute s).schedule := by
  rw [minuteTick, reversalMinute_schedule, quarantineMinute_schedule]

theorem minuteTick_events (s : State) : (minuteTick s).events = (scheduleMinute s).events := by
  rw [minuteTick, reversalMinute_events, quarantineMinute_events]

theorem reversalMinute_of_stopped {s : State} (h : s.climate.reversalTimer = none) :
    reversalMinute s = s := by
  simp only [reversalMinute, h]

theorem minuteTick_climate_of_stopped {s : State}
    (h : (scheduleMinute s).climate.reversalTimer = none) :
    (minuteTick s).climate = (scheduleMinute s).climate := by
  have hstopped : (quarantineMinute (scheduleMinute s)).climate.reversalTimer = none := h
  rw [minuteTick, reversalMinute_of_stopped hstopped, quarantineMinute_climate]

/-- The machine after the counts and ramps of a minute tick. -/
def counted (s : State) : State := { s with schedule := s.schedule.countAndRamp }

section
variable {s : State}

theorem scheduleMinute_of_running (h : s.schedule.charge.state = .running) :
    scheduleMinute s = runningTests (counted s) := by
  simp only [scheduleMinute, h]; rfl

theorem scheduleMinute_of_warmup (h : s.schedule.charge.state = .warmup) :
    scheduleMinute s = warmupTests (counted s) := by
  simp only [scheduleMinute, h]; rfl

theorem scheduleMinute_of_cooldown (h : s.schedule.charge.state = .cooldown) :
    scheduleMinute s = cooldownTest (counted s) := by
  simp only [scheduleMinute, h]; rfl

theorem countAndRamp_of_running {e : Schedule} (h : e.charge.state = .running) :
    e.countAndRamp =
      { e with
        charge :=
          { e.charge with
            minute := satSucc 16777215 e.charge.minute, dwell := satSucc 65535 e.charge.dwell,
            setpoints := e.charge.setpoints.map e.ramp } } := by
  simp only [Schedule.countAndRamp, Charge.countMinute, h, ChargeState.ramps, if_true]

theorem countAndRamp_of_warmup {e : Schedule} (h : e.charge.state = .warmup) :
    e.countAndRamp =
      { e with
        charge :=
          { e.charge with
            minute := satSucc 16777215 e.charge.minute,
            warmMinutes := satSucc 65535 e.charge.warmMinutes,
            setpoints := e.charge.setpoints.map e.ramp } } := by
  simp only [Schedule.countAndRamp, Charge.countMinute, h, ChargeState.ramps, if_true]

theorem countAndRamp_of_cooldown {e : Schedule} (h : e.charge.state = .cooldown) :
    e.countAndRamp =
      { e with
        charge :=
          { e.charge with
            minute := satSucc 16777215 e.charge.minute,
            coolMinutes := satSucc 65535 e.charge.coolMinutes } } := by
  simp only [Schedule.countAndRamp, Charge.countMinute, h, ChargeState.ramps, Bool.false_eq_true,
    if_false]

end

/-! ## Events -/

/-- An event just raised is latched, on a machine that holds the flags of the 25 events. -/
theorem latch_latched {u : EventUnit} (r : Raise) (h : u.flags.length = 25) :
    (u.latch r).latched r.1.number = true := by
  refine latch_self u r ?_
  rw [h]
  cases r.1 <;> decide

/-! ## Advance and overdue (R109, R110) -/

/-- The advance condition of the current step `r` holds (R109). -/
def StepDue (r : StepRecord) (e : Schedule) : Prop :=
  (r.criterion = .dwell ∧ r.value ≤ e.charge.dwell) ∨
    (r.criterion ≠ .dwell ∧ e.charge.confirmation = e.params.c ∧ r.minDwell ≤ e.charge.dwell)

/-- The current step `r` has served its maximum dwell, and has not been said to be overdue (R110). -/
def StepOverdue (r : StepRecord) (e : Schedule) : Prop :=
  r.maxDwell ≠ 0 ∧ r.maxDwell ≤ e.charge.dwell ∧ e.charge.stepOverdue = false

/-- STEP_OVERDUE is raised, and the step's overdue mark is set (R110). -/
def markOverdue (s : State) : State :=
  raise (.stepOverdue, some s.schedule.charge.step)
    { s with
      schedule := { s.schedule with charge := { s.schedule.charge with stepOverdue := true } } }

section
variable {e : Schedule} {r : StepRecord}

theorem advances_iff (h : e.current = some r) : e.advances = true ↔ StepDue r e := by
  cases hcr : r.criterion <;> simp [Schedule.advances, StepDue, h, hcr]

theorem overdue_iff (h : e.current = some r) : e.overdue = true ↔ StepOverdue r e := by
  simp [Schedule.overdue, StepOverdue, h, and_assoc]

theorem overdueAdvances_iff (h : e.current = some r) :
    e.overdueAdvances = true ↔ r.overdue = .advance := by
  simp [Schedule.overdueAdvances, h]

end

section
variable {s : State} {r : StepRecord}

theorem runningTests_of_due (h : s.schedule.current = some r) (hd : StepDue r s.schedule) :
    runningTests s = transition s :=
  if_pos ((advances_iff h).2 hd)

theorem runningTests_of_overdue (h : s.schedule.current = some r) (hd : ¬StepDue r s.schedule)
    (ho : StepOverdue r s.schedule) :
    runningTests s = if r.overdue = .advance then transition (markOverdue s) else markOverdue s := by
  simp only [runningTests, if_neg (mt (advances_iff h).1 hd), if_pos ((overdue_iff h).2 ho),
    overdueAdvances_iff h]
  rfl

theorem runningTests_of_stay (h : s.schedule.current = some r) (hd : ¬StepDue r s.schedule)
    (ho : ¬StepOverdue r s.schedule) : runningTests s = s := by
  simp only [runningTests, if_neg (mt (advances_iff h).1 hd), if_neg (mt (overdue_iff h).1 ho)]

end

/-! ## The two outcomes of a transition (R111) -/

section
variable {s : State} {n : Nat}

/-- The charge at the next step. -/
theorem transition_next_charge (hn : s.schedule.params.stepCount = some n)
    (hlt : s.schedule.charge.step + 1 < n) :
    (transition s).schedule.charge =
      { s.schedule.charge.leaveStep with
        amendment := none, step := s.schedule.charge.step + 1,
        setpoints :=
          s.schedule.charge.setpoints.map
            (·.target (s.schedule.leave.stepAt (s.schedule.charge.step + 1))) } := by
  rw [transition_of_hasNext (hasNext_of_lt hn hlt), raise_schedule, startPulse_schedule,
    Schedule.goTo, leave_charge]
  rfl

theorem transition_next_events (hn : s.schedule.params.stepCount = some n)
    (hlt : s.schedule.charge.step + 1 < n) :
    (transition s).events =
      EventUnit.latch { s.events with stepPulse := true }
        (.stepChanged, some (s.schedule.charge.step + 1)) := by
  rw [transition_of_hasNext (hasNext_of_lt hn hlt)]; rfl

/-- The charge in COOLDOWN after the last step. -/
theorem transition_last_charge (hn : s.schedule.params.stepCount = some n)
    (hle : n ≤ s.schedule.charge.step + 1) :
    (transition s).schedule.charge =
      Charge.enterCooldown { s.schedule.charge.leaveStep with amendment := none } .finished := by
  rw [transition_of_not_hasNext (not_hasNext_of_le hn hle), ← leave_charge]; rfl

theorem transition_last_events (hn : s.schedule.params.stepCount = some n)
    (hle : n ≤ s.schedule.charge.step + 1) :
    (transition s).events = { s.events with stepPulse := true } := by
  rw [transition_of_not_hasNext (not_hasNext_of_le hn hle)]; rfl

/-- With no amendment pending, the table is as it was when the step is left. -/
theorem leave_stepAt (h : s.schedule.charge.amendment = none) (k : Nat) :
    s.schedule.leave.stepAt k = s.schedule.stepAt k := by
  simp only [Schedule.stepAt, leave_steps, writeAmendment_steps, h]

/-- At the next step the targets are those of its record. -/
theorem transition_next_targets {sp : Setpoints} {r' : StepRecord}
    (hn : s.schedule.params.stepCount = some n) (hlt : s.schedule.charge.step + 1 < n)
    (ham : s.schedule.charge.amendment = none) (hsp : s.schedule.charge.setpoints = some sp)
    (hr' : s.schedule.stepAt (s.schedule.charge.step + 1) = some r') :
    ((transition s).schedule.charge.setpoints.map fun p => (p.targetDb, p.targetDep)) =
      some (r'.dbTarget, r'.depTarget) := by
  rw [transition_next_charge hn hlt, leave_stepAt ham, hr', hsp]
  rfl

/-- A transition keeps the events that are latched. -/
theorem transition_keeps_latched (m : Nat) (h : s.events.latched m = true) :
    (transition s).events.latched m = true := by
  by_cases hn : s.schedule.hasNext = true
  · rw [transition_of_hasNext hn]
    exact latch_keeps _ _ _ h
  · rw [transition_of_not_hasNext hn]
    exact h

end

/-- Settles O34: the dwell is counted, and the tests of R109 and R110 on the counted charge choose between a
transition, the overdue mark, both and neither. -/
theorem minuteTickAdvances : Obligations.MinuteTickAdvances := by
  intro s r sp n hreset c k hst hsp ham hr hn hdw due
  have hcount : (counted s).schedule = _ := countAndRamp_of_running hst
  have hdwell : (counted s).schedule.charge.dwell = c.dwell + 1 := by
    rw [hcount]; exact Nat.min_eq_right hdw
  have hcur : (counted s).schedule.current = some r := by rw [hcount]; exact hr
  have hcn : (counted s).schedule.params.stepCount = some n := by rw [hcount]; exact hn
  have hstep : (counted s).schedule.charge.step = k := by rw [hcount]
  have hdue : StepDue r (counted s).schedule ↔ due := by
    rw [StepDue, hdwell, hcount]
  have hover : StepOverdue r (counted s).schedule ↔
      r.maxDwell ≠ 0 ∧ r.maxDwell ≤ c.dwell + 1 ∧ c.stepOverdue = false := by
    rw [StepOverdue, hdwell, hcount]
  have hcam : (counted s).schedule.charge.amendment = none := by rw [hcount]; exact ham
  have hcsp : (counted s).schedule.charge.setpoints = some (s.schedule.ramp sp) := by
    rw [hcount]; exact congrArg (Option.map s.schedule.ramp) hsp
  have hnext {r' : StepRecord} (h : s.schedule.stepAt (k + 1) = some r') :
      (counted s).schedule.stepAt ((counted s).schedule.charge.step + 1) = some r' := by
    rw [hstep, hcount]; exact h
  refine ⟨minuteTick s, exec_minuteTick hreset, ?_⟩
  rw [minuteTick_schedule, minuteTick_events, scheduleMinute_of_running hst]
  refine ⟨fun hd hlt => ?_, fun hd hle => ?_, fun hd ho => ?_, fun hd hmax hserved hunsaid => ?_⟩
  · have htargets := fun r' hr' =>
      transition_next_targets (r' := r') hcn (hstep ▸ hlt) hcam hcsp (hnext hr')
    rw [transition_next_charge hcn (hstep ▸ hlt), hcount] at htargets
    rw [runningTests_of_due hcur (hdue.2 hd), transition_next_charge hcn (hstep ▸ hlt),
      transition_next_events hcn (hstep ▸ hlt), hcount]
    exact ⟨rfl, hst, rfl, rfl, rfl, rfl, rfl, rfl, latch_latched _, htargets⟩
  · rw [runningTests_of_due hcur (hdue.2 hd), transition_last_charge hcn (hstep ▸ hle),
      transition_last_events hcn (hstep ▸ hle), hcount]
    exact ⟨rfl, rfl, rfl, rfl, rfl, rfl, rfl, rfl⟩
  · have hno : ¬StepOverdue r (counted s).schedule := by
      rw [hover]
      rintro ⟨hmax, hserved, hunsaid⟩
      rcases ho with h | h | h
      · exact hmax h
      · exact absurd hserved (Nat.not_le.2 h)
      · exact absurd h (Bool.eq_false_iff.1 hunsaid)
    rw [runningTests_of_stay hcur (mt hdue.1 hd) hno]
    exact ⟨hstep, (congrArg (·.charge.state) hcount).trans hst, hdwell, rfl⟩
  · rw [runningTests_of_overdue hcur (mt hdue.1 hd) (hover.2 ⟨hmax, hserved, hunsaid⟩)]
    refine ⟨fun hlen => ?_, fun ha => ?_, fun ha hlt => ?_, fun ha hle => ?_⟩
    · have hmarked : (markOverdue (counted s)).events.latched 15 = true := latch_latched _ hlen
      split
      · exact transition_keeps_latched 15 hmarked
      · exact hmarked
    · have hstays : r.overdue ≠ .advance := by rw [ha]; decide
      rw [if_neg hstays, markOverdue, raise_schedule, hcount]
      exact ⟨rfl, hst, Nat.min_eq_right hdw, rfl⟩
    · have hlt' : (markOverdue (counted s)).schedule.charge.step + 1 < n := hstep ▸ hlt
      rw [if_pos ha, transition_next_charge (s := markOverdue (counted s)) hcn hlt',
        transition_next_events (s := markOverdue (counted s)) hcn hlt', markOverdue,
        raise_schedule, hcount]
      refine ⟨rfl, hst, rfl, rfl, rfl, rfl, fun hlen => latch_latched _ ?_⟩
      exact (latch_flags_length _ _).trans hlen
    · have hle' : n ≤ (markOverdue (counted s)).schedule.charge.step + 1 := hstep ▸ hle
      rw [if_pos ha, transition_last_charge (s := markOverdue (counted s)) hcn hle',
        transition_last_events (s := markOverdue (counted s)) hcn hle', markOverdue,
        raise_schedule, hcount]
      exact ⟨rfl, rfl, rfl, rfl, rfl, rfl⟩

/-! ## Warm-up (R104) -/

section
variable {e : Schedule} {sp : Setpoints} {fresh : List Int}

theorem warmupEnds_iff (h : e.charge.setpoints = some sp) :
    warmupEnds e fresh = true ↔
      sp.activeDb = sp.targetDb ∧ fresh ≠ [] ∧
        ∀ t ∈ fresh,
          (sp.targetDb : Int) - e.params.warmBand ≤ t ∧ t ≤ (sp.targetDb : Int) + e.params.warmBand := by
  simp [warmupEnds, h, withinBand, and_assoc]

theorem warmupOverdue_iff :
    warmupOverdue e = true ↔
      e.params.warmMax ≠ 0 ∧ e.params.warmMax ≤ e.charge.warmMinutes ∧
        e.charge.warmOverdue = false := by
  simp [warmupOverdue, and_assoc]

end

section
variable {s : State}

theorem warmupTests_of_ends (h : warmupEnds s.schedule s.nodes.freshZones = true) :
    warmupTests s =
      { s with
        schedule :=
          { s.schedule with charge := { s.schedule.charge with state := .running, dwell := 0 } } } :=
  if_pos h

theorem warmupTests_of_overdue (h : ¬warmupEnds s.schedule s.nodes.freshZones = true)
    (ho : warmupOverdue s.schedule = true) :
    warmupTests s =
      raise (.warmupOverdue, none)
        { s with
          schedule :=
            { s.schedule with charge := { s.schedule.charge with warmOverdue := true } } } := by
  rw [warmupTests, if_neg h, if_pos ho]

theorem warmupTests_of_stay (h : ¬warmupEnds s.schedule s.nodes.freshZones = true)
    (ho : ¬warmupOverdue s.schedule = true) : warmupTests s = s := by
  rw [warmupTests, if_neg h, if_neg ho]

/-- A warm-up that does not end at a tick stays in WARMUP, overdue or not. -/
theorem warmupTests_state_of_not_ends (h : ¬warmupEnds s.schedule s.nodes.freshZones = true) :
    (warmupTests s).schedule.charge.state = s.schedule.charge.state := by
  by_cases ho : warmupOverdue s.schedule = true
  · rw [warmupTests_of_overdue h ho]; rfl
  · rw [warmupTests_of_stay h ho]

end

/-! ## Cooldown (R119) -/

theorem cooldownEnds_iff {e : Schedule} {fresh : List Int} :
    cooldownEnds e fresh = true ↔
      (fresh ≠ [] ∧ ∀ t ∈ fresh, t ≤ (e.params.coolEnd : Int)) ∨
        e.params.coolMax ≤ e.charge.coolMinutes := by
  simp [cooldownEnds]

theorem completeCharge_charge (r : Option ChargeResult) (s : State) :
    (completeCharge r s).schedule.charge =
      { s.schedule.charge with state := .complete, result := r, noted := none, amendment := none } := by
  rw [completeCharge, raise_schedule, formAll, Schedule.complete, writeAmendment_charge]

section
variable {s : State}

theorem cooldownTest_of_ends (h : cooldownEnds s.schedule s.nodes.freshZones = true) :
    cooldownTest s = completeCharge s.schedule.charge.noted s := if_pos h

theorem cooldownTest_of_stay (h : ¬cooldownEnds s.schedule s.nodes.freshZones = true) :
    cooldownTest s = s := if_neg h

end

/-- Settles O35: the end tests are read on the counted charge, whose active DB has been ramped; a completion stops the
reversal timer, so that the rest of the tick leaves the Climate Unit in safe mode. -/
theorem warmupAndCooldownEnd : Obligations.WarmupAndCooldownEnd := by
  intro s hreset c p zones
  refine ⟨?_, ?_⟩
  · intro sp hst hsp near
    have hcount : (counted s).schedule = _ := countAndRamp_of_warmup hst
    have hcsp : (counted s).schedule.charge.setpoints = some (s.schedule.ramp sp) := by
      rw [hcount]; exact congrArg (Option.map s.schedule.ramp) hsp
    have hends : warmupEnds (counted s).schedule (counted s).nodes.freshZones = true ↔ near := by
      rw [warmupEnds_iff hcsp, hcount]; rfl
    refine ⟨minuteTick s, exec_minuteTick hreset, ?_⟩
    rw [minuteTick_schedule, minuteTick_events, scheduleMinute_of_warmup hst]
    refine ⟨fun hn => ?_, fun hn => ?_, fun hn ho => ?_, fun hn ho => ?_⟩
    · rw [warmupTests_of_ends (hends.2 hn), hcount]
      exact ⟨rfl, rfl, rfl⟩
    · rw [warmupTests_state_of_not_ends (mt hends.1 hn), hcount]
      exact hst
    · have hover : warmupOverdue (counted s).schedule = true := by
        rw [warmupOverdue_iff, hcount]; exact ho
      rw [warmupTests_of_overdue (mt hends.1 hn) hover]
      exact ⟨rfl, latch_latched _⟩
    · have hover : ¬warmupOverdue (counted s).schedule = true := by
        rw [warmupOverdue_iff, hcount]; exact ho
      rw [warmupTests_of_stay (mt hends.1 hn) hover, hcount]
      exact ⟨rfl, rfl⟩
  · intro hst cooled
    have hcount : (counted s).schedule = _ := countAndRamp_of_cooldown hst
    have hends : cooldownEnds (counted s).schedule (counted s).nodes.freshZones = true ↔ cooled := by
      rw [cooldownEnds_iff, hcount]; rfl
    refine ⟨minuteTick s, exec_minuteTick hreset, ?_⟩
    rw [minuteTick_schedule, minuteTick_events]
    refine ⟨fun hn => ?_, fun hn => ?_⟩
    · have htest : scheduleMinute s = completeCharge (counted s).schedule.charge.noted (counted s) := by
        rw [scheduleMinute_of_cooldown hst, cooldownTest_of_ends (hends.2 hn)]
      have hstopped : (scheduleMinute s).climate.reversalTimer = none := by rw [htest]; rfl
      rw [minuteTick_climate_of_stopped hstopped, htest, completeCharge_charge, hcount]
      exact ⟨rfl, rfl, rfl, rfl, rfl, latch_latched _⟩
    · rw [scheduleMinute_of_cooldown hst, cooldownTest_of_stay (mt hends.1 hn), hcount]
      exact ⟨hst, rfl⟩

end Sys2Proof.Machine.DryingSchedule
end
section
/-! An evaluation applied to the charge (R105 to R107, R113), and a pending amendment with it (R117). -/

namespace Sys2Proof.Machine.DryingSchedule

/-! ## The parts of an evaluation -/

/-- The schedule with no amendment pending. -/
def withoutAmendment (e : Schedule) : Schedule :=
  { e with charge := { e.charge with amendment := none } }

section
variable {e : Schedule} {ev : EvalRecord}

/-- An evaluation judges a charge only in a state in which it applies an amendment. -/
theorem ramps_of_judged {c : Charge} (h : c.judged = true) : c.state.ramps = true := by
  rcases (judged_iff c).1 h with hst | ⟨hst, _⟩ <;> rw [hst] <;> rfl

theorem judgedBy_of_not_judged (h : ¬e.charge.judged = true) : judgedBy ev e = e := if_neg h

theorem evaluationRaises_of_not_judged (h : ¬e.charge.judged = true) : evaluationRaises ev e = [] :=
  if_neg h

theorem judgedBy_of_sighted (h : e.charge.judged = true) (hb : ev.blind = false) :
    judgedBy ev e = e.sighted ev := by
  simp [judgedBy, h, hb]

theorem evaluationRaises_of_sighted (h : e.charge.judged = true) (hb : ev.blind = false) :
    evaluationRaises ev e = rateRaise e ev := by
  simp [evaluationRaises, h, hb]

theorem judgedBy_of_blind (h : e.charge.judged = true) (hb : ev.blind = true) :
    judgedBy ev e = e.blinded := by
  simp [judgedBy, h, hb]

theorem evaluationRaises_of_blind (h : e.charge.judged = true) (hb : ev.blind = true) :
    evaluationRaises ev e = blindRaise e := by
  simp [evaluationRaises, h, hb]

theorem judgedBy_amendment (ev : EvalRecord) (e : Schedule) :
    (judgedBy ev e).charge.amendment = e.charge.amendment := by
  rw [judgedBy_frame]

theorem judgedBy_steps (ev : EvalRecord) (e : Schedule) : (judgedBy ev e).steps = e.steps := by
  rw [judgedBy_frame]

theorem judgedBy_setpoints (ev : EvalRecord) (e : Schedule) :
    (judgedBy ev e).charge.setpoints = e.charge.setpoints := by
  rw [judgedBy_frame]

theorem applyAmendment_of_none (h : e.charge.amendment = none) : e.applyAmendment = e := by
  simp only [Schedule.applyAmendment, h]

end

/-- With no amendment pending an evaluation is its judgment and its events. -/
theorem applyEvaluation_of_no_amendment (ev : EvalRecord) {s : State}
    (h : s.schedule.charge.amendment = none) :
    applyEvaluation ev s =
      raiseAll (evaluationRaises ev s.schedule) { s with schedule := judgedBy ev s.schedule } := by
  rw [applyEvaluation_eq, applyAmendment_of_none ((judgedBy_amendment ev _).trans h), ite_self]

/-! ## A sighted evaluation (R105, R106) -/

section
variable {e : Schedule} {ev : EvalRecord} {r : StepRecord}

theorem sighted_of_not_hold (h : e.charge.state ≠ .hold) :
    e.sighted ev =
      { e with
        charge :=
          { e.charge with
            confirmation := confirmationAfter e ev, blinds := 0, trim := trimAfter e ev } } := by
  simp only [Schedule.sighted, if_neg h]

theorem sighted_of_hold (h : e.charge.state = .hold) :
    e.sighted ev =
      { e with
        charge :=
          Charge.returnIfFree
            { e.charge with
              confirmation := confirmationAfter e ev, blinds := 0, trim := trimAfter e ev,
              causes := { operator := e.charge.causes.operator, blind := false } } } := by
  simp only [Schedule.sighted, if_pos h]

/-- The counter after a criterion that compares the moisture content `mc` (R98, R105). -/
theorem confirmationAfter_of_satisfied {mc : Nat} (h : e.current = some r)
    (hs : r.satisfied ev = some (decide (mc ≤ r.value))) :
    confirmationAfter e ev =
      if mc ≤ r.value then min e.params.c (e.charge.confirmation + 1) else 0 := by
  have hbind : e.current.bind (·.satisfied ev) = some (decide (mc ≤ r.value)) := by rw [h]; exact hs
  unfold confirmationAfter
  rw [hbind]
  by_cases hle : mc ≤ r.value
  · simp [hle, satSucc]
  · simp [hle]

theorem confirmationAfter_of_dwell (h : e.current = some r) (hc : r.criterion = .dwell) :
    confirmationAfter e ev = e.charge.confirmation := by
  simp [confirmationAfter, h, StepRecord.satisfied, hc]

theorem guarded_iff : r.guarded = true ↔ r.phase = .dry ∧ r.rateLimit ≠ 0 := by
  simp [StepRecord.guarded]

theorem trimAfter_of_rate (h : e.current = some r) (hg : r.guarded = true) {rate : Int}
    (hr : ev.rate = some rate) : trimAfter e ev = decide ((r.rateLimit : Int) < rate) := by
  simp only [trimAfter, h, hg, hr, if_true]

theorem trimAfter_of_no_rate (h : e.current = some r) (hg : r.guarded = true)
    (hr : ev.rate = none) : trimAfter e ev = e.charge.trim := by
  simp only [trimAfter, h, hg, hr, if_true]

theorem trimAfter_of_not_guarded (h : e.current = some r) (hg : ¬r.guarded = true) :
    trimAfter e ev = false := by
  simp only [trimAfter, h, if_neg hg]

theorem rateRaise_of_rate (h : e.current = some r) (hg : r.guarded = true) {rate : Int}
    (hr : ev.rate = some rate) :
    rateRaise e ev =
      if (r.rateLimit : Int) < rate then [(.rateExceeded, some e.charge.step)] else [] := by
  simp only [rateRaise, h, hr, hg, Bool.true_and, decide_eq_true_eq]

end

/-! ## A blind evaluation (R107) -/

section
variable {e : Schedule}

/-- Below the limit B only the counter changes. -/
theorem blinded_of_below (h : blindsAfter e ≠ e.params.b) :
    e.blinded = { e with charge := { e.charge with blinds := blindsAfter e } } := by
  simp only [Schedule.blinded, if_neg h]

/-- At the limit B a running charge is held. -/
theorem blinded_of_running (h : blindsAfter e = e.params.b) (hst : e.charge.state = .running) :
    e.blinded =
      { e with
        charge :=
          { e.charge with
            blinds := blindsAfter e, state := .hold, returnState := some .running,
            causes := { operator := false, blind := true } } } := by
  simp only [Schedule.blinded, if_pos h, hst]

/-- At the limit B a charge that is held already has one more cause. -/
theorem blinded_of_not_running (h : blindsAfter e = e.params.b) (hst : e.charge.state ≠ .running) :
    e.blinded =
      { e with
        charge :=
          { e.charge with
            blinds := blindsAfter e,
            causes := { operator := e.charge.causes.operator, blind := true } } } := by
  simp only [Schedule.blinded, if_pos h]

theorem blindRaise_of_running (h : blindsAfter e = e.params.b) (hst : e.charge.state = .running) :
    blindRaise e = [(.holdEntered, some e.charge.step)] := if_pos ⟨hst, h⟩

theorem blindRaise_of_below (h : blindsAfter e ≠ e.params.b) : blindRaise e = [] :=
  if_neg fun hr => h hr.2

theorem blindRaise_of_not_running (hst : e.charge.state ≠ .running) : blindRaise e = [] :=
  if_neg fun hr => hst hr.1

theorem blindsAfter_of_lt (h : e.charge.blinds + 1 < e.params.b) :
    blindsAfter e = e.charge.blinds + 1 := Nat.min_eq_right (Nat.le_of_lt h)

theorem blindsAfter_of_le (h : e.params.b ≤ e.charge.blinds + 1) : blindsAfter e = e.params.b :=
  Nat.min_eq_left h

end

/-! ## RUNNING and HOLD, with no amendment pending -/

section
variable {s : State} {ev : EvalRecord} {r : StepRecord}

theorem applyEvaluation_blind_below (hj : s.schedule.charge.judged = true)
    (ha : s.schedule.charge.amendment = none) (hb : ev.blind = true)
    (h : s.schedule.charge.blinds + 1 < s.schedule.params.b) :
    applyEvaluation ev s =
      { s with
        schedule :=
          { s.schedule with
            charge := { s.schedule.charge with blinds := s.schedule.charge.blinds + 1 } } } := by
  have hcount := blindsAfter_of_lt h
  have hbelow : blindsAfter s.schedule ≠ s.schedule.params.b := by rw [hcount]; exact Nat.ne_of_lt h
  rw [applyEvaluation_of_no_amendment ev ha, judgedBy_of_blind hj hb, evaluationRaises_of_blind hj hb,
    blinded_of_below hbelow, blindRaise_of_below hbelow, hcount]
  rfl

theorem applyEvaluation_sighted_charge (hj : s.schedule.charge.judged = true)
    (ha : s.schedule.charge.amendment = none) (hb : ev.blind = false) :
    (applyEvaluation ev s).schedule.charge = (s.schedule.sighted ev).charge := by
  rw [applyEvaluation_of_no_amendment ev ha, judgedBy_of_sighted hj hb, raiseAll_schedule]

theorem applyEvaluation_sighted_events (hj : s.schedule.charge.judged = true)
    (ha : s.schedule.charge.amendment = none) (hb : ev.blind = false) :
    (applyEvaluation ev s).events = (rateRaise s.schedule ev).foldl EventUnit.latch s.events := by
  rw [applyEvaluation_of_no_amendment ev ha, evaluationRaises_of_sighted hj hb, raiseAll_events]

end

/-! ## A pending amendment (R117) -/

section
variable (ev : EvalRecord) (e : Schedule)

theorem withoutAmendment_returnIfFree (c : Charge) :
    Charge.returnIfFree { c with amendment := none } = { c.returnIfFree with amendment := none } := by
  unfold Charge.returnIfFree; split <;> rfl

theorem sighted_withoutAmendment :
    (withoutAmendment e).sighted ev = withoutAmendment (e.sighted ev) := by
  by_cases h : e.charge.state = .hold
  · rw [sighted_of_hold h, sighted_of_hold (e := withoutAmendment e) h]
    exact congrArg (fun c => ({ e with charge := c } : Schedule))
      (withoutAmendment_returnIfFree
        { e.charge with
          confirmation := confirmationAfter e ev, blinds := 0, trim := trimAfter e ev,
          causes := { operator := e.charge.causes.operator, blind := false } })
  · rw [sighted_of_not_hold h, sighted_of_not_hold (e := withoutAmendment e) h]
    rfl

theorem blinded_withoutAmendment : (withoutAmendment e).blinded = withoutAmendment e.blinded := by
  by_cases h : blindsAfter e = e.params.b
  · by_cases hst : e.charge.state = .running
    · rw [blinded_of_running h hst, blinded_of_running (e := withoutAmendment e) h hst]; rfl
    · rw [blinded_of_not_running h hst, blinded_of_not_running (e := withoutAmendment e) h hst]; rfl
  · rw [blinded_of_below h, blinded_of_below (e := withoutAmendment e) h]; rfl

/-- The judgment does not look at a pending amendment. -/
theorem judgedBy_withoutAmendment :
    judgedBy ev (withoutAmendment e) = withoutAmendment (judgedBy ev e) := by
  by_cases hj : e.charge.judged = true
  · cases hb : ev.blind with
    | false =>
      rw [judgedBy_of_sighted hj hb, judgedBy_of_sighted (e := withoutAmendment e) hj hb,
        sighted_withoutAmendment]
    | true =>
      rw [judgedBy_of_blind hj hb, judgedBy_of_blind (e := withoutAmendment e) hj hb,
        blinded_withoutAmendment]
  · rw [judgedBy_of_not_judged hj, judgedBy_of_not_judged (e := withoutAmendment e) hj]

theorem evaluationRaises_withoutAmendment :
    evaluationRaises ev (withoutAmendment e) = evaluationRaises ev e := rfl

end

theorem raiseAll_withSchedule (rs : List Raise) (s : State) (x : Schedule) :
    raiseAll rs { s with schedule := x } = { raiseAll rs s with schedule := x } := by
  induction rs generalizing s with
  | nil => rfl
  | cons r rest ih => exact ih (raise r s)

/-- With an amendment pending, the charge is judged as without one, and the amendment is then applied. -/
theorem applyEvaluation_of_amendment (ev : EvalRecord) {s : State} {k : Nat} {r : StepRecord}
    (hramps : s.schedule.charge.state.ramps = true)
    (ha : s.schedule.charge.amendment = some (k, r)) :
    let plain := applyEvaluation ev { s with schedule := withoutAmendment s.schedule }
    applyEvaluation ev s =
      { plain with
        schedule :=
          { plain.schedule with
            steps := s.schedule.steps.set k (some r),
            charge :=
              { plain.schedule.charge with
                confirmation := 0, stepOverdue := false,
                setpoints := s.schedule.charge.setpoints.map (·.target (some r)) } } } := by
  intro plain
  have hplain : plain =
      raiseAll (evaluationRaises ev s.schedule)
        { s with schedule := withoutAmendment (judgedBy ev s.schedule) } := by
    have h := applyEvaluation_of_no_amendment ev
      (s := { s with schedule := withoutAmendment s.schedule }) rfl
    rw [judgedBy_withoutAmendment, evaluationRaises_withoutAmendment] at h
    exact h
  have hamended : (judgedBy ev s.schedule).applyAmendment =
      { withoutAmendment (judgedBy ev s.schedule) with
        steps := s.schedule.steps.set k (some r),
        charge :=
          { (withoutAmendment (judgedBy ev s.schedule)).charge with
            confirmation := 0, stepOverdue := false,
            setpoints := s.schedule.charge.setpoints.map (·.target (some r)) } } := by
    simp only [Schedule.applyAmendment, (judgedBy_amendment ev _).trans ha, judgedBy_steps,
      judgedBy_setpoints]
    rfl
  rw [applyEvaluation_eq, if_pos hramps, hamended, hplain, raiseAll_schedule,
    raiseAll_withSchedule _ { s with schedule := withoutAmendment (judgedBy ev s.schedule) }]

/-! ## The obligation -/

/-- Settles O26: each case is a branch of the judgment, and a pending amendment is applied to what it leaves. -/
theorem evaluationApplied : Obligations.EvaluationApplied := by
  refine ⟨?_, ?_⟩
  · intro s e r c p t hst ha hcur
    have hj : s.schedule.charge.judged = true := (judged_iff _).2 (.inl hst)
    have hnot : s.schedule.charge.state ≠ .hold := by rw [hst]; decide
    refine ⟨fun hb => ?_, applyEvaluation_blind_below hj ha, fun hb hlim => ?_⟩
    · have hcharge := (applyEvaluation_sighted_charge hj ha hb).trans
        (congrArg Schedule.charge (sighted_of_not_hold hnot))
      have hevents := applyEvaluation_sighted_events hj ha hb
      simp only [t, hcharge, hevents]
      refine ⟨trivial, hst, fun mc hcr hmc => ?_, fun slot mc hcr hmc => ?_, fun slot mc hcr hmc => ?_,
        fun hcr => ?_, fun rate hph hlim hrate => ?_, fun hph hlim hrate => ?_, fun hg => ?_⟩
      · exact confirmationAfter_of_satisfied hcur (by simp [StepRecord.satisfied, hcr, hmc])
      · exact confirmationAfter_of_satisfied hcur (by simp [StepRecord.satisfied, hcr, hmc])
      · exact confirmationAfter_of_satisfied hcur (by simp [StepRecord.satisfied, hcr, hmc])
      · exact confirmationAfter_of_dwell hcur hcr
      · have hg := guarded_iff.2 ⟨hph, hlim⟩
        refine ⟨trimAfter_of_rate hcur hg hrate, ?_⟩
        rw [rateRaise_of_rate hcur hg hrate]
        split <;> rfl
      · exact trimAfter_of_no_rate hcur (guarded_iff.2 ⟨hph, hlim⟩) hrate
      · refine trimAfter_of_not_guarded hcur fun h => ?_
        obtain ⟨hph, hlim⟩ := guarded_iff.1 h
        exact hg.elim (· hph) hlim
    · have hlimit := blindsAfter_of_le hlim
      simp only [t]
      rw [applyEvaluation_of_no_amendment e ha, judgedBy_of_blind hj hb,
        evaluationRaises_of_blind hj hb, blinded_of_running hlimit hst,
        blindRaise_of_running hlimit hst, hlimit]
      rfl
  · intro s e c p t
    refine ⟨fun hst => ?_, fun hst ha => ?_, fun hst hret ha => ?_, fun k r hst ha => ?_⟩
    · have hramps : ¬s.schedule.charge.state.ramps = true := by
        rcases hst with h | h | h <;> exact Bool.eq_false_iff.1 (congrArg ChargeState.ramps h)
      have hj := mt ramps_of_judged hramps
      simp only [t]
      rw [applyEvaluation_eq, evaluationRaises_of_not_judged hj, judgedBy_of_not_judged hj,
        if_neg hramps]
      rfl
    · have hj : ¬s.schedule.charge.judged = true := by
        rw [judged_iff]
        rintro (hrun | ⟨hhold, hret⟩)
        · simp [c, hrun] at hst
        · simp [c, hhold, hret] at hst
      simp only [t]
      rw [applyEvaluation_of_no_amendment e ha, evaluationRaises_of_not_judged hj,
        judgedBy_of_not_judged hj]
      rfl
    · have hj : s.schedule.charge.judged = true := (judged_iff _).2 (.inr ⟨hst, hret⟩)
      refine ⟨fun hb => ?_, applyEvaluation_blind_below hj ha, fun hb hlim => ?_⟩
      · have hcharge := (applyEvaluation_sighted_charge hj ha hb).trans
          (congrArg Schedule.charge (sighted_of_hold hst))
        simp only [t, hcharge]
        refine ⟨by rw [returnIfFree_frame], by rw [returnIfFree_frame], by rw [returnIfFree_frame],
          fun hop => ?_, fun hop => ?_⟩
        · rw [returnIfFree_of_cause (by exact .inl hop)]
          exact ⟨hst, hret⟩
        · have hne : s.schedule.charge.returnState ≠ some .warmup := by rw [hret]; decide
          rw [returnIfFree_of_free (by exact hst) (by exact hop) rfl]
          exact ⟨if_neg hne, rfl⟩
      · have hlimit := blindsAfter_of_le hlim
        have hnot : s.schedule.charge.state ≠ .running := by rw [hst]; decide
        simp only [t]
        rw [applyEvaluation_of_no_amendment e ha, judgedBy_of_blind hj hb,
          evaluationRaises_of_blind hj hb, blinded_of_not_running hlimit hnot,
          blindRaise_of_not_running hnot, hlimit]
        rfl
    · refine applyEvaluation_of_amendment e ?_ ha
      rcases hst with h | h | h <;> exact congrArg ChargeState.ramps h

end Sys2Proof.Machine.DryingSchedule
end

section
/-! The Climate Unit (chapter 8): everything that any step can do to it, said once, and from that the law that a vent
demand and a spray demand are never both above zero (R134, R138). -/

namespace Sys2Proof.Machine.ClimateControl

/-! ## What can happen to the Climate Unit -/

/-- One act on the Climate Unit: a charge's start, its cooldown and its end, a climate cycle, the fan timers, and a
write of its parameters. -/
inductive ClimateAct : Climate → Climate → Prop where
  | powerOn (c : Climate) : ClimateAct c .powerOn
  | safeMode (c : Climate) : ClimateAct c c.safeMode
  | startCharge (c : Climate) (nodes : NodeTables) : ClimateAct c (c.startCharge nodes)
  | enterCooldown (c : Climate) (vent : Nat) : ClimateAct c (c.enterCooldown vent)
  | cooldownCycle (c : Climate) (nodes : NodeTables) (vent : Nat) :
      ClimateAct c (c.cooldownCycle nodes vent)
  | runLoops (c : Climate) (nodes : NodeTables) (sp : Setpoints) : ClimateAct c (c.runLoops nodes sp)
  | startCoast (c : Climate) (next : FanState) : ClimateAct c (c.startCoast next)
  | endCoast (c : Climate) (next : FanState) : ClimateAct c (c.endCoast next)
  | reversalCount (c : Climate) (left : Nat) : ClimateAct c { c with reversalTimer := some left }
  | coastCount (c : Climate) (left : Nat) : ClimateAct c { c with coastTimer := some left }
  | written (c : Climate) (values : List (Nat × Nat)) : ClimateAct c (c.written values)

/-- The second Climate Unit comes from the first by a row of acts, or is the same. -/
inductive ClimateReach (c : Climate) : Climate → Prop where
  | refl : ClimateReach c c
  | tail {d e : Climate} : ClimateReach c d → ClimateAct d e → ClimateReach c e

theorem ClimateReach.single {c d : Climate} (h : ClimateAct c d) : ClimateReach c d := .tail .refl h

theorem ClimateReach.trans {c d e : Climate} (hcd : ClimateReach c d) (hde : ClimateReach d e) :
    ClimateReach c e := by
  induction hde with
  | refl => exact hcd
  | tail _ hact ih => exact .tail ih hact

/-- The operation changes the Climate Unit by acts only. -/
def ClimateActs (f : State → State) : Prop := ∀ s, ClimateReach s.climate (f s).climate

/-- The command's answer changes the Climate Unit by acts only. -/
def AnswerActs (answer : State → Answer) : Prop := ClimateActs fun s => (answer s).state

theorem climateActs_of_climate {f : State → State} (h : ∀ s, (f s).climate = s.climate) :
    ClimateActs f := fun s => (h s).symm ▸ .refl

/-- The acts of an operation, seen from a state that has the same Climate Unit. -/
theorem ClimateActs.reach {f : State → State} (h : ClimateActs f) {c : Climate} {s : State}
    (hs : s.climate = c) : ClimateReach c (f s).climate := hs ▸ h s

theorem ClimateActs.comp {f g : State → State} (hg : ClimateActs g) (hf : ClimateActs f) :
    ClimateActs fun s => g (f s) := fun s => (hf s).trans (hg (f s))

theorem ClimateActs.awake {f : State → State} (h : ClimateActs f) : ClimateActs (awake f) := by
  intro s
  cases hr : s.resetHeld with
  | true => rw [awake_of_low hr]; exact .refl
  | false => rw [awake_of_high hr]; exact h s

/-! ## The minute tick (R103, R119, R135) -/

/-- A transition enters COOLDOWN, or leaves the Climate Unit (R111). -/
theorem transition_climateActs : ClimateActs transition := by
  intro s
  by_cases hn : s.schedule.hasNext = true
  · rw [DryingSchedule.transition_of_hasNext hn]
    exact .refl
  · rw [DryingSchedule.transition_of_not_hasNext hn]
    exact .single (.enterCooldown _ _)

theorem runningTests_climateActs : ClimateActs runningTests := by
  intro s
  unfold runningTests
  split
  · exact transition_climateActs s
  · split
    · dsimp only
      split
      · exact transition_climateActs.reach rfl
      · exact .refl
    · exact .refl

theorem completeCharge_climateActs (r : Option ChargeResult) : ClimateActs (completeCharge r) :=
  fun _ => .single (.safeMode _)

theorem cooldownTest_climateActs : ClimateActs cooldownTest := by
  intro s
  unfold cooldownTest
  split
  · exact completeCharge_climateActs _ s
  · exact .refl

theorem scheduleMinute_climateActs : ClimateActs scheduleMinute := by
  intro s
  unfold scheduleMinute
  dsimp only
  split
  · rw [warmupTests_climate]; exact .refl
  · exact runningTests_climateActs.reach rfl
  · exact cooldownTest_climateActs.reach rfl
  all_goals exact .refl

theorem reversalExpiry_climateActs : ClimateActs reversalExpiry := by
  intro s
  unfold reversalExpiry
  split
  · exact .single (.startCoast _ _)
  · exact .refl

theorem reversalMinute_climateActs : ClimateActs reversalMinute := by
  intro s
  unfold reversalMinute
  split
  · split
    · exact reversalExpiry_climateActs s
    · exact .single (.reversalCount _ _)
  · exact .refl

theorem minuteTick_climateActs : ClimateActs minuteTick :=
  reversalMinute_climateActs.comp
    ((climateActs_of_climate quarantineMinute_climate).comp scheduleMinute_climateActs)

/-! ## The climate cycle and the second tick (R24, R127, R136) -/

theorem climateCycle_climateActs : ClimateActs climateCycle := by
  intro s
  unfold climateCycle
  split
  · split
    · exact .single (.cooldownCycle _ _ _)
    iterate 3 rw [raiseAll_climate]; exact .single (.runLoops _ _ _)
    exact .refl
  · exact .refl

/-- The machine at a climate cycle expiry when the Climate Unit acts: the timer restarted, the poll-due marks set and
the air points aged. -/
def cycleMarked (s : State) : State :=
  { s with
    line := { s.line.markDue s.nodes.airs with climateTimer := s.lineParams.climateCycle },
    nodes := s.nodes.ageAirs }

theorem climateExpiry_eq (s : State) :
    climateExpiry s = countStateReport (climateCycle (cycleMarked s)) := rfl

theorem climateExpiry_climateActs : ClimateActs climateExpiry := by
  intro s
  rw [climateExpiry_eq, countStateReport_climate]
  exact climateCycle_climateActs.reach rfl

theorem coastExpiry_climateActs : ClimateActs coastExpiry := by
  intro s
  unfold coastExpiry
  split
  · exact .single (.endCoast _ _)
  · exact .refl

theorem coastSecond_climateActs : ClimateActs coastSecond := by
  intro s
  unfold coastSecond
  split
  · split
    · exact coastExpiry_climateActs s
    · exact .single (.coastCount _ _)
  · exact .refl

theorem climateSecond_climateActs : ClimateActs climateSecond := by
  intro s
  unfold climateSecond
  split
  · exact climateExpiry_climateActs s
  · exact .refl

theorem refreshSeconds_climateActs (l : List Nat) :
    ClimateActs (l.foldl fun s i => refreshSecond i s) := by
  induction l with
  | nil => exact fun _ => .refl
  | cons i rest ih => exact ih.comp (climateActs_of_climate (refreshSecond_climate i))

theorem secondTick_climateActs : ClimateActs secondTick :=
  climateSecond_climateActs.comp (coastSecond_climateActs.comp
    ((climateActs_of_climate sweepSecond_climate).comp (refreshSeconds_climateActs _)))

/-! ## RESTART and reset (R128, R172, R174) -/

theorem restartEffect_climate (s : State) : (restartEffect s).climate = s.climate.safeMode := by
  unfold restartEffect; rw [raiseAll_climate]; rfl

theorem restartEffect_climateActs : ClimateActs restartEffect := fun s =>
  (restartEffect_climate s).symm ▸ .single (.safeMode s.climate)

theorem restartNow_climateActs : ClimateActs restartNow := by
  intro s
  unfold restartNow
  split
  · dsimp only
    rw [restartEffect_climate]
    (repeat' split) <;> exact .single (.safeMode _)
  · exact .refl

theorem frameSent_climateActs : ClimateActs frameSent := by
  intro s
  unfold frameSent
  split
  case h_2 =>
    dsimp only
    split
    · exact restartEffect_climateActs.reach rfl
    · exact .refl
  all_goals exact .refl

theorem resetHigh_climateActs (stn : BitVec 5) (prate lrate : Bool) :
    ClimateActs (resetHigh stn prate lrate) := by
  intro s
  unfold resetHigh
  rw [raiseAll_climate]
  exact .single (.powerOn _)

/-! ## COMMANDs (R102, R111, R120, R126) -/

theorem startCharge_answerActs : AnswerActs startCharge := by
  intro s
  dsimp only
  unfold startCharge
  split
  · exact .single (.startCharge _ _)
  · exact .refl

theorem advance_answerActs : AnswerActs advance := by
  intro s
  dsimp only
  unfold advance
  split
  case h_1 | h_2 => exact transition_climateActs.reach (withCharge_climate _ _)
  all_goals exact .refl

theorem abortCharge_answerActs : AnswerActs abortCharge := by
  intro s
  dsimp only
  unfold abortCharge
  split
  case h_1 | h_2 | h_3 => exact .single (.enterCooldown _ _)
  case h_4 => exact completeCharge_climateActs _ s
  all_goals exact .refl

theorem climateParamsWrite_answerActs (args : List Byte) : AnswerActs (climateParamsWrite args) := by
  intro s
  dsimp only
  unfold climateParamsWrite
  split
  · exact .refl
  · exact .single (.written _ _)

theorem tableWriteOf_answerActs {table : Nat} {write : List Byte → State → Answer}
    (h : tableWriteOf table = some write) (args : List Byte) : AnswerActs (write args) := by
  unfold tableWriteOf at h
  split at h <;> cases h
  · exact climateActs_of_climate (probeWrite_climate args)
  · exact climateActs_of_climate (airWrite_climate args)
  · exact climateActs_of_climate (actuatorWrite_climate args)
  · exact climateActs_of_climate (calibrationWrite_climate args)
  · exact climateActs_of_climate (scheduleWrite_climate args)
  · exact climateActs_of_climate (chargeParamsWrite_climate args)
  · exact climateParamsWrite_answerActs args
  · exact climateActs_of_climate (lineParamsWrite_climate args)
  · exact climateActs_of_climate (passListWrite_climate args)

theorem tableWrite_answerActs (args : List Byte) : AnswerActs (tableWrite args) := by
  intro s
  dsimp only
  unfold tableWrite
  split
  · exact .refl
  · split
    · next h => exact tableWriteOf_answerActs h _ s
    · exact .refl

theorem answerOf_answerActs {kind : Nat} {answer : List Byte → State → Answer}
    (h : answerOf kind = some answer) (args : List Byte) : AnswerActs (answer args) := by
  unfold answerOf at h
  split at h <;> cases h
  · exact climateActs_of_climate fun _ => rfl
  · exact tableWrite_answerActs args
  · exact climateActs_of_climate fun s => congrArg State.climate (tableRead_state args s)
  · exact startCharge_answerActs
  · exact climateActs_of_climate hold_climate
  · exact climateActs_of_climate resume_climate
  · exact advance_answerActs
  · exact climateActs_of_climate (setStep_climate args)
  · exact abortCharge_answerActs
  · exact climateActs_of_climate (stepAmend_climate args)
  · exact climateActs_of_climate (overrideCommand_climate args)
  · exact climateActs_of_climate (wbSelect_climate args)
  · exact climateActs_of_climate surveyStart_climate
  · exact climateActs_of_climate surveyAbort_climate
  · exact climateActs_of_climate lineReset_climate
  · exact climateActs_of_climate (clearEvents_climate args)
  · exact climateActs_of_climate (setEventMask_climate args)
  · exact climateActs_of_climate (setReportMode_climate args)
  · exact climateActs_of_climate (setStatusLines_climate args)

theorem takeRestart_climateActs (c : LoopCommand) (source kind tag : Byte) :
    ClimateActs (takeRestart c source kind tag) := by
  intro s
  unfold takeRestart
  split
  · exact .refl
  · exact restartEffect_climateActs s

theorem carryOut_climateActs (c : LoopCommand) : ClimateActs (carryOut c) := by
  intro s
  unfold carryOut
  split
  · exact .refl
  · exact .refl
  · split
    · exact takeRestart_climateActs _ _ _ _ s
    · split
      · next h => exact answerOf_answerActs h _ s
      · exact .refl

theorem carryCurrent_climateActs : ClimateActs carryCurrent := by
  intro s
  unfold carryCurrent
  split
  · split
    · exact .refl
    · exact carryOut_climateActs _ s
  · exact .refl

theorem commandRow_climateActs (c : LoopCommand) {carry : State → State} (h : ClimateActs carry) :
    ClimateActs (commandRow c carry) := by
  intro s
  rcases commandRow_cases c carry s with heq | heq | heq <;> rw [heq]
  · exact .refl
  · exact h s
  · rw [arrive_climate]; exact .refl

/-- A row of a command whose answer is that of a command kind. -/
theorem kindRow_climateActs {kind : Nat} {answer : List Byte → State → Answer}
    (h : answerOf kind = some answer) (src k tag : Byte) (args more : List Byte) :
    ClimateActs (namedRow src k tag args (answer more)) :=
  commandRow_climateActs _ fun s => answerOf_answerActs h more s

/-- A row of TABLE WRITE for one table. -/
theorem tableRow_climateActs {table : Nat} {write : List Byte → State → Answer}
    (h : tableWriteOf table = some write) (src k tag : Byte) (args more : List Byte) :
    ClimateActs (namedRow src k tag args (write more)) :=
  commandRow_climateActs _ fun s => tableWriteOf_answerActs h more s

/-! ## Every row, and every step -/

theorem exec_climateReach (i : Instr) (s : State) :
    ∃ t, exec i s = .next t ∧ ClimateReach s.climate t.climate := by
  cases i with
  | readStatus => exact ⟨_, rfl, kindRow_climateActs (kind := 0) rfl _ _ _ _ [] s⟩
  | tableWrite => exact ⟨_, rfl, kindRow_climateActs (kind := 1) rfl _ _ _ _ _ s⟩
  | tableWriteProbe => exact ⟨_, rfl, tableRow_climateActs (table := 0) rfl _ _ _ _ _ s⟩
  | tableWriteAirpoint => exact ⟨_, rfl, tableRow_climateActs (table := 1) rfl _ _ _ _ _ s⟩
  | tableWriteActuator => exact ⟨_, rfl, tableRow_climateActs (table := 2) rfl _ _ _ _ _ s⟩
  | tableWriteCalibration => exact ⟨_, rfl, tableRow_climateActs (table := 3) rfl _ _ _ _ _ s⟩
  | tableWriteSchedule => exact ⟨_, rfl, tableRow_climateActs (table := 4) rfl _ _ _ _ _ s⟩
  | tableWriteChargeParams => exact ⟨_, rfl, tableRow_climateActs (table := 5) rfl _ _ _ _ _ s⟩
  | tableWriteClimateParams => exact ⟨_, rfl, tableRow_climateActs (table := 6) rfl _ _ _ _ _ s⟩
  | tableWriteLineParams => exact ⟨_, rfl, tableRow_climateActs (table := 7) rfl _ _ _ _ _ s⟩
  | tableWritePassList => exact ⟨_, rfl, tableRow_climateActs (table := 8) rfl _ _ _ _ _ s⟩
  | tableRead => exact ⟨_, rfl, kindRow_climateActs (kind := 2) rfl _ _ _ _ _ s⟩
  | startCharge => exact ⟨_, rfl, kindRow_climateActs (kind := 3) rfl _ _ _ _ [] s⟩
  | hold => exact ⟨_, rfl, kindRow_climateActs (kind := 4) rfl _ _ _ _ [] s⟩
  | resume => exact ⟨_, rfl, kindRow_climateActs (kind := 5) rfl _ _ _ _ [] s⟩
  | advance => exact ⟨_, rfl, kindRow_climateActs (kind := 6) rfl _ _ _ _ [] s⟩
  | setStep => exact ⟨_, rfl, kindRow_climateActs (kind := 7) rfl _ _ _ _ _ s⟩
  | abortCharge => exact ⟨_, rfl, kindRow_climateActs (kind := 8) rfl _ _ _ _ [] s⟩
  | stepAmend => exact ⟨_, rfl, kindRow_climateActs (kind := 9) rfl _ _ _ _ _ s⟩
  | override => exact ⟨_, rfl, kindRow_climateActs (kind := 10) rfl _ _ _ _ _ s⟩
  | wbSelect => exact ⟨_, rfl, kindRow_climateActs (kind := 11) rfl _ _ _ _ _ s⟩
  | surveyStart => exact ⟨_, rfl, kindRow_climateActs (kind := 12) rfl _ _ _ _ [] s⟩
  | surveyAbort => exact ⟨_, rfl, kindRow_climateActs (kind := 13) rfl _ _ _ _ [] s⟩
  | lineReset => exact ⟨_, rfl, kindRow_climateActs (kind := 14) rfl _ _ _ _ [] s⟩
  | restart => exact ⟨_, rfl, commandRow_climateActs _ (takeRestart_climateActs _ _ _ _) s⟩
  | clearEvents => exact ⟨_, rfl, kindRow_climateActs (kind := 16) rfl _ _ _ _ _ s⟩
  | setEventMask => exact ⟨_, rfl, kindRow_climateActs (kind := 17) rfl _ _ _ _ _ s⟩
  | setReportMode => exact ⟨_, rfl, kindRow_climateActs (kind := 18) rfl _ _ _ _ _ s⟩
  | setStatusLines => exact ⟨_, rfl, kindRow_climateActs (kind := 19) rfl _ _ _ _ _ s⟩
  | unknownCommand => exact ⟨_, rfl, commandRow_climateActs _ (carryOut_climateActs _) s⟩
  | restartEffect => exact ⟨_, rfl, restartNow_climateActs.awake s⟩
  | resetAssert => exact ⟨_, rfl, .single (.powerOn _)⟩
  | resetRelease stn prate lrate =>
    refine ⟨_, rfl, ?_⟩
    split
    · exact resetHigh_climateActs stn prate lrate s
    · exact .refl
  | minuteTick => exact ⟨_, rfl, minuteTick_climateActs.awake s⟩
  | quarantineEnd node =>
    exact ⟨_, rfl, (climateActs_of_climate (quarantineEnd_climate node.val)).awake s⟩
  | sweepTimerExpiry => exact ⟨_, rfl, (climateActs_of_climate sweepExpiry_climate).awake s⟩
  | climateCycleExpiry => exact ⟨_, rfl, climateExpiry_climateActs.awake s⟩
  | refreshTimerExpiry index =>
    exact ⟨_, rfl, (climateActs_of_climate (refreshExpiry_climate index.val)).awake s⟩
  | reversalTimerExpiry => exact ⟨_, rfl, reversalExpiry_climateActs.awake s⟩
  | coastTimerExpiry => exact ⟨_, rfl, coastExpiry_climateActs.awake s⟩
  | stepPulseEnd => exact ⟨_, rfl, (climateActs_of_climate pulseEnd_climate).awake s⟩
  | lineSelect => exact ⟨_, rfl, (climateActs_of_climate select_climate).awake s⟩
  | leadEnd => exact ⟨_, rfl, (climateActs_of_climate leadEnd_climate).awake s⟩
  | pollSent => exact ⟨_, rfl, (climateActs_of_climate pollSent_climate).awake s⟩
  | lagEnd => exact ⟨_, rfl, (climateActs_of_climate lagEnd_climate).awake s⟩
  | characterReceived signal =>
    exact ⟨_, rfl, (climateActs_of_climate (characterReceived_climate signal)).awake s⟩
  | responseTimeout => exact ⟨_, rfl, (climateActs_of_climate responseTimeout_climate).awake s⟩
  | gapFault => exact ⟨_, rfl, (climateActs_of_climate gapFault_climate).awake s⟩
  | trailingWatchEnd b =>
    exact ⟨_, rfl, (climateActs_of_climate (trailingWatchEnd_climate b)).awake s⟩
  | abandonmentComplete =>
    exact ⟨_, rfl, (climateActs_of_climate finishAbandonment_climate).awake s⟩
  | loopFrameReceived signal how =>
    exact ⟨_, rfl, (climateActs_of_climate (loopHeard_climate signal how)).awake s⟩
  | loopOutFrameSent => exact ⟨_, rfl, frameSent_climateActs.awake s⟩
  | loopOutHandover => exact ⟨_, rfl, (climateActs_of_climate handOver_climate).awake s⟩

theorem idle_climateActs : ClimateActs idle := by
  intro s
  unfold idle
  split
  · exact .refl
  · split
    · exact carryCurrent_climateActs s
    · exact secondTick_climateActs s

/-- Whatever a step does to the Climate Unit, it does by acts. -/
theorem step_climateReach {s t : State} (h : step s = .next t) : ClimateReach s.climate t.climate := by
  unfold step at h
  split at h
  · cases h
    exact idle_climateActs s
  · next c rest _ =>
    obtain ⟨u, hu, hreach⟩ := exec_climateReach c { s with pending := rest }
    cases hu.symm.trans h
    exact hreach

/-! ## Vent and spray (R134, R138) -/

/-- `State.airOneWay`, which speaks of the Climate Unit only. -/
def OneWay (c : Climate) : Prop := c.vent.getD 0 = 0 ∨ c.spray.getD 0 = 0

theorem airOneWay_iff (s : State) : s.airOneWay ↔ OneWay s.climate := Iff.rfl

/-- The table of R134 gives one demand only. -/
theorem ventSpray_oneWay (p : ClimateParams) (h : Int) :
    (ventSpray p h).1 = 0 ∨ (ventSpray p h).2 = 0 := by
  unfold ventSpray
  split
  · exact .inr rfl
  · split <;> exact .inl rfl

theorem runLoops_oneWay (c : Climate) (nodes : NodeTables) (sp : Setpoints) :
    OneWay (c.runLoops nodes sp) := by
  unfold OneWay Climate.runLoops
  dsimp only [Option.getD_some]
  split
  · exact ventSpray_oneWay _ _
  · exact .inl rfl

/-- Each act keeps the law: most set the spray demand or both to 0, the humidity loop gives one of the two, and the
others leave both. -/
theorem ClimateAct.oneWay {c d : Climate} (hact : ClimateAct c d) (h : OneWay c) : OneWay d := by
  cases hact with
  | powerOn | safeMode | startCharge | enterCooldown | cooldownCycle | startCoast => exact .inr rfl
  | runLoops => exact runLoops_oneWay _ _ _
  | endCoast | reversalCount | coastCount | written => exact h

theorem ClimateReach.oneWay {c d : Climate} (hreach : ClimateReach c d) (h : OneWay c) : OneWay d := by
  induction hreach with
  | refl => exact h
  | tail _ hact ih => exact hact.oneWay ih

/-- Settles O9: a step changes the Climate Unit by acts, and each act keeps the law. -/
theorem ventAndSprayStayExclusive : Obligations.VentAndSprayStayExclusive := fun s t hs hstep =>
  (airOneWay_iff t).2 (ClimateReach.oneWay (step_climateReach hstep) ((airOneWay_iff s).1 hs))

end Sys2Proof.Machine.ClimateControl
end

section
/-! The fan timers (R135, R136) and the humidity loop (R133, R134). -/

namespace Sys2Proof.Machine.ClimateControl

/-! ## The fan timers (R135, R136) -/

theorem reversalExpiry_of_running {s : State} {next : FanState} {left : Nat}
    (hfan : s.climate.fan.coast = some next) (htimer : s.climate.reversalTimer = some left) :
    reversalExpiry s = formAll { s with climate := s.climate.startCoast next } := by
  simp only [reversalExpiry, hfan, htimer]

theorem coastExpiry_of_coasting {s : State} {next : FanState} {left : Nat}
    (hfan : s.climate.fan.afterCoast = some next) (htimer : s.climate.coastTimer = some left) :
    coastExpiry s = formAll { s with climate := s.climate.endCoast next } := by
  simp only [coastExpiry, hfan, htimer]

theorem exec_reversalTimerExpiry {s : State} (h : s.resetHeld = false) :
    exec .reversalTimerExpiry s = .next (reversalExpiry s) :=
  congrArg Host.Outcome.next (awake_of_high h reversalExpiry)

theorem exec_coastTimerExpiry {s : State} (h : s.resetHeld = false) :
    exec .coastTimerExpiry s = .next (coastExpiry s) :=
  congrArg Host.Outcome.next (awake_of_high h coastExpiry)

/-- Settles O32: the fan state gives the coast that begins, or the direction in which it ends. -/
theorem fanTimersExpire : Obligations.FanTimersExpire := by
  intro s left hreset coast run
  rw [exec_reversalTimerExpiry hreset, exec_coastTimerExpiry hreset]
  refine ⟨fun hfan htimer => ?_, fun hfan htimer => ?_, fun hfan htimer => ?_, fun hfan htimer => ?_⟩
  · rw [reversalExpiry_of_running (congrArg FanState.coast hfan) htimer]; rfl
  · rw [reversalExpiry_of_running (congrArg FanState.coast hfan) htimer]; rfl
  · rw [coastExpiry_of_coasting (congrArg FanState.afterCoast hfan) htimer]; rfl
  · rw [coastExpiry_of_coasting (congrArg FanState.afterCoast hfan) htimer]; rfl

/-! ## The measured WB (R133) -/

/-- The fresh temperature that an index names once the air points are aged (R55). -/
def freshOnceAged (t : NodeTables) (i : Option Nat) : Option Int :=
  i.bind fun i => (t.airs[i]?).bind fun (a : AirRecord) =>
    if a.cycles + (if a.node.address = none then 0 else 1) ≤ 2 then a.lastTemp else none

/-- An entry that is aged is fresh where its count, one cycle later, is at most 2. -/
theorem freshTemp_aged (a : AirRecord) :
    (if a.node.address.isSome then { a with cycles := satSucc 255 a.cycles } else a).freshTemp =
      if a.cycles + (if a.node.address = none then 0 else 1) ≤ 2 then a.lastTemp else none := by
  cases haddr : a.node.address with
  | none => simp [AirRecord.freshTemp, Config.freshCycles]
  | some _ =>
    have hcount : satSucc 255 a.cycles ≤ 2 ↔ a.cycles + 1 ≤ 2 := by unfold satSucc; omega
    simp [AirRecord.freshTemp, Config.freshCycles, hcount]

theorem freshAt_ageAirs (t : NodeTables) (i : Option Nat) :
    t.ageAirs.freshAt i = freshOnceAged t i := by
  cases i with
  | none => rfl
  | some i =>
    cases ha : t.airs[i]? with
    | none => simp [NodeTables.freshAt, NodeTables.ageAirs, freshOnceAged, ha]
    | some a =>
      simpa [NodeTables.freshAt, NodeTables.ageAirs, freshOnceAged, ha] using freshTemp_aged a

/-- The indices of a list whose elements meet a test are those of a list of the same tests. -/
theorem filterMap_indexed_map {α : Type} (p : α → Bool) (f : α → α) (hf : ∀ a, p (f a) = p a)
    (start : Nat) (l : List α) :
    (indexed start (l.map f)).filterMap (fun q => if p q.2 then some q.1 else none) =
      (indexed start l).filterMap fun q => if p q.2 then some q.1 else none := by
  induction l generalizing start with
  | nil => rfl
  | cons a rest ih =>
    simp only [List.map_cons, indexed, List.filterMap_cons, hf, ih]

/-- Ageing leaves which entries are the WB points (R43). -/
theorem wbPoints_ageAirs (t : NodeTables) : t.ageAirs.wbPoints = t.wbPoints := by
  have hwb : ∀ a : AirRecord,
      (if a.node.address.isSome then { a with cycles := satSucc 255 a.cycles } else a).isWb =
        a.isWb := by
    intro a; split <;> rfl
  unfold NodeTables.wbPoints NodeTables.ageAirs
  dsimp only
  rw [filterMap_indexed_map AirRecord.isWb _ hwb]

section
variable {t : NodeTables} {m : Int}

theorem wetBulb_primary (h : t.freshAt t.wbPoints.1 = some m) : wetBulb t = (.primary, some m) := by
  simp only [wetBulb, h]

theorem wetBulb_secondary (hp : t.freshAt t.wbPoints.1 = none)
    (hs : t.freshAt t.wbPoints.2 = some m) : wetBulb t = (.secondary, some m) := by
  simp only [wetBulb, hp, hs]

theorem wetBulb_none (hp : t.freshAt t.wbPoints.1 = none) (hs : t.freshAt t.wbPoints.2 = none) :
    wetBulb t = (.none, none) := by
  simp only [wetBulb, hp, hs]

end

/-! ## The demands (R134) -/

section
variable {p : ClimateParams} {h : Int}

theorem ventSpray_above (hd : (p.deadband : Int) < h) :
    ventSpray p h = (humidityDemand (h - p.deadband) p.ventGain, 0) := if_pos hd

theorem ventSpray_below (hd : h < -(p.deadband : Int)) :
    ventSpray p h = (0, humidityDemand (-h - p.deadband) p.sprayGain) := by
  rw [ventSpray, if_neg (by omega), if_pos hd]

theorem ventSpray_within (hlow : -(p.deadband : Int) ≤ h) (hhigh : h ≤ p.deadband) :
    ventSpray p h = (0, 0) := by
  rw [ventSpray, if_neg (by omega), if_neg (by omega)]

end

/-- The humidity loop with a measured WB. -/
theorem runLoops_of_measured {t : NodeTables} {source : HumiditySource} {m : Int}
    (hwb : wetBulb t = (source, some m)) (c : Climate) (sp : Setpoints) :
    (c.runLoops t sp).source = source ∧ (c.runLoops t sp).measuredWb = some m ∧
      (c.runLoops t sp).vent = some (ventSpray c.params (m - sp.wbTarget)).1 ∧
      (c.runLoops t sp).spray = some (ventSpray c.params (m - sp.wbTarget)).2 := by
  simp only [Climate.runLoops, hwb, and_self]

/-- The humidity loop with no fresh point. -/
theorem runLoops_of_blind {t : NodeTables} (hwb : wetBulb t = (.none, none)) (c : Climate)
    (sp : Setpoints) :
    (c.runLoops t sp).source = .none ∧ (c.runLoops t sp).measuredWb = none ∧
      (c.runLoops t sp).vent = some 0 ∧ (c.runLoops t sp).spray = some 0 := by
  simp only [Climate.runLoops, hwb, and_self]

/-! ## The expiry at which the loops run (R127) -/

theorem exec_climateCycleExpiry {s : State} (h : s.resetHeld = false) :
    exec .climateCycleExpiry s = .next (climateExpiry s) :=
  congrArg Host.Outcome.next (awake_of_high h climateExpiry)

/-- The loops run at an expiry: the fans run in a direction, and the charge is in WARMUP, RUNNING or HOLD. -/
structure LoopsRun (s : State) (sp : Setpoints) : Prop where
  fan : s.climate.fan = .forward ∨ s.climate.fan = .reverse
  charge : s.schedule.charge.state = .warmup ∨ s.schedule.charge.state = .running ∨
    s.schedule.charge.state = .hold
  setpoints : s.schedule.charge.setpoints = some sp

theorem LoopsRun.cycleMarked {s : State} {sp : Setpoints} (h : LoopsRun s sp) :
    LoopsRun (cycleMarked s) sp := ⟨h.fan, h.charge, h.setpoints⟩

theorem climateCycle_of_loopsRun {s : State} {sp : Setpoints} (h : LoopsRun s sp) :
    climateCycle s =
      raiseAll (s.climate.loopRaises s.nodes)
        (formAll { s with climate := s.climate.runLoops s.nodes sp }) := by
  have hrun : s.climate.fan.running = true := by
    rcases h.fan with hfan | hfan <;> rw [hfan] <;> rfl
  rw [climateCycle, if_pos hrun]
  rcases h.charge with hst | hst | hst <;> simp only [hst, h.setpoints]

section
variable {s : State} {sp : Setpoints}

theorem climateExpiry_climate (h : LoopsRun s sp) :
    (climateExpiry s).climate = s.climate.runLoops s.nodes.ageAirs sp := by
  rw [climateExpiry_eq, countStateReport_climate, climateCycle_of_loopsRun h.cycleMarked,
    raiseAll_climate]
  rfl

/-- An expiry with no measured WB latches HUMIDITY_BLIND (R133). -/
theorem climateExpiry_humidityBlind (h : LoopsRun s sp)
    (hwb : wetBulb s.nodes.ageAirs = (.none, none)) (hflags : s.events.flags.length = 25) :
    (climateExpiry s).events.latched 18 = true := by
  have hraised : ((Event.humidityBlind, none) : Raise) ∈ s.climate.loopRaises s.nodes.ageAirs := by
    simp [Climate.loopRaises, hwb]
  rw [climateExpiry_eq, LineSurvey.latched_congr (countStateReport_flags _ 18 (by decide)),
    climateCycle_of_loopsRun h.cycleMarked, raiseAll_events]
  exact foldl_latch_mem _ _ _ hraised (hflags ▸ by decide)

end

/-! ## The obligation -/

/-- Settles O30: the points that are fresh once aged give the measured WB, and its error one row of R134's table. -/
theorem humidityLoopRuns : Obligations.HumidityLoopRuns := by
  intro s sp hreset hfan hst hsp fresh primary secondary d demands
  have hrun : LoopsRun s sp := ⟨hfan, hst, hsp⟩
  have hprimary : s.nodes.ageAirs.freshAt s.nodes.ageAirs.wbPoints.1 = primary := by
    rw [wbPoints_ageAirs, freshAt_ageAirs]; rfl
  have hsecondary : s.nodes.ageAirs.freshAt s.nodes.ageAirs.wbPoints.2 = secondary := by
    rw [wbPoints_ageAirs, freshAt_ageAirs]; rfl
  have hmeasured : ∀ (source : HumiditySource) (m : Int),
      wetBulb s.nodes.ageAirs = (source, some m) →
      (climateExpiry s).climate.source = source ∧
        (climateExpiry s).climate.measuredWb = some m ∧
          demands (m - sp.wbTarget) (climateExpiry s).climate := by
    intro source m hwb
    rw [climateExpiry_climate hrun]
    obtain ⟨hsource, hwet, hvent, hspray⟩ := runLoops_of_measured hwb s.climate sp
    refine ⟨hsource, hwet, fun habove => ?_, fun hbelow => ?_, fun hlow hhigh => ?_⟩
    · rw [hvent, hspray, ventSpray_above habove]; exact ⟨rfl, rfl⟩
    · rw [hvent, hspray, ventSpray_below hbelow]; exact ⟨rfl, rfl⟩
    · rw [hvent, hspray, ventSpray_within hlow hhigh]; exact ⟨rfl, rfl⟩
  refine ⟨climateExpiry s, exec_climateCycleExpiry hreset, fun m hp => ?_, fun m hp hs => ?_,
    fun hp hs => ?_⟩
  · exact hmeasured _ _ (wetBulb_primary (hprimary.trans hp))
  · exact hmeasured _ _ (wetBulb_secondary (hprimary.trans hp) (hsecondary.trans hs))
  · have hwb := wetBulb_none (hprimary.trans hp) (hsecondary.trans hs)
    obtain ⟨hsource, hwet, hvent, hspray⟩ := runLoops_of_blind hwb s.climate sp
    rw [← climateExpiry_climate hrun] at hsource hwet hvent hspray
    exact ⟨hsource, hwet, hvent, hspray, climateExpiry_humidityBlind hrun hwb⟩

end Sys2Proof.Machine.ClimateControl
end

section
/-! The Actuator Output Unit (chapter 9): how an OVERRIDE is judged and entered, and what each commanded value is
formed from (R143 to R145). -/

namespace Sys2Proof.Machine.ActuatorOutputs

/-! ## The value and the mode (R144) -/

@[simp] theorem isFan_eq_true {f : ActFunction} : f.isFan = true ↔ f = .fan := by
  cases f <;> simp [ActFunction.isFan]

@[simp] theorem isFan_eq_false {f : ActFunction} : f.isFan = false ↔ f ≠ .fan := by
  rw [← Bool.not_eq_true, isFan_eq_true]

/-- A field with no lower limit is clamped from above, and adjusted exactly when it lies beyond (R167). -/
theorem clampField_zero (high n : Nat) : clampField 0 high n = (min high n, decide (high < n)) := by
  have hclamp : clampNat 0 high n = min high n := by unfold clampNat; omega
  have hadjusted : (n != min high n) = decide (high < n) := by
    rw [Bool.eq_iff_iff, bne_iff_ne, decide_eq_true_iff]; omega
  rw [clampField, hclamp, hadjusted]

section
variable {f : ActFunction} {v : Byte}

theorem parseValue_percent (hf : f ≠ .fan) (hv : fanOf v = none) :
    parseValue f v = some (.percent (min 100 v.toNat), decide (100 < v.toNat)) := by
  simp only [parseValue, isFan_eq_false.2 hf, hv, clampField_zero]

theorem parseValue_fan {state : FanValue} (hv : fanOf v = some state) :
    parseValue .fan v = some (.fan state, false) := by
  simp only [parseValue, isFan_eq_true.2 rfl, hv]

theorem parseValue_wrongKind
    (h : (f = .fan ∧ fanOf v = none) ∨ (f ≠ .fan ∧ fanOf v ≠ none)) : parseValue f v = none := by
  obtain ⟨hf, hv⟩ | ⟨hf, hv⟩ := h
  · simp only [parseValue, isFan_eq_true.2 hf, hv]
  · obtain ⟨state, hstate⟩ := Option.ne_none_iff_exists'.1 hv
    simp only [parseValue, isFan_eq_false.2 hf, hstate]

theorem parseOverride_none : parseOverride f 0#8 v = some (.none, false) := rfl

theorem parseOverride_hold : parseOverride f 1#8 v = some (.hold, false) := rfl

theorem parseOverride_force :
    parseOverride f 2#8 v = (parseValue f v).map fun p => (.force p.1, p.2) := rfl

theorem parseOverride_noMode {mode : Byte} (h : 3 ≤ mode.toNat) : parseOverride f mode v = none := by
  unfold parseOverride
  split
  case h_4 => rfl
  all_goals omega

end

/-! ## The command (R144, R145) -/

theorem exec_override {s : State} {src tag : Byte} {args : List Byte}
    (h : s.carries (namedCommand src 10#8 tag args)) :
    exec (.override src tag args) s = .next (finish src 10#8 tag (overrideCommand args s)) :=
  congrArg Host.Outcome.next (namedRow_of_carries h (overrideCommand args))

section
variable {s : State} {i mode v : Byte} {rest : List Byte} {a : Actuator}

/-- An override judged without a fault stands in the entry, and every commanded value is formed again. -/
theorem overrideCommand_accepted {o : Override} {adjusted : Bool}
    (ha : s.outputs.entries[i.toNat]? = some a)
    (ho : parseOverride a.function mode v = some (o, adjusted)) :
    overrideCommand (i :: mode :: v :: rest) s =
      .done adjusted
        (formAll
          { s with
            outputs :=
              { s.outputs with entries := s.outputs.entries.set i.toNat { a with override := o } } }) := by
  simp only [overrideCommand, ha, Option.bind_some, ho, setOverride, modify_of_getElem? _ ha]

theorem overrideCommand_refused
    (h : ∀ a, s.outputs.entries[i.toNat]? = some a → parseOverride a.function mode v = none) :
    overrideCommand (i :: mode :: v :: rest) s = .refuse .badArgument s := by
  have hnone : (s.outputs.entries[i.toNat]?).bind (fun a => parseOverride a.function mode v) = none :=
    Option.bind_eq_none_iff.2 h
  simp only [overrideCommand, hnone]

end

/-! ## Commanded values (R143) -/

section
variable {c : Climate} {b : Actuator}

/-- Forming changes the commanded value alone. -/
theorem form_eq : b.form c = { b with commanded := (b.form c).commanded } := rfl

theorem form_commanded_hold (h : b.override = .hold) : (b.form c).commanded = b.commanded := by
  simp only [Actuator.form, h]

theorem form_commanded_force {v : ActValue} (h : b.override = .force v) :
    (b.form c).commanded = v := by
  simp only [Actuator.form, h]

theorem form_commanded_demand {d : ActValue} (h : b.override = .none)
    (hd : c.demandOf b.function = some d) : (b.form c).commanded = d := by
  simp only [Actuator.form, h, hd, Option.getD_some]

theorem form_commanded_safe (h : b.override = .none) (hd : c.demandOf b.function = none) :
    (b.form c).commanded = b.safe := by
  simp only [Actuator.form, h, hd, Option.getD_none]

end

theorem formAll_getElem? {s : State} {j : Nat} {b : Actuator}
    (h : s.outputs.entries[j]? = some b) :
    (formAll s).outputs.entries[j]? = some (b.form s.climate) := by
  simp only [formAll, List.getElem?_map, h, Option.map_some]

/-! ## The obligation -/

/-- Settles O55: the mode and the value's kind give the override or the refusal, and an entry's override gives the
source of its commanded value. -/
theorem overrideSetsSource : Obligations.OverrideSetsSource := by
  intro s src tag i mode v rest a hc hlen put
  rw [exec_override hc]
  refine ⟨fun ha hmode => ?_, fun ha hmode => ?_, fun ha hmode hf hv => ?_,
    fun state ha hmode hf hv => ?_, fun h => ?_, fun j b hb => ?_⟩
  · subst hmode
    rw [overrideCommand_accepted ha parseOverride_none]
    rfl
  · subst hmode
    rw [overrideCommand_accepted ha parseOverride_hold]
    rfl
  · subst hmode
    rw [overrideCommand_accepted ha (by rw [parseOverride_force, parseValue_percent hf hv]; rfl)]
  · subst hmode
    rw [overrideCommand_accepted ha (by rw [parseOverride_force, hf, parseValue_fan hv]; rfl)]
    rfl
  · rw [overrideCommand_refused fun a' ha' => ?_]
    obtain hi | hmode | ⟨ha, hmode, hkind⟩ := h
    · rw [List.getElem?_eq_none (hlen ▸ hi)] at ha'
      cases ha'
    · exact parseOverride_noMode hmode
    · obtain rfl : a = a' := Option.some.inj (ha.symm.trans ha')
      rw [hmode, parseOverride_force, parseValue_wrongKind hkind, Option.map_none]
  · rw [formAll_getElem? hb, form_eq]
    refine congrArg (fun value => some { b with commanded := value }) ?_
    split
    · next ho => exact form_commanded_hold ho
    · next ho => exact form_commanded_force ho
    · next ho hd => exact form_commanded_demand ho hd
    · next ho hd => exact form_commanded_safe ho hd

end Sys2Proof.Machine.ActuatorOutputs
end

section
/-! What a step can do to the queues of the Plant Loop Port and of the Command Unit, said once (R156 to R159), and
the bounds that follow from it. -/

namespace Sys2Proof.Machine.LoopQueues

/-! ## The moves of the queues -/

/-- What R156 to R159 bound: the two queues, the repeat run and the waiting COMMANDs. -/
structure Queues where
  repeats : List LoopFrame
  inserts : List InsertEntry
  run : Nat
  waiting : List LoopCommand

def queuesOf (s : State) : Queues :=
  { repeats := s.loop.repeatQueue, inserts := s.loop.insertQueue, run := s.loop.run,
    waiting := s.command.waiting }

/-- One change of the queues, with the room that it needs. -/
inductive Move : Queues → Queues → Prop where
  /-- A REPLY or NOTICE enters where a place is free (R158). -/
  | reply (q : Queues) (e : InsertEntry) :
      q.inserts.length < 16 → e.isReport = false → Move q { q with inserts := q.inserts ++ [e] }
  /-- A REPORT or PASS-THROUGH enters where three places stay free after it (R158). -/
  | report (q : Queues) (e : InsertEntry) :
      q.inserts.length ≤ 12 → Move q { q with inserts := q.inserts ++ [e] }
  /-- A frame to be repeated enters (R157). -/
  | repeated (q : Queues) (f : LoopFrame) :
      q.repeats.length < 4 → Move q { q with repeats := q.repeats ++ [f] }
  /-- A COMMAND waits (R156). -/
  | waits (q : Queues) (c : LoopCommand) :
      q.waiting.length < 4 → Move q { q with waiting := q.waiting ++ [c] }
  /-- Frames that have left give up their places, and the oldest waiting COMMAND is next (R157, R158, R166). -/
  | leave (q : Queues) (i j k : Nat) :
      Move q
        { q with
          repeats := q.repeats.drop i, inserts := q.inserts.drop j, waiting := q.waiting.drop k }
  /-- Loop-out is handed over (R159). -/
  | handedOver (q : Queues) (n : Nat) : n ≤ 4 → Move q { q with run := n }
  /-- RESTART and the RESET pin empty the queues (R165, R172, R174). -/
  | cleared (q : Queues) : Move q { repeats := [], inserts := [], run := 0, waiting := [] }

/-- Any number of moves, one after the other. -/
inductive Moves (q : Queues) : Queues → Prop where
  | refl : Moves q q
  | tail {r t : Queues} : Moves q r → Move r t → Moves q t

/-- The operation changes the queues by moves only. -/
def OnlyMoves (f : State → State) : Prop :=
  ∀ ⦃q : Queues⦄ (s : State), Moves q (queuesOf s) → Moves q (queuesOf (f s))

theorem onlyMoves_of_same {f : State → State} (hl : ∀ s, (f s).loop = s.loop)
    (hc : ∀ s, (f s).command = s.command) : OnlyMoves f := fun _ s hs => by
  unfold queuesOf
  rw [hl, hc]
  exact hs

theorem OnlyMoves.awake {f : State → State} (h : OnlyMoves f) : OnlyMoves (awake f) := by
  intro q s hs
  cases hr : s.resetHeld with
  | true => rw [awake_of_low hr]; exact hs
  | false => rw [awake_of_high hr]; exact h s hs

/-! ## Raises, reports and replies -/

/-- A frame that is no report offered to the Insert Queue. -/
theorem offer_moves {q : Queues} {s : State} (hs : Moves q (queuesOf s)) (f : LoopFrame) (b : Bool)
    (hf : InsertEntry.isReport { frame := f, restartReply := b } = false) :
    Moves q (queuesOf { s with loop := s.loop.offer f b }) := by
  rcases offer_cases s.loop f b with ⟨h, hroom⟩ | ⟨h, -⟩ <;> rw [h]
  · exact hs.tail (.reply _ _ hroom hf)
  · exact hs

theorem raise_moves (r : Raise) : OnlyMoves (raise r) := by
  intro q s hs
  unfold raise
  rcases notify_cases s.loop s.events r with h | h <;> rw [h]
  · exact hs
  · exact offer_moves hs _ _ rfl

theorem raiseAll_moves (rs : List Raise) : OnlyMoves (raiseAll rs) := by
  induction rs with
  | nil => exact fun _ _ hs => hs
  | cons r rs ih => exact fun _ s hs => ih _ (raise_moves r s hs)

theorem offerReport_moves (type : Byte) (body : List Byte) : OnlyMoves (offerReport type body) := by
  intro q s hs
  rcases offerReport_cases type body s with ⟨hroom, h⟩ | ⟨-, h⟩ <;> rw [h]
  · exact hs.tail (.report _ _ hroom)
  · exact raise_moves _ _ hs

theorem offerPass_moves (body : List Byte) : OnlyMoves (offerPass body) := by
  intro q s hs
  rcases offerPass_cases body s with ⟨hroom, h⟩ | ⟨-, h⟩ <;> rw [h]
  · exact hs.tail (.report _ _ hroom)
  · exact raise_moves _ _ hs

theorem offerReports_moves (type : Byte) (bodies : List (List Byte)) :
    OnlyMoves (bodies.foldl fun s b => offerReport type b s) := by
  induction bodies with
  | nil => exact fun _ _ hs => hs
  | cons b rest ih => exact fun _ s hs => ih _ (offerReport_moves type b s hs)

theorem reportEvaluation_moves (c : Charge) (e : EvalRecord) : OnlyMoves (reportEvaluation c e) := by
  intro q s hs
  unfold reportEvaluation
  split
  · exact hs
  · exact offerReport_moves _ _ s hs
  · exact offerReports_moves _ _ _ (offerReport_moves _ _ s hs)

theorem countStateReport_moves : OnlyMoves countStateReport := by
  intro q s hs
  unfold countStateReport
  dsimp only
  split
  · exact offerReport_moves _ _ _ hs
  · exact hs

theorem passThrough_moves (o : OutcomeRecord) : OnlyMoves (passThrough o) := by
  intro q s hs
  unfold passThrough
  split
  · exact hs
  · split
    · exact hs
    · split
      · exact offerPass_moves _ s hs
      · exact hs

/-! ## The minute tick -/

theorem transition_moves : OnlyMoves transition := by
  intro q s hs
  unfold transition
  dsimp only
  split
  · exact raise_moves _ _ hs
  · exact hs

theorem warmupTests_moves : OnlyMoves warmupTests := by
  intro q s hs
  unfold warmupTests
  split
  · exact hs
  · split
    · exact raise_moves _ _ hs
    · exact hs

theorem runningTests_moves : OnlyMoves runningTests := by
  intro q s hs
  have hmarked := raise_moves (.stepOverdue, some s.schedule.charge.step)
    (s.withCharge { s.schedule.charge with stepOverdue := true }) hs
  unfold runningTests
  split
  · exact transition_moves _ hs
  · split
    · dsimp only
      split
      · exact transition_moves _ hmarked
      · exact hmarked
    · exact hs

theorem completeCharge_moves (r : Option ChargeResult) : OnlyMoves (completeCharge r) := fun _ s hs =>
  raise_moves _ (formAll { s with schedule := s.schedule.complete r, climate := s.climate.safeMode }) hs

theorem cooldownTest_moves : OnlyMoves cooldownTest := by
  intro q s hs
  unfold cooldownTest
  split
  · exact completeCharge_moves _ _ hs
  · exact hs

theorem scheduleMinute_moves : OnlyMoves scheduleMinute := by
  intro q s hs
  unfold scheduleMinute
  dsimp only
  split
  case h_1 => exact warmupTests_moves _ hs
  case h_2 => exact runningTests_moves _ hs
  case h_3 => exact cooldownTest_moves _ hs
  all_goals exact hs

theorem minuteTick_moves : OnlyMoves minuteTick := fun _ s hs =>
  onlyMoves_of_same reversalMinute_loop reversalMinute_command _ (scheduleMinute_moves s hs)

/-! ## Sweeps and evaluations -/

theorem applyEvaluation_moves (ev : EvalRecord) : OnlyMoves (applyEvaluation ev) := by
  intro q s hs
  unfold applyEvaluation
  exact raiseAll_moves _ _ hs

theorem runEvaluation_moves (sweep : Nat) : OnlyMoves (runEvaluation sweep) := by
  intro q s hs
  unfold runEvaluation
  exact applyEvaluation_moves _ _ (raiseAll_moves _ _ (reportEvaluation_moves _ _ _ hs))

theorem completeSweep_moves : OnlyMoves completeSweep := fun _ s hs =>
  runEvaluation_moves s.line.sweepNumber s hs

theorem startSweep_moves : OnlyMoves startSweep := by
  intro q s hs
  unfold startSweep
  dsimp only
  split
  · exact completeSweep_moves _ hs
  · exact hs

theorem testSweep_moves : OnlyMoves testSweep := by
  intro q s hs
  have hdone := completeSweep_moves s hs
  unfold testSweep
  dsimp only
  split
  · split
    · exact startSweep_moves _ hdone
    · exact hdone
  · exact hs

theorem sweepExpiry_moves : OnlyMoves sweepExpiry := by
  intro q s hs
  unfold sweepExpiry
  dsimp only
  split
  · split
    · exact raise_moves _ _ hs
    · exact hs
  · exact startSweep_moves _ hs

theorem select_moves : OnlyMoves select := by
  intro q s hs
  unfold select
  split
  · dsimp only
    split
    · exact testSweep_moves _ hs
    · exact testSweep_moves _ hs
  · exact hs

/-! ## The delivery of an outcome -/

theorem ownerProbe_moves (slot : Nat) (o : OutcomeRecord) : OnlyMoves (ownerProbe slot o) := by
  intro q s hs
  unfold ownerProbe
  split
  · exact hs
  · split
    · exact hs
    · exact raiseAll_moves _ _ hs

theorem ownerAir_moves (index : Nat) (o : OutcomeRecord) : OnlyMoves (ownerAir index o) := by
  intro q s hs
  unfold ownerAir
  split
  · exact hs
  · split
    · exact hs
    · exact raiseAll_moves _ _ hs

theorem ownerActuator_moves (index : Nat) (o : OutcomeRecord) : OnlyMoves (ownerActuator index o) := by
  intro q s hs
  unfold ownerActuator
  split
  · exact hs
  · split
    · exact hs
    · exact raiseAll_moves _ _ hs

theorem completeSurvey_moves : OnlyMoves completeSurvey := by
  intro q s hs
  unfold completeSurvey
  exact raiseAll_moves _ _ hs

theorem ownerSurvey_moves (address : Nat) (o : OutcomeRecord) : OnlyMoves (ownerSurvey address o) := by
  intro q s hs
  unfold ownerSurvey
  dsimp only
  split
  case h_1 =>
    split
    · exact hs
    · exact completeSurvey_moves _ hs
  all_goals exact hs

theorem deliverToOwner_moves (o : OutcomeRecord) : OnlyMoves (deliverToOwner o) := by
  intro q s hs
  unfold deliverToOwner
  split
  · exact ownerProbe_moves _ _ _ hs
  · exact ownerAir_moves _ _ _ hs
  · exact ownerActuator_moves _ _ _ hs
  · exact ownerSurvey_moves _ _ _ hs

theorem monitor_moves (o : LineOutcome) : OnlyMoves (monitor o) := by
  intro q s hs
  unfold monitor
  exact raiseAll_moves _ _ hs

theorem arbiterTake_moves (before : NodeTables) (o : OutcomeRecord) :
    OnlyMoves (arbiterTake before o) := by
  intro q s hs
  unfold arbiterTake
  split
  case h_1 => exact testSweep_moves _ hs
  case h_3 => exact onlyMoves_of_same (creditSet_loop _ _) (creditSet_command _ _) _ hs
  all_goals exact hs

theorem deliver_moves (o : OutcomeRecord) : OnlyMoves (deliver o) := by
  intro q s hs
  unfold deliver
  exact arbiterTake_moves _ _ _ (passThrough_moves _ _ (deliverToOwner_moves _ _ (monitor_moves _ _ hs)))

/-! ## The probe line -/

theorem decideOutcome_moves (jabbering : Bool) : OnlyMoves (decideOutcome jabbering) := by
  intro q s hs
  unfold decideOutcome
  split
  · exact deliver_moves _ _ hs
  · exact hs

theorem takeCharacter_moves (bits : LineBits) (framing : Bool) :
    OnlyMoves (takeCharacter bits framing) := by
  intro q s hs
  unfold takeCharacter
  dsimp only
  split
  · exact decideOutcome_moves _ _ hs
  · exact hs

theorem hearLevel_moves (raw : Bool) : OnlyMoves (hearLevel · raw) := by
  intro q s hs
  unfold hearLevel
  dsimp only
  split
  · exact takeCharacter_moves _ _ _ hs
  · exact hs

theorem hearLevels_moves (samples : List Bool) : OnlyMoves (samples.foldl hearLevel) := by
  induction samples with
  | nil => exact fun _ _ hs => hs
  | cons raw rest ih => exact fun _ s hs => ih _ (hearLevel_moves raw s hs)

theorem characterReceived_moves (signal : LineSignal) : OnlyMoves (characterReceived signal) := by
  cases signal with
  | char bits framing => exact fun _ s hs => takeCharacter_moves bits framing (s.heard framing) hs
  | raw samples => exact hearLevels_moves samples

theorem responseTimeout_moves : OnlyMoves responseTimeout := by
  intro q s hs
  unfold responseTimeout
  split
  case h_3 => exact hs
  all_goals exact deliver_moves _ _ hs

theorem gapFault_moves : OnlyMoves gapFault := by
  intro q s hs
  unfold gapFault
  split
  · exact decideOutcome_moves _ _ hs
  · exact hs

theorem trailingWatchEnd_moves (inProgress : Bool) : OnlyMoves (trailingWatchEnd inProgress) := by
  intro q s hs
  unfold trailingWatchEnd
  split
  · exact decideOutcome_moves _ _ hs
  · exact hs

/-! ## Timers -/

theorem refreshExpiry_moves (i : Nat) : OnlyMoves (refreshExpiry i) := by
  intro q s hs
  unfold refreshExpiry
  split
  · exact raiseAll_moves _ _ hs
  · exact hs

theorem climateCycle_moves : OnlyMoves climateCycle := by
  intro q s hs
  unfold climateCycle
  split
  · split
    case h_1 => exact hs
    case h_5 => exact hs
    all_goals exact raiseAll_moves _ _ hs
  · exact hs

theorem climateExpiry_moves : OnlyMoves climateExpiry := by
  intro q s hs
  unfold climateExpiry
  exact countStateReport_moves _ (climateCycle_moves _ hs)

theorem refreshSecond_moves (i : Nat) : OnlyMoves (refreshSecond i) := by
  intro q s hs
  unfold refreshSecond
  split
  · split
    · exact refreshExpiry_moves i _ hs
    · exact hs
  · exact hs

theorem refreshSeconds_moves (l : List Nat) : OnlyMoves (l.foldl fun s i => refreshSecond i s) := by
  induction l with
  | nil => exact fun _ _ hs => hs
  | cons i rest ih => exact fun _ s hs => ih _ (refreshSecond_moves i s hs)

theorem sweepSecond_moves : OnlyMoves sweepSecond := by
  intro q s hs
  unfold sweepSecond
  split
  · exact sweepExpiry_moves _ hs
  · exact hs

theorem climateSecond_moves : OnlyMoves climateSecond := by
  intro q s hs
  unfold climateSecond
  split
  · exact climateExpiry_moves _ hs
  · exact hs

theorem secondTick_moves : OnlyMoves secondTick := fun _ s hs =>
  climateSecond_moves _ (onlyMoves_of_same coastSecond_loop coastSecond_command _
    (sweepSecond_moves _ (refreshSeconds_moves _ s hs)))

/-! ## Frames on loop-in and loop-out -/

theorem repeatFrame_moves (f : LoopFrame) : OnlyMoves (repeatFrame f) := by
  intro q s hs
  rcases repeatFrame_cases f s with ⟨-, h⟩ | ⟨-, hroom, h⟩ | ⟨-, -, h⟩ <;> rw [h]
  · exact hs
  · exact hs.tail (.repeated _ _ hroom)
  · exact raise_moves _ _ hs

theorem arrive_moves (c : LoopCommand) : OnlyMoves (arrive c) := by
  intro q s hs
  rcases arrive_cases c s with ⟨-, h⟩ | ⟨hroom, h⟩ | ⟨-, h⟩ <;> rw [h]
  · exact hs
  · exact hs.tail (.waits _ c hroom)
  · exact raise_moves _ _ hs

theorem takeFrame_moves (f : LoopFrame) : OnlyMoves (takeFrame f) := by
  intro q s hs
  unfold takeFrame
  split
  · split
    · split
      · exact raise_moves _ _ hs
      · exact hs
    · exact arrive_moves _ _ hs
  · exact hs

theorem goodFrame_moves (f : LoopFrame) : OnlyMoves (goodFrame f) := by
  intro q s hs
  unfold goodFrame
  split
  · exact takeFrame_moves f _ hs
  · split
    · exact takeFrame_moves f _ (repeatFrame_moves f s hs)
    · exact repeatFrame_moves f _ hs

theorem badFrame_moves (f : LoopFrame) : OnlyMoves (badFrame f) := by
  intro q s hs
  unfold badFrame
  split
  · exact raise_moves _ _ hs
  · exact repeatFrame_moves _ _ hs

theorem fragment_moves (chars : List Byte) : OnlyMoves (fragment chars) := by
  intro q s hs
  unfold fragment
  split
  · exact hs
  · split
    · exact raise_moves _ _ hs
    · exact hs

theorem frameReceived_moves (chars : List Byte) (framing : Bool) :
    OnlyMoves (frameReceived chars framing) := by
  intro q s hs
  unfold frameReceived
  dsimp only
  split
  · split
    · exact hs
    · split
      · exact badFrame_moves _ _ hs
      · exact goodFrame_moves _ _ hs
  · exact fragment_moves _ _ hs

theorem framesReceived_moves (frames : List (List Byte × Bool)) :
    OnlyMoves (frames.foldl fun t f => frameReceived f.1 f.2 t) := by
  induction frames with
  | nil => exact fun _ _ hs => hs
  | cons f rest ih => exact fun _ s hs => ih _ (frameReceived_moves f.1 f.2 s hs)

/-- Hearing loop-in changes its condition and its receiver only. -/
theorem hearBits_frame (levels : List Bool) (p : LoopPort) :
    (p.hearBits levels).1 =
      { p with
        loopIn := (p.hearBits levels).1.loopIn, loopRx := (p.hearBits levels).1.loopRx } := by
  induction levels generalizing p with
  | nil => rfl
  | cons level rest ih => exact ih _

theorem hear_frame (signal : LoopSignal) (how : LoopArrival) (p : LoopPort) :
    (p.hear signal how).1 =
      { p with
        loopIn := (p.hear signal how).1.loopIn, loopRx := (p.hear signal how).1.loopRx } := by
  cases signal with
  | chars => rfl
  | bits => exact hearBits_frame _ p

theorem loopHeard_moves (signal : LoopSignal) (how : LoopArrival) :
    OnlyMoves (loopHeard signal how) := by
  intro q s hs
  have hheard : Moves q (queuesOf { s with loop := (s.loop.hear signal how).1 }) := by
    rw [hear_frame]
    exact hs
  exact framesReceived_moves _ _ hheard

theorem handOver_moves : OnlyMoves handOver := by
  intro q s hs
  have hrun (n : Nat) (h : n ≤ 4) : Moves q { queuesOf s with run := n } :=
    hs.tail (.handedOver _ n h)
  unfold handOver
  split
  case h_3 => exact hs
  all_goals
    unfold LoopPort.handOver
    split
    case h_2 =>
      split
      · next h => exact hrun _ h
      · exact hrun 0 (by omega)
    case h_4 => exact hs
    all_goals exact hrun 0 (by omega)

/-! ## Resets -/

theorem restartEffect_moves : OnlyMoves restartEffect := by
  intro q s hs
  unfold restartEffect
  exact raiseAll_moves _ _ (hs.tail (.cleared _))

theorem restartNow_moves : OnlyMoves restartNow := by
  intro q s hs
  unfold restartNow
  split
  · dsimp only
    split
    · split
      · exact restartEffect_moves _ hs
      · exact restartEffect_moves _ hs
    all_goals exact restartEffect_moves _ hs
  · exact hs

theorem frameSent_moves : OnlyMoves frameSent := by
  intro q s hs
  have hsent : Moves q
      (queuesOf
        { s with
          loop := { s.loop with out := .spacing, insertQueue := s.loop.insertQueue.drop 1 } }) :=
    hs.tail (.leave _ 0 1 0)
  unfold frameSent
  split
  case h_1 => exact hs.tail (.leave _ 1 0 0)
  case h_2 =>
    dsimp only
    split
    · exact restartEffect_moves _ hsent
    · exact hsent
  all_goals exact hs

theorem resetLow_moves : OnlyMoves resetLow := fun _ _ hs => hs.tail (.cleared _)

theorem resetHigh_moves (stn : BitVec 5) (prate lrate : Bool) :
    OnlyMoves (resetHigh stn prate lrate) := by
  intro q s hs
  unfold resetHigh
  exact raiseAll_moves _ _ (hs.tail (.cleared _))

/-! ## Answers and COMMANDs -/

/-- The command's answer changes the queues by moves only. -/
abbrev AnswerMoves (answer : State → Answer) : Prop := OnlyMoves fun s => (answer s).state

theorem answerMoves_of_same {answer : State → Answer} (hl : ∀ s, (answer s).state.loop = s.loop)
    (hc : ∀ s, (answer s).state.command = s.command) : AnswerMoves answer := onlyMoves_of_same hl hc

theorem passListWrite_moves (args : List Byte) : AnswerMoves (passListWrite args) := by
  intro q s hs
  unfold passListWrite
  split <;> exact hs

theorem tableWriteOf_moves {table : Nat} {write : List Byte → State → Answer}
    (h : tableWriteOf table = some write) (args : List Byte) : AnswerMoves (write args) := by
  unfold tableWriteOf at h
  split at h <;> cases h
  · exact answerMoves_of_same (probeWrite_loop args) (probeWrite_command args)
  · exact answerMoves_of_same (airWrite_loop args) (airWrite_command args)
  · exact answerMoves_of_same (actuatorWrite_loop args) (actuatorWrite_command args)
  · exact answerMoves_of_same (calibrationWrite_loop args) (calibrationWrite_command args)
  · exact answerMoves_of_same (scheduleWrite_loop args) (scheduleWrite_command args)
  · exact answerMoves_of_same (chargeParamsWrite_loop args) (chargeParamsWrite_command args)
  · exact answerMoves_of_same (climateParamsWrite_loop args) (climateParamsWrite_command args)
  · exact answerMoves_of_same (lineParamsWrite_loop args) (lineParamsWrite_command args)
  · exact passListWrite_moves args

theorem tableWrite_moves (args : List Byte) : AnswerMoves (tableWrite args) := by
  intro q s hs
  unfold tableWrite
  split
  · exact hs
  · split
    · next h => exact tableWriteOf_moves h _ _ hs
    · exact hs

theorem enterHold_moves (r : ReturnState) : OnlyMoves (enterHold r) := fun _ s hs =>
  raise_moves _ (s.withCharge (s.schedule.charge.holdFrom r)) hs

theorem hold_moves : AnswerMoves hold := by
  intro q s hs
  dsimp only
  unfold hold
  split
  case h_1 => exact enterHold_moves _ _ hs
  case h_2 => exact enterHold_moves _ _ hs
  all_goals exact hs

theorem advance_moves : AnswerMoves advance := by
  intro q s hs
  dsimp only
  unfold advance
  split
  case h_1 => exact transition_moves _ hs
  case h_2 => exact transition_moves _ hs
  all_goals exact hs

theorem takeStep_moves (k : Nat) : OnlyMoves (takeStep k) := by
  intro q s hs
  unfold takeStep
  exact raise_moves _ _ hs

theorem setStep_moves (args : List Byte) : AnswerMoves (setStep args) := by
  intro q s hs
  dsimp only
  unfold setStep
  split
  · exact hs
  · split
    · exact hs
    · split
      · exact takeStep_moves _ _ hs
      · exact hs

theorem abortCharge_moves : AnswerMoves abortCharge := by
  intro q s hs
  dsimp only
  unfold abortCharge
  split
  case h_4 => exact completeCharge_moves _ _ hs
  all_goals exact hs

theorem setReportMode_moves (args : List Byte) : AnswerMoves (setReportMode args) := by
  intro q s hs
  unfold setReportMode
  (repeat' split) <;> exact hs

theorem answerOf_moves {kind : Nat} {answer : List Byte → State → Answer}
    (h : answerOf kind = some answer) (args : List Byte) : AnswerMoves (answer args) := by
  unfold answerOf at h
  split at h <;> cases h
  · exact fun _ _ hs => hs
  · exact tableWrite_moves args
  · exact fun _ s hs => by dsimp only; rw [tableRead_state]; exact hs
  · exact answerMoves_of_same startCharge_loop startCharge_command
  · exact hold_moves
  · exact answerMoves_of_same resume_loop resume_command
  · exact advance_moves
  · exact setStep_moves args
  · exact abortCharge_moves
  · exact answerMoves_of_same (stepAmend_loop args) (stepAmend_command args)
  · exact answerMoves_of_same (overrideCommand_loop args) (overrideCommand_command args)
  · exact answerMoves_of_same (wbSelect_loop args) (wbSelect_command args)
  · exact answerMoves_of_same surveyStart_loop surveyStart_command
  · exact answerMoves_of_same surveyAbort_loop surveyAbort_command
  · exact answerMoves_of_same lineReset_loop lineReset_command
  · exact answerMoves_of_same (clearEvents_loop args) (clearEvents_command args)
  · exact answerMoves_of_same (setEventMask_loop args) (setEventMask_command args)
  · exact setReportMode_moves args
  · exact answerMoves_of_same (setStatusLines_loop args) (setStatusLines_command args)

/-- The REPLY enters, and the oldest waiting COMMAND is next. -/
theorem finish_moves (source kind tag : Byte) {answer : State → Answer} (h : AnswerMoves answer) :
    OnlyMoves fun s => finish source kind tag (answer s) := by
  intro q s hs
  have hreply := offer_moves (h s hs) (replyFrame source kind tag (answer s)) false rfl
  exact hreply.tail (.leave _ 0 0 1)

theorem takeRestart_moves (c : LoopCommand) (source kind tag : Byte) :
    OnlyMoves (takeRestart c source kind tag) := by
  intro q s hs
  unfold takeRestart
  split
  · next h =>
    have hroom : s.loop.insertQueue.length + 1 ≤ 16 := of_decide_eq_true h
    exact hs.tail (.reply _ _ hroom rfl)
  · exact restartEffect_moves _ hs

theorem refuse_moves (r : ReplyStatus) : AnswerMoves (Answer.refuse r) := fun _ _ hs => hs

theorem carryOut_moves (c : LoopCommand) : OnlyMoves (carryOut c) := by
  intro q s hs
  unfold carryOut
  split
  · exact finish_moves _ _ _ (refuse_moves _) _ hs
  · exact finish_moves _ _ _ (refuse_moves _) _ hs
  · split
    · exact takeRestart_moves _ _ _ _ _ hs
    · split
      · next h => exact finish_moves _ _ _ (answerOf_moves h _) _ hs
      · exact finish_moves _ _ _ (refuse_moves _) _ hs

theorem carryCurrent_moves : OnlyMoves carryCurrent := by
  intro q s hs
  unfold carryCurrent
  split
  · split
    · exact hs
    · exact carryOut_moves _ _ hs
  · exact hs

theorem commandRow_moves (c : LoopCommand) {carry : State → State} (h : OnlyMoves carry) :
    OnlyMoves (commandRow c carry) := by
  intro q s hs
  rcases commandRow_cases c carry s with heq | heq | heq <;> rw [heq]
  · exact hs
  · exact h s hs
  · exact arrive_moves c _ hs

/-- A row of a command whose answer is that of a command kind. -/
theorem kindRow_moves {kind : Nat} {answer : List Byte → State → Answer}
    (h : answerOf kind = some answer) (src k tag : Byte) (args more : List Byte) :
    OnlyMoves (namedRow src k tag args (answer more)) :=
  commandRow_moves _ (finish_moves src k tag (answerOf_moves h more))

/-- A row of TABLE WRITE for one table. -/
theorem tableRow_moves {table : Nat} {write : List Byte → State → Answer}
    (h : tableWriteOf table = some write) (src k tag : Byte) (args more : List Byte) :
    OnlyMoves (namedRow src k tag args (write more)) :=
  commandRow_moves _ (finish_moves src k tag (tableWriteOf_moves h more))

/-! ## Every row, and every step -/

theorem exec_moves (i : Instr) {q : Queues} (s : State) (hs : Moves q (queuesOf s)) :
    ∃ t, exec i s = .next t ∧ Moves q (queuesOf t) := by
  cases i with
  | readStatus => exact ⟨_, rfl, kindRow_moves (kind := 0) rfl _ _ _ _ [] s hs⟩
  | tableWrite => exact ⟨_, rfl, kindRow_moves (kind := 1) rfl _ _ _ _ _ s hs⟩
  | tableWriteProbe => exact ⟨_, rfl, tableRow_moves (table := 0) rfl _ _ _ _ _ s hs⟩
  | tableWriteAirpoint => exact ⟨_, rfl, tableRow_moves (table := 1) rfl _ _ _ _ _ s hs⟩
  | tableWriteActuator => exact ⟨_, rfl, tableRow_moves (table := 2) rfl _ _ _ _ _ s hs⟩
  | tableWriteCalibration => exact ⟨_, rfl, tableRow_moves (table := 3) rfl _ _ _ _ _ s hs⟩
  | tableWriteSchedule => exact ⟨_, rfl, tableRow_moves (table := 4) rfl _ _ _ _ _ s hs⟩
  | tableWriteChargeParams => exact ⟨_, rfl, tableRow_moves (table := 5) rfl _ _ _ _ _ s hs⟩
  | tableWriteClimateParams => exact ⟨_, rfl, tableRow_moves (table := 6) rfl _ _ _ _ _ s hs⟩
  | tableWriteLineParams => exact ⟨_, rfl, tableRow_moves (table := 7) rfl _ _ _ _ _ s hs⟩
  | tableWritePassList => exact ⟨_, rfl, tableRow_moves (table := 8) rfl _ _ _ _ _ s hs⟩
  | tableRead => exact ⟨_, rfl, kindRow_moves (kind := 2) rfl _ _ _ _ _ s hs⟩
  | startCharge => exact ⟨_, rfl, kindRow_moves (kind := 3) rfl _ _ _ _ [] s hs⟩
  | hold => exact ⟨_, rfl, kindRow_moves (kind := 4) rfl _ _ _ _ [] s hs⟩
  | resume => exact ⟨_, rfl, kindRow_moves (kind := 5) rfl _ _ _ _ [] s hs⟩
  | advance => exact ⟨_, rfl, kindRow_moves (kind := 6) rfl _ _ _ _ [] s hs⟩
  | setStep => exact ⟨_, rfl, kindRow_moves (kind := 7) rfl _ _ _ _ _ s hs⟩
  | abortCharge => exact ⟨_, rfl, kindRow_moves (kind := 8) rfl _ _ _ _ [] s hs⟩
  | stepAmend => exact ⟨_, rfl, kindRow_moves (kind := 9) rfl _ _ _ _ _ s hs⟩
  | override => exact ⟨_, rfl, kindRow_moves (kind := 10) rfl _ _ _ _ _ s hs⟩
  | wbSelect => exact ⟨_, rfl, kindRow_moves (kind := 11) rfl _ _ _ _ _ s hs⟩
  | surveyStart => exact ⟨_, rfl, kindRow_moves (kind := 12) rfl _ _ _ _ [] s hs⟩
  | surveyAbort => exact ⟨_, rfl, kindRow_moves (kind := 13) rfl _ _ _ _ [] s hs⟩
  | lineReset => exact ⟨_, rfl, kindRow_moves (kind := 14) rfl _ _ _ _ [] s hs⟩
  | restart => exact ⟨_, rfl, commandRow_moves _ (takeRestart_moves _ _ _ _) s hs⟩
  | clearEvents => exact ⟨_, rfl, kindRow_moves (kind := 16) rfl _ _ _ _ _ s hs⟩
  | setEventMask => exact ⟨_, rfl, kindRow_moves (kind := 17) rfl _ _ _ _ _ s hs⟩
  | setReportMode => exact ⟨_, rfl, kindRow_moves (kind := 18) rfl _ _ _ _ _ s hs⟩
  | setStatusLines => exact ⟨_, rfl, kindRow_moves (kind := 19) rfl _ _ _ _ _ s hs⟩
  | unknownCommand => exact ⟨_, rfl, commandRow_moves _ (carryOut_moves _) s hs⟩
  | restartEffect => exact ⟨_, rfl, restartNow_moves.awake s hs⟩
  | resetAssert => exact ⟨_, rfl, resetLow_moves s hs⟩
  | resetRelease stn prate lrate =>
    refine ⟨_, rfl, ?_⟩
    split
    · exact resetHigh_moves stn prate lrate s hs
    · exact hs
  | minuteTick => exact ⟨_, rfl, minuteTick_moves.awake s hs⟩
  | quarantineEnd node =>
    exact ⟨_, rfl, (onlyMoves_of_same (quarantineEnd_loop node) (quarantineEnd_command node)).awake s hs⟩
  | sweepTimerExpiry => exact ⟨_, rfl, sweepExpiry_moves.awake s hs⟩
  | climateCycleExpiry => exact ⟨_, rfl, climateExpiry_moves.awake s hs⟩
  | refreshTimerExpiry index => exact ⟨_, rfl, (refreshExpiry_moves index).awake s hs⟩
  | reversalTimerExpiry =>
    exact ⟨_, rfl, (onlyMoves_of_same reversalExpiry_loop reversalExpiry_command).awake s hs⟩
  | coastTimerExpiry =>
    exact ⟨_, rfl, (onlyMoves_of_same coastExpiry_loop coastExpiry_command).awake s hs⟩
  | stepPulseEnd => exact ⟨_, rfl, (onlyMoves_of_same pulseEnd_loop pulseEnd_command).awake s hs⟩
  | lineSelect => exact ⟨_, rfl, select_moves.awake s hs⟩
  | leadEnd => exact ⟨_, rfl, (onlyMoves_of_same leadEnd_loop leadEnd_command).awake s hs⟩
  | pollSent => exact ⟨_, rfl, (onlyMoves_of_same pollSent_loop pollSent_command).awake s hs⟩
  | lagEnd => exact ⟨_, rfl, (onlyMoves_of_same lagEnd_loop lagEnd_command).awake s hs⟩
  | characterReceived signal => exact ⟨_, rfl, (characterReceived_moves signal).awake s hs⟩
  | responseTimeout => exact ⟨_, rfl, responseTimeout_moves.awake s hs⟩
  | gapFault => exact ⟨_, rfl, gapFault_moves.awake s hs⟩
  | trailingWatchEnd b => exact ⟨_, rfl, (trailingWatchEnd_moves b).awake s hs⟩
  | abandonmentComplete =>
    exact ⟨_, rfl, (onlyMoves_of_same finishAbandonment_loop finishAbandonment_command).awake s hs⟩
  | loopFrameReceived signal how => exact ⟨_, rfl, (loopHeard_moves signal how).awake s hs⟩
  | loopOutFrameSent => exact ⟨_, rfl, frameSent_moves.awake s hs⟩
  | loopOutHandover => exact ⟨_, rfl, handOver_moves.awake s hs⟩

theorem idle_moves : OnlyMoves idle := by
  intro q s hs
  unfold idle
  split
  · exact hs
  · split
    · exact carryCurrent_moves s hs
    · exact secondTick_moves s hs

theorem step_moves {s t : State} (h : step s = .next t) : Moves (queuesOf s) (queuesOf t) := by
  unfold step at h
  split at h
  · cases h
    exact idle_moves s .refl
  · next c rest _ =>
    obtain ⟨u, hu, hmoves⟩ := exec_moves c (q := queuesOf s) { s with pending := rest } .refl
    cases hu.symm.trans h
    exact hmoves

/-! ## The bounds -/

/-- `State.queuesBounded`, which speaks of the queues only. -/
def Queues.Bounded (q : Queues) : Prop :=
  q.repeats.length ≤ 4 ∧ q.inserts.length ≤ 16 ∧ q.waiting.length ≤ 4 ∧ q.run ≤ 4

/-- `State.reportsBounded`, in the same way. -/
def Queues.ReportsBounded (q : Queues) : Prop := (q.inserts.filter InsertEntry.isReport).length ≤ 13

theorem queuesBounded_iff (s : State) : s.queuesBounded ↔ (queuesOf s).Bounded := Iff.rfl

theorem reportsBounded_iff (s : State) : s.reportsBounded ↔ (queuesOf s).ReportsBounded := Iff.rfl

theorem length_append_one_le {α : Type} {l : List α} {n : Nat} (h : l.length < n) (a : α) :
    (l ++ [a]).length ≤ n := by
  rw [List.length_append, List.length_singleton]
  exact h

theorem length_drop_le {α : Type} {l : List α} {n : Nat} (h : l.length ≤ n) (i : Nat) :
    (l.drop i).length ≤ n := Nat.le_trans (List.drop_sublist i l).length_le h

theorem Queues.Bounded.move {q r : Queues} (h : q.Bounded) (hm : Move q r) : r.Bounded := by
  obtain ⟨hrep, hins, hwait, hrun⟩ := h
  cases hm with
  | reply e hroom _ => exact ⟨hrep, length_append_one_le hroom e, hwait, hrun⟩
  | report e hroom => exact ⟨hrep, length_append_one_le (by omega) e, hwait, hrun⟩
  | repeated f hroom => exact ⟨length_append_one_le hroom f, hins, hwait, hrun⟩
  | waits c hroom => exact ⟨hrep, hins, length_append_one_le hroom c, hrun⟩
  | leave i j k => exact ⟨length_drop_le hrep i, length_drop_le hins j, length_drop_le hwait k, hrun⟩
  | handedOver n hn => exact ⟨hrep, hins, hwait, hn⟩
  | cleared => exact ⟨Nat.zero_le 4, Nat.zero_le 16, Nat.zero_le 4, Nat.zero_le 4⟩

/-- A NOTICE or REPLY takes no place of a report, and a report finds at most 12 frames of any kind. -/
theorem Queues.ReportsBounded.move {q r : Queues} (h : q.ReportsBounded) (hm : Move q r) :
    r.ReportsBounded := by
  unfold Queues.ReportsBounded at *
  cases hm with
  | reply e _ he =>
    rw [List.filter_append, List.filter_cons_of_neg (Bool.eq_false_iff.1 he), List.filter_nil,
      List.append_nil]
    exact h
  | report e hroom =>
    exact Nat.le_trans (List.length_filter_le _ _) (length_append_one_le (Nat.lt_succ_of_le hroom) e)
  | leave i j k =>
    exact Nat.le_trans ((List.drop_sublist j q.inserts).filter InsertEntry.isReport).length_le h
  | cleared => exact Nat.zero_le 13
  | repeated f _ => exact h
  | waits c _ => exact h
  | handedOver n _ => exact h

theorem Queues.Bounded.moves {q r : Queues} (h : q.Bounded) (hm : Moves q r) : r.Bounded := by
  induction hm with
  | refl => exact h
  | tail _ hmove ih => exact ih.move hmove

theorem Queues.ReportsBounded.moves {q r : Queues} (h : q.ReportsBounded) (hm : Moves q r) :
    r.ReportsBounded := by
  induction hm with
  | refl => exact h
  | tail _ hmove ih => exact ih.move hmove

/-- Settles O5: every step changes the queues by moves only, and each move keeps both bounds. -/
theorem queueBoundsKept : Obligations.QueueBoundsKept :=
  ⟨fun s t hs hstep => (queuesBounded_iff t).2 (((queuesBounded_iff s).1 hs).moves (step_moves hstep)),
    fun s t hs hstep =>
      (reportsBounded_iff t).2 (((reportsBounded_iff s).1 hs).moves (step_moves hstep))⟩

end Sys2Proof.Machine.LoopQueues
end

section
/-! Frames on the plant loop: the characters of a frame read back (R152, R153, R182), and how loop-in takes
characters and levels, in one row or in parts (R152, R165). -/

namespace Sys2Proof.Machine.LoopFrames

/-! ## The characters of a frame (R153, R182, R185) -/

/-- The characters that the check covers: the header and the payload. -/
def covered (f : LoopFrame) : List Byte :=
  [f.dest, f.source, f.kind, byte f.payload.length,
    byte (f.hops + 32 * f.eda.toNat + 64 * f.edh.toNat)] ++ f.payload

theorem chars_eq (f : LoopFrame) : f.chars = covered f ++ crcBytes (covered f) := rfl

theorem covered_length (f : LoopFrame) : (covered f).length = f.payload.length + 5 := by
  simp [covered]

theorem chars_length (f : LoopFrame) : f.chars.length = f.payload.length + 7 := by
  simp [chars_eq, covered_length, crcBytes]

theorem byte_toNat {n : Nat} (h : n < 256) : (byte n).toNat = n := by
  simp [byte, Nat.mod_eq_of_lt h]

/-- The length field is the payload's length. -/
theorem length_field {f : LoopFrame} (h : f.payload.length ≤ 120) :
    (byteAt f.chars 3).toNat = f.payload.length :=
  byte_toNat (by omega)

theorem frameEnd_chars {f : LoopFrame} (h : f.payload.length ≤ 120) :
    frameEnd f.chars = f.payload.length + 7 := by
  rw [frameEnd, length_field h, if_pos (show _ ≤ Config.maxLoopPayload from h)]
  rfl

/-- The loop status holds the marks and the hop count apart. -/
theorem status_fields {hops : Nat} (h : hops ≤ 31) (eda edh : Bool) :
    (byte (hops + 32 * eda.toNat + 64 * edh.toNat)).getLsbD 6 = edh ∧
      (byte (hops + 32 * eda.toNat + 64 * edh.toNat)).getLsbD 5 = eda ∧
      (byte (hops + 32 * eda.toNat + 64 * edh.toNat) &&& 0x1F#8).toNat = hops := by
  have hall : ∀ (k : Fin 32) (eda edh : Bool),
      (byte (k + 32 * eda.toNat + 64 * edh.toNat)).getLsbD 6 = edh ∧
        (byte (k + 32 * eda.toNat + 64 * edh.toNat)).getLsbD 5 = eda ∧
        (byte (k + 32 * eda.toNat + 64 * edh.toNat) &&& 0x1F#8).toNat = k := by decide
  exact hall ⟨hops, by omega⟩ eda edh

theorem frameChars_chars {f : LoopFrame} (h : f.payload.length ≤ 120) :
    frameChars f.chars = f.chars := by
  have hlen := chars_length f
  rw [frameChars, if_neg (by omega), frameEnd_chars h, ← hlen, List.take_length]

theorem isWhole_chars (f : LoopFrame) : isWhole f.chars = true := by
  simp [isWhole, chars_length, Config.minLoopFrame]

/-- The check of a frame that was sent fails only by a framing fault. -/
theorem checkFails_chars (f : LoopFrame) (framing : Bool) : checkFails f.chars framing = framing := by
  have hcut : f.chars.length - 2 = (covered f).length := by rw [chars_length, covered_length]; omega
  rw [checkFails, hcut, chars_eq, List.drop_left, List.take_left]
  simp

theorem isBad_chars {f : LoopFrame} (h : f.payload.length ≤ 120) (framing : Bool) :
    isBad f.chars framing = framing := by
  have hend : ¬f.chars.length < frameEnd f.chars := by rw [frameEnd_chars h, chars_length]; omega
  have hlen : ¬Config.maxLoopPayload < (byteAt f.chars 3).toNat := by
    rw [length_field h]
    exact Nat.not_lt.2 h
  simp only [isBad, checkFails_chars, hend, hlen, decide_false, Bool.or_false]

theorem receivedFrame_chars {f : LoopFrame} (h : f.payload.length ≤ 120) (hhops : f.hops ≤ 31) :
    receivedFrame f.chars = f := by
  obtain ⟨hedh, heda, hhop⟩ := status_fields hhops f.eda f.edh
  have hpay : ((f.chars.drop 5).take (f.chars.length - 7)).take Config.maxLoopPayload = f.payload := by
    rw [chars_length, Nat.add_sub_cancel]
    show ((f.payload ++ crcBytes (covered f)).take f.payload.length).take 120 = f.payload
    rw [List.take_left, List.take_of_length_le h]
  show LoopFrame.mk f.dest f.source f.kind _ _ _ _ = f
  rw [hpay]
  congr 1

/-- Settles O12: the length field gives the frame's end, the CRC is the one sent, and the status byte keeps the
marks and the hop count apart. -/
theorem loopFrameRoundTrip : Obligations.LoopFrameRoundTrip := fun f h hhops =>
  ⟨frameChars_chars h, isWhole_chars f, isBad_chars h false, receivedFrame_chars h hhops⟩

/-- What becomes of a frame that was sent: our own is removed, one with a framing fault is bad, and every other
is good (R154). -/
theorem frameReceived_chars {f : LoopFrame} (h : f.payload.length ≤ 120) (hhops : f.hops ≤ 31)
    (framing : Bool) (s : State) :
    frameReceived f.chars framing s =
      if s.loop.names f.source then s
      else if framing then badFrame f s else goodFrame f.moveMarks s := by
  simp only [frameReceived, frameChars_chars h, isWhole_chars, if_true, receivedFrame_chars h hhops,
    isBad_chars h]

theorem names_iff (p : LoopPort) (b : Byte) : p.names b = true ↔ b.toNat = p.station := by
  simp [LoopPort.names]

theorem names_eq_false {p : LoopPort} {b : Byte} (h : b.toNat ≠ p.station) : p.names b = false := by
  simpa [LoopPort.names] using h

/-! ## When a frame ends (R152) -/

theorem byteAt_append_left {l : List Byte} {i : Nat} (h : i < l.length) (m : List Byte) :
    byteAt (l ++ m) i = byteAt l i := by
  simp [byteAt, List.getElem?_append_left h]

/-- A frame that has ended by its character count stays ended. -/
theorem frameEnded_append {l : List Byte} (h : frameEnded l = true) (m : List Byte) :
    frameEnded (l ++ m) = true := by
  simp only [frameEnded, Bool.and_eq_true, decide_eq_true_eq, List.length_append] at *
  obtain ⟨hfour, hend⟩ := h
  have hsame : frameEnd (l ++ m) = frameEnd l := by
    simp only [frameEnd, byteAt_append_left (show 3 < l.length by omega)]
  omega

theorem minLoopFrame_le_frameEnd (l : List Byte) : 7 ≤ frameEnd l := by
  unfold frameEnd Config.minLoopFrame Config.maxLoopFrame
  split <;> omega

/-- A frame is not over before its seventh character. -/
theorem frameEnded_of_short {l : List Byte} (h : l.length < 7) : frameEnded l = false := by
  have := minLoopFrame_le_frameEnd l
  simp only [frameEnded, Bool.and_eq_false_iff, decide_eq_false_iff_not]
  omega

theorem frameEnded_chars {f : LoopFrame} (h : f.payload.length ≤ 120) : frameEnded f.chars = true := by
  simp only [frameEnded, Bool.and_eq_true, decide_eq_true_eq, frameEnd_chars h, chars_length]
  omega

theorem chars_ne_nil (f : LoopFrame) : f.chars ≠ [] := nofun

theorem dropLast_chars_ne_nil (f : LoopFrame) : f.chars.dropLast ≠ [] :=
  List.ne_nil_of_length_pos (by rw [List.length_dropLast, chars_length]; omega)

/-- The frame is over at its last character and not before. -/
theorem frameEnded_dropLast {f : LoopFrame} (h : f.payload.length ≤ 120) :
    frameEnded f.chars.dropLast = false := by
  have hlen : f.chars.dropLast.length = f.payload.length + 6 := by
    rw [List.length_dropLast, chars_length]; omega
  have hbyte : byteAt f.chars.dropLast 3 = byteAt f.chars 3 := by
    have hsplit := List.dropLast_concat_getLast (chars_ne_nil f)
    exact (byteAt_append_left (by omega) _).symm.trans (congrArg (byteAt · 3) hsplit)
  have hend : frameEnd f.chars.dropLast = f.payload.length + 7 := by
    rw [← frameEnd_chars h]
    simp only [frameEnd, hbyte]
  simp only [frameEnded, Bool.and_eq_false_iff, decide_eq_false_iff_not]
  omega

/-! ## Characters on loop-in (R152) -/

theorem take_append (framing : Bool) (l m : List Byte) (p : LoopIn) :
    LoopIn.take framing (l ++ m) p =
      ((LoopIn.take framing m (LoopIn.take framing l p).1).1,
        (LoopIn.take framing l p).2 ++ (LoopIn.take framing m (LoopIn.take framing l p).1).2) := by
  induction l generalizing p with
  | nil => rfl
  | cons b l ih => simp only [List.cons_append, LoopIn.take, ih, List.append_assoc]

/-- The wait for idle line discards characters. -/
theorem take_waiting (framing : Bool) (l : List Byte) :
    LoopIn.take framing l .waiting = (.waiting, []) := by
  induction l with
  | nil => rfl
  | cons b l ih => simp only [LoopIn.take, LoopIn.char, ih, List.append_nil]

theorem join_of_not_ended {l : List Byte} (h : frameEnded l = false) (framing : Bool) :
    LoopIn.join l framing = (.frame l framing, []) := by
  simp [LoopIn.join, h]

theorem join_of_ended {l : List Byte} (h : frameEnded l = true) (framing : Bool) :
    LoopIn.join l framing = (.waiting, [(l, framing)]) := by
  simp [LoopIn.join, h]

/-- Characters that do not end the frame in reception join it. -/
theorem take_frame {framing : Bool} {l m : List Byte} (h : frameEnded (l ++ m) = false) :
    LoopIn.take framing m (.frame l framing) = (.frame (l ++ m) framing, []) := by
  induction m generalizing l with
  | nil => simp [LoopIn.take]
  | cons b m ih =>
    have hassoc : l ++ b :: m = (l ++ [b]) ++ m := by simp
    rw [hassoc] at h ⊢
    have hb : frameEnded (l ++ [b]) = false :=
      Bool.eq_false_iff.2 fun hb => Bool.eq_false_iff.1 h (frameEnded_append hb m)
    simp only [LoopIn.take, LoopIn.char, Bool.or_self, join_of_not_ended hb, ih h, List.append_nil]

/-- Characters that do not end a frame begin one. -/
theorem take_ready {framing : Bool} {l : List Byte} (hne : l ≠ []) (h : frameEnded l = false) :
    LoopIn.take framing l .ready = (.frame l framing, []) := by
  obtain ⟨b, m, rfl⟩ := List.exists_cons_of_ne_nil hne
  have hb : frameEnded [b] = false := frameEnded_of_short (by simp)
  have hm : frameEnded ([b] ++ m) = false := h
  simp only [LoopIn.take, LoopIn.char, join_of_not_ended hb, take_frame hm]
  rfl

/-- The characters of a frame that was sent are one frame. -/
theorem take_chars {f : LoopFrame} (h : f.payload.length ≤ 120) (framing : Bool) :
    LoopIn.take framing f.chars .ready = (.waiting, [(f.chars, framing)]) := by
  have hsplit := List.dropLast_concat_getLast (chars_ne_nil f)
  have hended := frameEnded_chars h
  conv => lhs; rw [← hsplit]
  rw [take_append, take_ready (dropLast_chars_ne_nil f) (frameEnded_dropLast h)]
  simp only [LoopIn.take, LoopIn.char, Bool.or_self, hsplit, join_of_ended hended]
  rfl

theorem idle_of_no_frame {p : LoopIn} (h : ∀ chars framing, p ≠ .frame chars framing) :
    p.idle = (.ready, []) := by
  cases p with
  | waiting => rfl
  | ready => rfl
  | frame chars framing => exact absurd rfl (h chars framing)

/-! ## What a row of loop-in does -/

/-- The machine with another condition and receiver of loop-in. -/
def withEar (i : LoopIn) (r : LoopRx) (s : State) : State :=
  { s with loop := { s.loop with loopIn := i, loopRx := r } }

/-- The frames handled one after the other. -/
def handleAll (frames : List (List Byte × Bool)) (s : State) : State :=
  frames.foldl (fun t f => frameReceived f.1 f.2 t) s

theorem handleAll_append (l m : List (List Byte × Bool)) (s : State) :
    handleAll (l ++ m) s = handleAll m (handleAll l s) := List.foldl_append

theorem loopHeard_chars (chars : List Byte) (framing : Bool) (how : LoopArrival) (s : State) :
    loopHeard (.chars chars framing) how s =
      handleAll (s.loop.loopIn.hear chars framing how).2
        (withEar (s.loop.loopIn.hear chars framing how).1 (s.loop.loopRx.afterChars chars how) s) := rfl

/-- Characters between idle line, with no frame in reception before them. -/
theorem hear_whole {p : LoopIn} (h : ∀ chars framing, p ≠ .frame chars framing) (chars : List Byte)
    (framing : Bool) :
    p.hear chars framing .whole =
      ((LoopIn.take framing chars .ready).1.idle.1,
        (LoopIn.take framing chars .ready).2 ++ (LoopIn.take framing chars .ready).1.idle.2) := by
  simp [LoopIn.hear, LoopArrival.whole, idle_of_no_frame h]

theorem exec_loopFrame {s : State} (h : s.resetHeld = false) (signal : LoopSignal) (how : LoopArrival) :
    exec (.loopFrameReceived signal how) s = .next (loopHeard signal how s) :=
  congrArg Host.Outcome.next (awake_of_high h _)

theorem exec_loopFrame_withEar {s : State} (h : s.resetHeld = false) (i : LoopIn) (r : LoopRx)
    (signal : LoopSignal) (how : LoopArrival) :
    exec (.loopFrameReceived signal how) (withEar i r s) =
      .next (loopHeard signal how (withEar i r s)) := exec_loopFrame (s := withEar i r s) h signal how

/-- The characters of a frame that was sent, between idle line and with no frame in reception: that frame is
handled, and loop-in is ready for the next. -/
theorem exec_chars {s : State} (hr : s.resetHeld = false)
    (hp : ∀ chars framing, s.loop.loopIn ≠ .frame chars framing) {f : LoopFrame}
    (h : f.payload.length ≤ 120) (framing : Bool) :
    exec (.loopFrameReceived (.chars f.chars framing) .whole) s =
      .next (frameReceived f.chars framing (withEar .ready (.hunting 23) s)) := by
  rw [exec_loopFrame hr, loopHeard_chars, hear_whole hp, take_chars h]
  rfl

/-- A fragment between idle line. -/
theorem exec_fragment {s : State} (hr : s.resetHeld = false)
    (hp : ∀ chars framing, s.loop.loopIn ≠ .frame chars framing) {l : List Byte} (hne : l ≠ [])
    (hl : l.length < 7) (framing : Bool) :
    exec (.loopFrameReceived (.chars l framing) .whole) s =
      .next (fragment l (withEar .ready (.hunting 23) s)) := by
  have hend := minLoopFrame_le_frameEnd l
  have hchars : frameChars l = l := by
    unfold frameChars
    split
    · rfl
    · exact List.take_of_length_le (by omega)
  have hwhole : isWhole l = false := decide_eq_false (Nat.not_le.2 hl)
  rw [exec_loopFrame hr, loopHeard_chars, hear_whole hp, take_ready hne (frameEnded_of_short hl)]
  show Host.Outcome.next (frameReceived l framing _) = _
  simp only [frameReceived, hchars, hwhole, Bool.false_eq_true, if_false]
  rfl

/-! ## A frame in parts: handling a frame does not look at loop-in -/

theorem notify_withEar (i : LoopIn) (r : LoopRx) (e : Raise) (s : State) :
    (withEar i r s).loop.notify s.events e =
      { s.loop.notify s.events e with loopIn := i, loopRx := r } := by
  unfold LoopPort.notify LoopPort.offer
  simp only [apply_ite (fun p : LoopPort => { p with loopIn := i, loopRx := r })]
  rfl

theorem raise_withEar (i : LoopIn) (r : LoopRx) (e : Raise) (s : State) :
    raise e (withEar i r s) = withEar i r (raise e s) :=
  congrArg (fun p : LoopPort => { s with events := s.events.latch e, loop := p })
    (notify_withEar i r e s)

theorem repeatFrame_withEar (i : LoopIn) (r : LoopRx) (f : LoopFrame) (s : State) :
    repeatFrame f (withEar i r s) = withEar i r (repeatFrame f s) := by
  unfold repeatFrame
  rw [apply_ite (withEar i r), apply_ite (withEar i r), raise_withEar]
  rfl

theorem arrive_withEar (i : LoopIn) (r : LoopRx) (c : LoopCommand) (s : State) :
    arrive c (withEar i r s) = withEar i r (arrive c s) := by
  unfold arrive
  rw [apply_ite (withEar i r), apply_ite (withEar i r), raise_withEar]
  rfl

theorem takeFrame_withEar (i : LoopIn) (r : LoopRx) (f : LoopFrame) (s : State) :
    takeFrame f (withEar i r s) = withEar i r (takeFrame f s) := by
  unfold takeFrame
  simp only [apply_ite (withEar i r), raise_withEar, arrive_withEar]
  rfl

theorem goodFrame_withEar (i : LoopIn) (r : LoopRx) (f : LoopFrame) (s : State) :
    goodFrame f (withEar i r s) = withEar i r (goodFrame f s) := by
  unfold goodFrame
  simp only [apply_ite (withEar i r), repeatFrame_withEar, takeFrame_withEar]
  rfl

theorem badFrame_withEar (i : LoopIn) (r : LoopRx) (f : LoopFrame) (s : State) :
    badFrame f (withEar i r s) = withEar i r (badFrame f s) := by
  unfold badFrame
  simp only [apply_ite (withEar i r), repeatFrame_withEar, raise_withEar]
  rfl

theorem fragment_withEar (i : LoopIn) (r : LoopRx) (chars : List Byte) (s : State) :
    fragment chars (withEar i r s) = withEar i r (fragment chars s) := by
  cases chars with
  | nil => rfl
  | cons d rest =>
    unfold fragment
    simp only [apply_ite (withEar i r), raise_withEar]
    rfl

theorem frameReceived_withEar (i : LoopIn) (r : LoopRx) (chars : List Byte) (framing : Bool) (s : State) :
    frameReceived chars framing (withEar i r s) = withEar i r (frameReceived chars framing s) := by
  unfold frameReceived
  simp only [apply_ite (withEar i r), goodFrame_withEar, badFrame_withEar, fragment_withEar]
  rfl

theorem handleAll_withEar (i : LoopIn) (r : LoopRx) (frames : List (List Byte × Bool)) (s : State) :
    handleAll frames (withEar i r s) = withEar i r (handleAll frames s) := by
  induction frames generalizing s with
  | nil => rfl
  | cons f rest ih =>
    show handleAll rest (frameReceived f.1 f.2 (withEar i r s)) = _
    rw [frameReceived_withEar, ih]
    rfl

theorem handleAll_resetHeld (frames : List (List Byte × Bool)) (s : State) :
    (handleAll frames s).resetHeld = s.resetHeld := by
  induction frames generalizing s with
  | nil => rfl
  | cons f rest ih => exact (ih _).trans (frameReceived_resetHeld f.1 f.2 s)

/-- The wait for idle line: characters with none after them are discarded. -/
theorem exec_waiting {s : State} (hr : s.resetHeld = false) {chars : List Byte} (hne : chars ≠ [])
    (framing : Bool) (idle : Nat) :
    exec (.loopFrameReceived (.chars chars framing) { idleBefore := false, idleAfter := false })
        (withEar .waiting (.hunting idle) s) =
      .next (withEar .waiting (.hunting 0) s) := by
  have hrx : LoopRx.afterChars chars { idleBefore := false, idleAfter := false } (.hunting idle) =
      .hunting 0 := by simp [LoopRx.afterChars, hne]
  have hhear : LoopIn.hear chars framing { idleBefore := false, idleAfter := false } .waiting =
      (.waiting, []) := by simp [LoopIn.hear, take_waiting]
  rw [exec_loopFrame_withEar hr, loopHeard_chars]
  show Host.Outcome.next (handleAll (LoopIn.hear _ _ _ .waiting).2
    (withEar (LoopIn.hear _ _ _ .waiting).1 (LoopRx.afterChars _ _ (.hunting idle)) _)) = _
  rw [hhear, hrx]
  rfl

/-- A frame, or several, may come in two rows: what has ended in the first is handled there. -/
theorem exec_parts {s : State} (hr : s.resetHeld = false)
    (hp : ∀ chars framing, s.loop.loopIn ≠ .frame chars framing) {first : List Byte} (hne : first ≠ [])
    (second : List Byte) (framing : Bool) :
    ∃ t,
      exec (.loopFrameReceived (.chars first framing) { idleBefore := true, idleAfter := false }) s =
          .next t ∧
        exec (.loopFrameReceived (.chars second framing) { idleBefore := false, idleAfter := true }) t =
          exec (.loopFrameReceived (.chars (first ++ second) framing) .whole) s := by
  let heard := LoopIn.take framing first .ready
  have hhear : s.loop.loopIn.hear first framing { idleBefore := true, idleAfter := false } = heard := by
    simp [LoopIn.hear, idle_of_no_frame hp, heard]
  have hrx : s.loop.loopRx.afterChars first { idleBefore := true, idleAfter := false } = .hunting 0 := by
    simp [LoopRx.afterChars, hne]
  have hfirst : loopHeard (.chars first framing) { idleBefore := true, idleAfter := false } s =
      withEar heard.1 (.hunting 0) (handleAll heard.2 s) := by
    rw [loopHeard_chars, hhear, hrx, handleAll_withEar]
  refine ⟨_, exec_loopFrame hr _ _, ?_⟩
  have hr' : (handleAll heard.2 s).resetHeld = false := (handleAll_resetHeld _ s).trans hr
  rw [hfirst, exec_loopFrame hr, loopHeard_chars, hear_whole hp, take_append,
    exec_loopFrame_withEar hr', loopHeard_chars]
  have hsecond (p : LoopIn) : p.hear second framing { idleBefore := false, idleAfter := true } =
      ((LoopIn.take framing second p).1.idle.1,
        (LoopIn.take framing second p).2 ++ (LoopIn.take framing second p).1.idle.2) := by
    simp [LoopIn.hear]
  simp only [hsecond, handleAll_append, handleAll_withEar]
  rfl

/-! ## Levels on loop-in (R152) -/

/-- The port with another condition and receiver of loop-in. -/
def ear (p : LoopPort) (i : LoopIn) (r : LoopRx) : LoopPort := { p with loopIn := i, loopRx := r }

theorem hearBits_append (l m : List Bool) (p : LoopPort) :
    p.hearBits (l ++ m) =
      (((p.hearBits l).1.hearBits m).1, (p.hearBits l).2 ++ ((p.hearBits l).1.hearBits m).2) := by
  induction l generalizing p with
  | nil => rfl
  | cons level l ih => simp only [List.cons_append, LoopPort.hearBits, ih, List.append_assoc]

/-- The levels of a character, with either level of its stop bit. -/
def drawn (stop : Bool) (b : Byte) : List Bool := [false] ++ (List.range 8).map b.getLsbD ++ [stop]

theorem bitsToByte_levels (b : Byte) : bitsToByte ((List.range 8).map b.getLsbD) = b := by
  have hall : ∀ b : Byte, bitsToByte ((List.range 8).map b.getLsbD) = b := by decide +kernel
  exact hall b

/-- Data bits are gathered. -/
theorem hearBits_data (p : LoopPort) (i : LoopIn) (l m : List Bool) (h : l.length + m.length ≤ 8) :
    (ear p i (.character l)).hearBits m = (ear p i (.character (l ++ m)), []) := by
  induction m generalizing l with
  | nil => simp [LoopPort.hearBits]
  | cons level m ih =>
    rw [List.length_cons] at h
    have hbit : (ear p i (.character l)).hearBit level = (ear p i (.character (l ++ [level])), []) := by
      simp [LoopPort.hearBit, ear, LoopRx.step, show l.length < 8 by omega]
    rw [LoopPort.hearBits, hbit, ih (l ++ [level]) (by simp; omega)]
    simp

/-- What the receiver does after a stop bit. -/
def afterStopBit (stop : Bool) : LoopRx := if stop then .hunting 0 else .broken

theorem hearBits_stop (p : LoopPort) (i : LoopIn) (b : Byte) (stop : Bool) :
    (ear p i (.character ((List.range 8).map b.getLsbD))).hearBits [stop] =
      (ear p (i.char (!stop) b).1 (afterStopBit stop), (i.char (!stop) b).2) := by
  simp only [LoopPort.hearBits, LoopPort.hearBit, ear, LoopRx.step, List.length_map, List.length_range,
    Nat.lt_irrefl, if_false, bitsToByte_levels, List.append_nil]
  rfl

/-- The levels of a character are that character, with a framing fault where the stop bit is active. -/
theorem hearBits_drawn (p : LoopPort) (i : LoopIn) (idle : Nat) (b : Byte) (stop : Bool) :
    (ear p i (.hunting idle)).hearBits (drawn stop b) =
      (ear p (i.char (!stop) b).1 (afterStopBit stop), (i.char (!stop) b).2) := by
  have hstart : (ear p i (.hunting idle)).hearBits [false] = (ear p i (.character []), []) := rfl
  rw [drawn, hearBits_append, hearBits_append, hstart]
  dsimp only
  rw [hearBits_data p i [] _ (by simp), List.nil_append, hearBits_stop]
  rfl

/-- The levels of characters without framing faults are those characters. -/
theorem hearBits_chars (p : LoopPort) (i : LoopIn) (idle : Nat) (l : List Byte) :
    ∃ idle', (ear p i (.hunting idle)).hearBits (l.flatMap (drawn true)) =
      (ear p (LoopIn.take false l i).1 (.hunting idle'), (LoopIn.take false l i).2) := by
  induction l generalizing i idle with
  | nil => exact ⟨idle, rfl⟩
  | cons b l ih =>
    obtain ⟨idle', h⟩ := ih (i.char false b).1 0
    refine ⟨idle', ?_⟩
    rw [List.flatMap_cons, hearBits_append, hearBits_drawn]
    simp only [afterStopBit, if_true, Bool.not_true, h]
    rfl

/-! ## Idle line on loop-in (R152) -/

@[simp] theorem idle_fst (i : LoopIn) : i.idle.1 = .ready := by cases i <;> rfl

theorem hearBit_hunting (p : LoopPort) (i : LoopIn) {k : Nat} (h : k < 22) :
    (ear p i (.hunting k)).hearBit true = (ear p i (.hunting (k + 1)), []) := by
  simp [LoopPort.hearBit, ear, LoopRx.step, Config.loopIdleBits, show k + 1 < 23 by omega]

theorem hearBit_hunted (p : LoopPort) (i : LoopIn) {k : Nat} (h : 22 ≤ k) :
    (ear p i (.hunting k)).hearBit true = (ear p .ready (.hunting 23), i.idle.2) := by
  simp [LoopPort.hearBit, ear, LoopRx.step, Config.loopIdleBits, show ¬k + 1 < 23 by omega]

/-- Idle line of up to 2 character times changes nothing but its count. -/
theorem hearBits_short_idle (p : LoopPort) (i : LoopIn) (k n : Nat) (h : k + n ≤ 22) :
    (ear p i (.hunting k)).hearBits (List.replicate n true) = (ear p i (.hunting (k + n)), []) := by
  induction n generalizing k with
  | zero => rfl
  | succ n ih =>
    rw [List.replicate_succ, LoopPort.hearBits, hearBit_hunting p i (by omega), ih (k + 1) (by omega)]
    simp [Nat.add_assoc, Nat.add_comm 1]

theorem hearBits_ready (p : LoopPort) (n : Nat) :
    (ear p .ready (.hunting 23)).hearBits (List.replicate n true) = (ear p .ready (.hunting 23), []) := by
  induction n with
  | zero => rfl
  | succ n ih =>
    rw [List.replicate_succ, LoopPort.hearBits, hearBit_hunted p .ready (by omega), ih]
    rfl

/-- More than 2 character times of idle line are heard as such. -/
theorem hearBits_idle (p : LoopPort) (i : LoopIn) (k n : Nat) (hn : 0 < n) (h : 23 ≤ k + n) :
    (ear p i (.hunting k)).hearBits (List.replicate n true) =
      (ear p .ready (.hunting 23), i.idle.2) := by
  induction n generalizing k with
  | zero => omega
  | succ n ih =>
    rw [List.replicate_succ, LoopPort.hearBits]
    rcases Nat.lt_or_ge k 22 with hk | hk
    · rw [hearBit_hunting p i hk, ih (k + 1) (by omega) (by omega)]
      rfl
    · rw [hearBit_hunted p i hk, hearBits_ready]
      simp

/-- After a framing fault the first bit time at the idle level ends the wait and counts. -/
theorem hearBits_idle_afterStopBit (p : LoopPort) (i : LoopIn) (stop : Bool) :
    (ear p i (afterStopBit stop)).hearBits (List.replicate 23 true) =
      (ear p .ready (.hunting 23), i.idle.2) := by
  cases stop with
  | true => exact hearBits_idle p i 0 23 (by omega) (by omega)
  | false =>
    have hback : (ear p i (afterStopBit false)).hearBit true = (ear p i (.hunting 1), []) := rfl
    rw [List.replicate_succ, LoopPort.hearBits, hback, hearBits_idle p i 1 22 (by omega) (by omega)]
    rfl

/-! ## The levels of a frame -/

/-- The levels of a frame whose last stop bit may be active. -/
def frameLevels (f : LoopFrame) (framing : Bool) : List Bool :=
  f.chars.dropLast.flatMap (drawn true) ++ drawn (!framing) (f.chars.getLastD 0#8)

/-- The levels of a frame are its characters. -/
theorem hearBits_frameLevels {f : LoopFrame} (h : f.payload.length ≤ 120) (p : LoopPort) (idle : Nat)
    (framing : Bool) :
    (ear p .ready (.hunting idle)).hearBits (frameLevels f framing) =
      (ear p .waiting (afterStopBit (!framing)), [(f.chars, framing)]) := by
  obtain ⟨idle', hchars⟩ := hearBits_chars p .ready idle f.chars.dropLast
  have hlast : f.chars.getLastD 0#8 = f.chars.getLast (chars_ne_nil f) := by
    rw [List.getLastD_eq_getLast?, List.getLast?_eq_some_getLast (chars_ne_nil f)]
    rfl
  rw [frameLevels, hlast, hearBits_append, hchars,
    take_ready (dropLast_chars_ne_nil f) (frameEnded_dropLast h)]
  dsimp only
  rw [hearBits_drawn]
  simp only [LoopIn.char, Bool.not_not, Bool.false_or, List.dropLast_concat_getLast,
    join_of_ended (frameEnded_chars h), List.nil_append]

/-- The levels of a frame, with more than 2 character times of idle line on each side. -/
theorem hearBits_frame_between_idle {f : LoopFrame} (h : f.payload.length ≤ 120) {p : LoopPort}
    (hp : ∀ chars framing, p.loopIn ≠ .frame chars framing) {idle : Nat} (hrx : p.loopRx = .hunting idle)
    (framing : Bool) :
    p.hearBits (List.replicate 23 true ++ frameLevels f framing ++ List.replicate 23 true) =
      (ear p .ready (.hunting 23), [(f.chars, framing)]) := by
  have hear_eq : p = ear p p.loopIn (.hunting idle) := by rw [← hrx]; rfl
  rw [hearBits_append, hearBits_append]
  conv => lhs; rw [hear_eq, hearBits_idle p p.loopIn idle 23 (by omega) (by omega)]
  dsimp only
  rw [hearBits_frameLevels h, idle_of_no_frame hp]
  dsimp only
  rw [hearBits_idle_afterStopBit]
  rfl

/-- They are that frame's characters, with a framing fault where the last stop bit is active. -/
theorem exec_frameLevels {s : State} (hr : s.resetHeld = false)
    (hp : ∀ chars framing, s.loop.loopIn ≠ .frame chars framing) {idle : Nat}
    (hrx : s.loop.loopRx = .hunting idle) {f : LoopFrame} (h : f.payload.length ≤ 120)
    (framing : Bool) {levels : List Bool} {how : LoopArrival}
    (hlevels : idleLevels how.idleBefore ++ levels ++ idleLevels how.idleAfter =
      List.replicate 23 true ++ frameLevels f framing ++ List.replicate 23 true) :
    exec (.loopFrameReceived (.bits levels) how) s =
      exec (.loopFrameReceived (.chars f.chars framing) .whole) s := by
  have hhear : s.loop.hear (.bits levels) how =
      (ear s.loop .ready (.hunting 23), [(f.chars, framing)]) := by
    rw [← hearBits_frame_between_idle h hp hrx framing, ← hlevels]
    rfl
  rw [exec_chars hr hp h, exec_loopFrame hr, loopHeard, hhear]
  rfl

/-- In the wait for idle line, a character after less of it is discarded, and the wait begins again. -/
theorem exec_waiting_levels {s : State} (hr : s.resetHeld = false) (b : Byte) {idle : Nat}
    (h : idle ≤ 22) :
    exec (.loopFrameReceived (.bits (List.replicate idle true ++ drawn true b))
          { idleBefore := false, idleAfter := false })
        (withEar .waiting (.hunting 0) s) =
      .next (withEar .waiting (.hunting 0) s) := by
  have hbits : (ear s.loop .waiting (.hunting 0)).hearBits (List.replicate idle true ++ drawn true b) =
      (ear s.loop .waiting (.hunting 0), []) := by
    rw [hearBits_append, hearBits_short_idle _ _ 0 idle (by omega)]
    dsimp only
    rw [hearBits_drawn]
    rfl
  have hhear : (ear s.loop .waiting (.hunting 0)).hear (.bits (List.replicate idle true ++ drawn true b))
      { idleBefore := false, idleAfter := false } = (ear s.loop .waiting (.hunting 0), []) := by
    rw [← hbits]
    simp [LoopPort.hear, idleLevels]
  rw [exec_loopFrame_withEar hr]
  show Host.Outcome.next (handleAll (LoopPort.hear _ _ (ear s.loop _ _)).2
    { s with loop := (LoopPort.hear _ _ (ear s.loop _ _)).1 }) = _
  rw [hhear]
  rfl

/-! ## Frames that are not taken (R154, R155, R157) -/

theorem repeatFrame_of_room {f : LoopFrame} {s : State} (hf : f.hops < 31)
    (h : s.loop.repeatQueue.length < 4) :
    repeatFrame f s =
      { s with
        loop := { s.loop with repeatQueue := s.loop.repeatQueue ++ [{ f with hops := f.hops + 1 }] } } := by
  rcases repeatFrame_cases f s with ⟨_, _⟩ | ⟨-, -, heq⟩ | ⟨-, _, _⟩
  · omega
  · exact heq
  · omega

theorem repeatFrame_of_full {f : LoopFrame} {s : State} (hf : f.hops < 31)
    (h : 4 ≤ s.loop.repeatQueue.length) : repeatFrame f s = raise (.loopOverrun, none) s := by
  rcases repeatFrame_cases f s with ⟨_, _⟩ | ⟨-, _, _⟩ | ⟨-, -, heq⟩
  · omega
  · omega
  · exact heq

theorem repeatFrame_of_spent {f : LoopFrame} {s : State} (hf : f.hops = 31) : repeatFrame f s = s := by
  rcases repeatFrame_cases f s with ⟨-, heq⟩ | ⟨_, _, _⟩ | ⟨_, _, _⟩
  · exact heq
  · omega
  · omega

/-- A good frame to another station is repeated. -/
theorem goodFrame_elsewhere {f : LoopFrame} {s : State} (hs : f.dest.toNat ≠ s.loop.station)
    (hb : f.dest.toNat ≠ 31) : goodFrame f s = repeatFrame f s := by
  rw [goodFrame, names_eq_false hs]
  exact if_neg hb

/-- Settles O39: a row between idle line is the handling of one frame (`exec_chars`, `exec_fragment`), a row in
parts is the whole row (`exec_parts`), and levels are characters (`exec_frameLevels`). -/
theorem loopFramesRepeated : Obligations.LoopFramesRepeated := by
  intro s₀ f hr hp hlen hhops s whole hears other joined good bad waits bits
  have hwhole (framing : Bool) : hears framing = .next (frameReceived f.chars framing s) :=
    exec_chars hr hp hlen framing
  have hother (ho : other) (framing : Bool) :
      hears framing = .next (if framing then badFrame f s else goodFrame f.moveMarks s) := by
    rw [hwhole, frameReceived_chars hlen hhops, names_eq_false ho]
    rfl
  have hgood (ho : other) (hs : f.dest.toNat ≠ s.loop.station) (hb : f.dest.toNat ≠ 31) :
      hears false = .next (repeatFrame f.moveMarks s) := by
    rw [hother ho, ← goodFrame_elsewhere (f := f.moveMarks) hs hb]
    rfl
  refine ⟨fun ho hs hb hf hroom => ?_, fun ho hs hb hf hfull => ?_, fun ho hs hb hf => ?_,
    fun ho hs hf hroom => ?_, fun ho hs => ?_, fun ho framing => ?_, fun d rest framing hl => ?_,
    fun chars framing idle hne => exec_waiting hr hne framing idle,
    fun first second framing hne => exec_parts hr hp hne second framing,
    fun framing idle hrx => ?_, fun b idle hidle => exec_waiting_levels hr b hidle⟩
  · rw [hgood ho hs hb, repeatFrame_of_room (f := f.moveMarks) hf hroom]
    rfl
  · rw [hgood ho hs hb, repeatFrame_of_full (f := f.moveMarks) hf hfull]
  · rw [hgood ho hs hb, repeatFrame_of_spent (f := f.moveMarks) hf]
  · rw [hother ho, if_pos rfl, badFrame, names_eq_false hs]
    exact congrArg Host.Outcome.next (repeatFrame_of_room (f := f.markBad) hf hroom)
  · rw [hother ho, if_pos rfl, badFrame, (names_iff _ _).2 hs]
    rfl
  · rw [hwhole, frameReceived_chars hlen hhops, (names_iff _ _).2 ho]
    rfl
  · rw [show whole (d :: rest) framing = _ from
      exec_fragment hr hp (List.cons_ne_nil d rest) (by simp; omega) framing]
    simp only [fragment, names_iff]
    rfl
  · refine ⟨exec_frameLevels hr hp hrx hlen framing rfl, exec_frameLevels hr hp hrx hlen framing ?_⟩
    exact List.append_nil _

/-! ## COMMAND frames (R154, R156) -/

theorem takeFrame_command {f : LoopFrame} {s : State} (hk : f.kind = 0#8) (he : f.eda = false) :
    takeFrame f s = arrive { source := f.source, payload := f.payload } s := by
  simp [takeFrame, kindCommand, hk, he]

theorem takeFrame_damaged {f : LoopFrame} {s : State} (hk : f.kind = 0#8) (he : f.eda = true)
    (hs : f.dest.toNat = s.loop.station) : takeFrame f s = raise (.loopCheckError, none) s := by
  simp [takeFrame, kindCommand, hk, he, (names_iff _ _).2 hs]

theorem takeFrame_other {f : LoopFrame} {s : State} (hk : f.kind ≠ 0#8) : takeFrame f s = s :=
  if_neg hk

/-- A frame with clear marks has none to move. -/
theorem moveMarks_of_clear {f : LoopFrame} (hd : f.edh = false) (ha : f.eda = false) :
    f.moveMarks = f := by
  obtain ⟨dest, source, kind, edh, eda, hops, payload⟩ := f
  cases hd
  cases ha
  rfl

theorem goodFrame_here {f : LoopFrame} {s : State} (h : f.dest.toNat = s.loop.station) :
    goodFrame f s = takeFrame f s := by
  rw [goodFrame, (names_iff _ _).2 h]
  rfl

/-- A good frame to station 31 is repeated, and taken. -/
theorem goodFrame_broadcast {f : LoopFrame} {s : State} (hb : f.dest.toNat = 31)
    (hs : s.loop.station ≠ 31) : goodFrame f s = takeFrame f (repeatFrame f s) := by
  rw [goodFrame, names_eq_false (by omega)]
  exact if_pos hb

theorem arrive_first (c : LoopCommand) {s : State} (h : s.command.current = none) :
    arrive c s = { s with command := { s.command with current := some c } } := by
  simp [arrive, h]

theorem arrive_waits (c : LoopCommand) {s : State} (h : s.command.current ≠ none)
    (hw : s.command.waiting.length < 4) :
    arrive c s = { s with command := { s.command with waiting := s.command.waiting ++ [c] } } := by
  rcases arrive_cases c s with ⟨hnone, _⟩ | ⟨-, heq⟩ | ⟨_, _⟩
  · exact absurd hnone h
  · exact heq
  · omega

theorem arrive_lost (c : LoopCommand) {s : State} (h : s.command.current ≠ none)
    (hw : 4 ≤ s.command.waiting.length) : arrive c s = raise (.loopOverrun, none) s := by
  rcases arrive_cases c s with ⟨hnone, _⟩ | ⟨_, _⟩ | ⟨-, heq⟩
  · exact absurd hnone h
  · omega
  · exact heq

/-- Settles O40: a good frame to this station or to station 31 is taken, and a COMMAND with clear marks arrives. -/
theorem loopCommandsTaken : Obligations.LoopCommandsTaken := by
  intro s₀ f hr hp hlen hhops ho s hears c clear
  have hother : (withEar .ready (.hunting 23) s₀).loop.names f.source = false := names_eq_false ho
  have hgood : hears = .next (goodFrame f.moveMarks s) := by
    rw [show hears = _ from exec_chars hr hp hlen false, frameReceived_chars hlen hhops, hother]
    rfl
  have hclear (hc : clear) : hears = .next (goodFrame f s) := by
    rw [hgood, moveMarks_of_clear hc.2.1 hc.2.2]
  have hcommand (hs : f.dest.toNat = s.loop.station) (hc : clear) : hears = .next (arrive c s) := by
    rw [hclear hc, goodFrame_here hs, takeFrame_command hc.1 hc.2.2]
  refine ⟨fun hs hc hnone => ?_, fun hs hc hsome hroom => ?_, fun hs hc hsome hfull => ?_,
    fun hs hk hmark => ?_, fun hs hk => ?_, fun hb hs hc hnone hf hroom => ?_⟩
  · rw [hcommand hs hc, arrive_first c hnone]
  · rw [hcommand hs hc, arrive_waits c hsome hroom]
  · rw [hcommand hs hc, arrive_lost c hsome hfull]
  · have heda : f.moveMarks.eda = true := by simpa [LoopFrame.moveMarks] using hmark
    rw [hgood, goodFrame_here (f := f.moveMarks) hs,
      takeFrame_damaged (f := f.moveMarks) hk heda hs]
  · rw [hgood, goodFrame_here (f := f.moveMarks) hs, takeFrame_other (f := f.moveMarks) hk]
  · rw [hclear hc, goodFrame_broadcast hb hs, repeatFrame_of_room hf hroom,
      takeFrame_command hc.1 hc.2.2]
    exact congrArg Host.Outcome.next (arrive_first c hnone)

end Sys2Proof.Machine.LoopFrames
end

section
/-! The Event Unit's raises and ALARM (R175, R176), the RESET pin (R151, R174), loop-out (R159), and the end and the
turns of COMMANDs (R156, R158, R166). -/

namespace Sys2Proof.Machine.RaisesAndTurns

/-! ## Raises (R175, R176) -/

theorem latched_iff (u : EventUnit) (n : Nat) :
    u.latched n = true ↔ ∃ g, u.flags[n]? = some g ∧ g.set = true := by
  unfold EventUnit.latched
  cases u.flags[n]? <;> simp

/-- A raise on a set flag changes nothing (R175). -/
theorem raise_of_set {r : Raise} {s : State} {f : EventFlag}
    (hf : s.events.flags[r.1.number]? = some f) (hset : f.set = true) : raise r s = s := by
  have hlatch : s.events.latch r = s.events := by
    obtain ⟨hn, hget⟩ := List.getElem?_eq_some_iff.1 hf
    unfold EventUnit.latch
    rw [modify_of_getElem? _ hf, if_pos hset, ← hget, List.set_getElem_self]
  have hnotify : s.loop.notify s.events r = s.loop := by
    simp [LoopPort.notify, EventUnit.newlyLatches, (latched_iff _ _).2 ⟨f, hf, hset⟩]
  unfold raise
  rw [hlatch, hnotify]

/-- A raise on a clear flag latches it with its detail (R175). -/
theorem latch_of_clear {r : Raise} {u : EventUnit} {f : EventFlag} (hf : u.flags[r.1.number]? = some f)
    (hset : f.set = false) :
    u.latch r = { u with flags := u.flags.set r.1.number { set := true, detail := r.2 } } := by
  unfold EventUnit.latch
  rw [modify_of_getElem? _ hf, hset]
  rfl

/-- It offers a NOTICE where the mask selects the event (R176). -/
theorem notify_of_clear {r : Raise} {u : EventUnit} {f : EventFlag} (p : LoopPort)
    (hf : u.flags[r.1.number]? = some f) (hset : f.set = false) :
    p.notify u r =
      if u.mask.getLsbD r.1.number then
        p.offer (p.originate 0#8 kindNotice (noticePayload r (u.latch r))) false
      else p := by
  have hnew : u.newlyLatches r = true := by
    simp [EventUnit.newlyLatches, EventUnit.latched, hf, hset]
  simp [LoopPort.notify, hnew, EventUnit.selects]

theorem offer_of_room {p : LoopPort} (h : p.insertQueue.length < 16) (f : LoopFrame) (b : Bool) :
    p.offer f b = p.insert f b := by
  rcases offer_cases p f b with ⟨heq, -⟩ | ⟨-, _⟩
  · exact heq
  · omega

theorem offer_of_full {p : LoopPort} (h : 16 ≤ p.insertQueue.length) (f : LoopFrame) (b : Bool) :
    p.offer f b = p := by
  rcases offer_cases p f b with ⟨-, _⟩ | ⟨heq, -⟩
  · omega
  · exact heq

theorem alarm_iff {s : State} (hr : s.resetHeld = false) :
    s.alarm = true ↔
      ∃ (k : Nat) (g : EventFlag), k < 25 ∧ s.events.flags[k]? = some g ∧ g.set = true ∧
        s.events.mask.getLsbD k = true := by
  simp only [State.alarm, hr, Bool.not_false, Bool.true_and, List.any_eq_true, List.mem_range,
    Bool.and_eq_true, latched_iff, EventUnit.selects, Config.events]
  constructor
  · rintro ⟨k, hk, ⟨g, hg, hset⟩, hmask⟩
    exact ⟨k, g, hk, hg, hset, hmask⟩
  · rintro ⟨k, g, hk, hg, hset, hmask⟩
    exact ⟨k, hk, ⟨g, hg, hset⟩, hmask⟩

/-- Settles O60: a raise by the flag it finds, by the mask, and by the room in the Insert Queue. -/
theorem raiseLatches : Obligations.RaiseLatches := by
  intro r s f hf n latched notice
  have hlatch (hset : f.set = false) : s.events.latch r = latched := latch_of_clear hf hset
  have hraise (hset : f.set = false) (p : LoopPort) (hp : s.loop.notify s.events r = p) :
      raise r s = { s with events := latched, loop := p } := by
    unfold raise
    rw [hlatch hset, hp]
  refine ⟨raise_of_set hf, fun hset hquiet => hraise hset s.loop ?_, fun hset hmask hroom => ?_,
    alarm_iff⟩
  · rw [notify_of_clear _ hf hset]
    rcases hquiet with hmask | hfull
    · rw [if_neg (Bool.eq_false_iff.1 hmask)]
    · rw [offer_of_full hfull, ite_self]
  · refine hraise hset _ ?_
    rw [notify_of_clear _ hf hset, if_pos hmask, offer_of_room hroom, hlatch hset]
    rfl

/-! ## The RESET pin (R151, R174) -/

/-- With RESET low a command row is not received. -/
theorem commandRow_of_low {s : State} (h : s.resetHeld = true) (c : LoopCommand) (carry : State → State) :
    commandRow c carry s = s := by
  simp [commandRow, h]

/-- With RESET low only the pin's own rows act. -/
theorem exec_of_low {i : Instr} {s : State} (h : s.resetHeld = true) (ha : i ≠ .resetAssert)
    (hrel : ∀ stn p l, i ≠ .resetRelease stn p l) : exec i s = .next s := by
  have hrow (c : LoopCommand) (carry : State → State) :
      Host.Outcome.next (φ := Fault) (ρ := Refusal) (commandRow c carry s) = .next s :=
    congrArg _ (commandRow_of_low h c carry)
  have hawake (f : State → State) :
      Host.Outcome.next (φ := Fault) (ρ := Refusal) (awake f s) = .next s :=
    congrArg _ (awake_of_low h f)
  cases i with
  | resetAssert => exact absurd rfl ha
  | resetRelease stn p l => exact absurd rfl (hrel stn p l)
  | restartEffect | minuteTick | quarantineEnd | sweepTimerExpiry | climateCycleExpiry
  | refreshTimerExpiry | reversalTimerExpiry | coastTimerExpiry | stepPulseEnd | lineSelect | leadEnd
  | pollSent | lagEnd | characterReceived | responseTimeout | gapFault | trailingWatchEnd
  | abandonmentComplete | loopFrameReceived | loopOutFrameSent | loopOutHandover => exact hawake _
  | _ => exact hrow _ _

theorem stationOf_valid {n : Nat} (h1 : 1 ≤ n) (h2 : n ≤ 30) : stationOf n = n ∧ strapRaise n = [] := by
  unfold stationOf strapRaise Config.broadcast
  rw [if_neg (by omega), if_neg (by omega)]
  exact ⟨rfl, rfl⟩

theorem stationOf_invalid {n : Nat} (h : n = 0 ∨ n = 31) :
    stationOf n = 30 ∧ strapRaise n = [(.strapInvalid, some n)] := by
  rcases h with rfl | rfl <;> exact ⟨rfl, rfl⟩

theorem exec_release_of_low {s : State} (h : s.resetHeld = true) (stn : BitVec 5) (prate lrate : Bool) :
    exec (.resetRelease stn prate lrate) s = .next (resetHigh stn prate lrate s) :=
  congrArg Host.Outcome.next (if_pos h)

/-- Settles O36: the machine with RESET low, the rows it ignores, and the release by the strapped value. -/
theorem resetPin : Obligations.ResetPin := by
  refine ⟨fun s => ⟨resetLow s, rfl, rfl, rfl, rfl, fun _ => rfl, rfl, rfl, rfl, rfl, rfl, rfl⟩,
    fun i s h ha hrel => exec_of_low h ha hrel, ?_⟩
  intro stn prate lrate s up
  refine ⟨fun h h1 h2 => ?_, fun h hinv => ?_, fun h => ?_⟩
  · obtain ⟨hstation, hraise⟩ := stationOf_valid h1 h2
    rw [exec_release_of_low h, resetHigh, hraise, hstation]
    rfl
  · obtain ⟨hstation, hraise⟩ := stationOf_invalid hinv
    rw [exec_release_of_low h, resetHigh, hraise, hstation]
    rfl
  · exact congrArg Host.Outcome.next (if_neg (Bool.eq_false_iff.1 h))

/-! ## Loop-out (R152, R157 to R159, R172) -/

theorem exec_handOver {s : State} (hr : s.resetHeld = false)
    (ho : s.loop.out = .idle ∨ s.loop.out = .spacing) :
    exec .loopOutHandover s = .next { s with loop := s.loop.handOver } := by
  refine congrArg Host.Outcome.next ((awake_of_high hr handOver).trans ?_)
  unfold handOver
  rcases ho with h | h <;> rw [h]

theorem handOver_of_empty {p : LoopPort} (hf : p.repeatQueue = []) (he : p.insertQueue = []) :
    p.handOver = { p with out := .idle } := by
  unfold LoopPort.handOver
  split
  case h_4 => rfl
  all_goals simp_all

theorem exec_frameSent {s : State} (hr : s.resetHeld = false) :
    exec .loopOutFrameSent s = .next (frameSent s) :=
  congrArg Host.Outcome.next (awake_of_high hr frameSent)

/-- Settles O41: the arbiter's choice by the two queues and the repeat run, and the place given up by the frame that
has left. -/
theorem loopOutHandedOver : Obligations.LoopOutHandedOver := by
  intro s hr
  refine ⟨fun f o hout => ?_, fun ho => ⟨fun f rest hf he => ?_, fun f rest e more hf he hrun => ?_,
      fun f rest e more hf he hrun => ?_, fun e more hf he => ?_, fun hf he => ?_⟩,
    fun f o hout => ?_, fun f hout => ?_, fun f e more hout he hreply => ?_,
    fun f e more hout he hreply => ?_⟩
  · simp only [State.loopOutLevels, State.loopOutChars, hr, hout]
    rfl
  · rw [exec_handOver hr ho, LoopPort.handOver, hf, he]
    rfl
  · rw [exec_handOver hr ho, LoopPort.handOver, hf, he]
    dsimp only
    rw [if_pos (show s.loop.run < Config.repeatRun from Nat.lt_succ_of_le hrun)]
    rfl
  · rw [exec_handOver hr ho, LoopPort.handOver, hf, he]
    dsimp only
    rw [if_neg (show ¬s.loop.run < Config.repeatRun by rw [hrun]; decide)]
    rfl
  · rw [exec_handOver hr ho, LoopPort.handOver, hf, he]
    rfl
  · rw [exec_handOver hr ho, handOver_of_empty hf he]
  · refine congrArg Host.Outcome.next ((awake_of_high hr handOver).trans ?_)
    unfold handOver
    rw [hout]
  · rw [exec_frameSent hr, frameSent, hout]
  · rw [exec_frameSent hr, frameSent, hout, he]
    simp [hreply]
  · rw [exec_frameSent hr, frameSent, hout, he]
    simp [hreply]

/-! ## The end of a COMMAND, and turns (R156, R158, R166) -/

/-- A named row is the row of a COMMAND that is carried out from its payload (R182). -/
theorem exec_commandRows : ∀ r ∈ commandRows, ∀ (src tag : Byte) (args : List Byte) (s : State),
    exec (r.2.2 src tag args) s =
      .next
        (commandRow (namedCommand src r.1 tag (r.2.1 ++ args))
          (carryOut (namedCommand src r.1 tag (r.2.1 ++ args))) s) := by
  simp only [commandRows, List.forall_mem_cons, List.not_mem_nil, false_implies, implies_true, and_true]
  and_intros <;> exact fun _ _ _ _ => rfl

/-- A COMMAND row of any kind, of the COMMAND `c` (assumption 4). -/
theorem exec_rowOf {row : Instr} {c : LoopCommand}
    (h : (∃ r ∈ commandRows, ∃ src tag args,
        row = r.2.2 src tag args ∧ c = namedCommand src r.1 tag (r.2.1 ++ args)) ∨
      row = .unknownCommand c.source c.payload) (s : State) :
    exec row s = .next (commandRow c (carryOut c) s) := by
  rcases h with ⟨r, hr, src, tag, args, rfl, rfl⟩ | rfl
  · exact exec_commandRows r hr src tag args s
  · rfl

/-- A COMMAND row whose turn has not come is the COMMAND's arrival. -/
theorem commandRow_of_busy {s : State} {c other : LoopCommand} (hr : s.resetHeld = false)
    (hcur : s.command.current = some other) (h : other ≠ c ∨ s.command.restarting = true)
    (carry : State → State) : commandRow c carry s = arrive c s := by
  have hturn : s.command.turnOf c = false := by
    rcases h with hne | hre
    · simp [CommandUnit.turnOf, hcur, hne]
    · simp [CommandUnit.turnOf, hre]
  simp [commandRow, hr, hturn]

/-- An idle step carries out the COMMAND that is held. -/
theorem step_of_held {s : State} {c : LoopCommand} (hr : s.resetHeld = false) (hp : s.pending = [])
    (hcur : s.command.current = some c) (hre : s.command.restarting = false) :
    step s = .next (carryOut c s) := by
  simp [step, hp, idle, hr, hcur, hre, carryCurrent]

/-- Settles O42: the REPLY by the room in the Insert Queue, and every COMMAND row as the row of its COMMAND. -/
theorem repliesOfferedInTurn : Obligations.RepliesOfferedInTurn := by
  refine ⟨?_, fun s c row hr hrow =>
    ⟨fun other hcur hbusy => ⟨fun hroom => ?_, fun hfull => ?_⟩, fun hp hcur hre => ?_⟩⟩
  · intro src kind tag a t next reply
    unfold finish
    refine ⟨fun hroom => ?_, fun hfull => ?_⟩
    · rw [offer_of_room hroom]
      rfl
    · rw [offer_of_full hfull]
      rfl
  · rw [exec_rowOf hrow, commandRow_of_busy hr hcur hbusy,
      LoopFrames.arrive_waits c (by rw [hcur]; nofun) hroom]
  · rw [exec_rowOf hrow, commandRow_of_busy hr hcur hbusy,
      LoopFrames.arrive_lost c (by rw [hcur]; nofun) hfull]
  · have hcarries : s.carries c := ⟨hr, by simp [CommandUnit.turnOf, hcur, hre]⟩
    rw [exec_rowOf hrow, commandRow_of_carries hcarries, step_of_held hr hp hcur hre]

end Sys2Proof.Machine.RaisesAndTurns
end

section
/-! Reports, pass-through and the STATUS lines (R158, R160 to R164, R170, R178). -/

namespace Sys2Proof.Machine.ReportsAndLines

/-! ## SET REPORT MODE and SET STATUS LINES (R170, R178) -/

theorem exec_setReportMode {s : State} {src tag : Byte} {args : List Byte}
    (h : s.carries (namedCommand src 18#8 tag args)) :
    exec (.setReportMode src tag args) s = .next (finish src 18#8 tag (setReportMode args s)) :=
  congrArg Host.Outcome.next (namedRow_of_carries h (setReportMode args))

theorem exec_setStatusLines {s : State} {src tag : Byte} {args : List Byte}
    (h : s.carries (namedCommand src 19#8 tag args)) :
    exec (.setStatusLines src tag args) s = .next (finish src 19#8 tag (setStatusLines args s)) :=
  congrArg Host.Outcome.next (namedRow_of_carries h (setStatusLines args))

theorem reportModeOf_named {m : Byte} {mode : ReportMode}
    (h : m = 0#8 ∧ mode = .off ∨ m = 1#8 ∧ mode = .evaluation ∨ m = 2#8 ∧ mode = .full) :
    reportModeOf m = some mode := by
  rcases h with ⟨rfl, rfl⟩ | ⟨rfl, rfl⟩ | ⟨rfl, rfl⟩ <;> rfl

theorem reportModeOf_beyond {m : Byte} (h : 3 ≤ m.toNat) : reportModeOf m = none := by
  unfold reportModeOf
  split
  case h_4 => rfl
  all_goals omega

theorem statusSourceOf_code (source : StatusSource) :
    statusSourceOf (statusSourceCode source) = some source := by cases source <;> rfl

theorem statusSourceOf_beyond {m : Byte} (h : 8 ≤ m.toNat) : statusSourceOf m = none := by
  unfold statusSourceOf
  split
  case h_9 => rfl
  all_goals omega

theorem parseSources_codes (a b c d : StatusSource) (rest : List Byte) :
    parseSources ([a, b, c, d].map statusSourceCode ++ rest) = some [a, b, c, d] := by
  simp only [List.map_cons, List.map_nil, List.cons_append, List.nil_append, parseSources,
    statusSourceOf_code]

theorem parseSources_beyond {m : Byte} (h : 8 ≤ m.toNat) (rest : List Byte) :
    parseSources (m :: rest) = none := by
  unfold parseSources
  split
  · next heq =>
    cases heq
    rw [statusSourceOf_beyond h]
  · rfl

section
variable {s : State} {src tag m n : Byte} {rest : List Byte}

theorem exec_setReportMode_named (h : s.carries (namedCommand src 18#8 tag (m :: n :: rest)))
    {mode : ReportMode} (hm : reportModeOf m = some mode) :
    exec (.setReportMode src tag (m :: n :: rest)) s =
      .next
        (finish src 18#8 tag
          (.ok { s with loop := { s.loop with mode := mode, interval := n.toNat } })) := by
  rw [exec_setReportMode h, setReportMode]
  simp only [hm]

theorem exec_setReportMode_refused (h : s.carries (namedCommand src 18#8 tag (m :: n :: rest)))
    (hm : 3 ≤ m.toNat) :
    exec (.setReportMode src tag (m :: n :: rest)) s =
      .next (finish src 18#8 tag (.refuse .badArgument s)) := by
  rw [exec_setReportMode h, setReportMode]
  simp only [reportModeOf_beyond hm]

theorem exec_setStatusLines_named {args : List Byte} (h : s.carries (namedCommand src 19#8 tag args))
    {sources : List StatusSource} (hs : parseSources args = some sources) :
    exec (.setStatusLines src tag args) s =
      .next (finish src 19#8 tag (.ok { s with events := { s.events with sources := sources } })) := by
  rw [exec_setStatusLines h, setStatusLines, hs]

theorem exec_setStatusLines_refused (h : s.carries (namedCommand src 19#8 tag (m :: rest)))
    (hm : 8 ≤ m.toNat) :
    exec (.setStatusLines src tag (m :: rest)) s =
      .next (finish src 19#8 tag (.refuse .badArgument s)) := by
  rw [exec_setStatusLines h, setStatusLines, parseSources_beyond hm]

end

/-- A STATUS line is high while its source is (R178). -/
theorem statusLine_eq {s : State} {i : Nat} {source : StatusSource} (hr : s.resetHeld = false)
    (h : s.events.sources[i]? = some source) : s.statusLine i = s.sourceLevel source := by
  simp [State.statusLine, hr, h]

theorem active_iff (c : ChargeState) :
    c.active = true ↔ c = .warmup ∨ c = .running ∨ c = .hold ∨ c = .cooldown := by
  cases c <;> simp [ChargeState.active]

theorem survey_active_iff (c : SurveyCondition) :
    (c != .idle) = true ↔ c = .running ∨ c = .stopping := by
  cases c <;> simp

/-! ## REPORT and PASS-THROUGH frames (R158, R163) -/

theorem offerReport_of_room {s : State} (h : s.loop.insertQueue.length ≤ 12) (type : Byte)
    (body : List Byte) :
    offerReport type body s =
      { s with
        loop :=
          { s.loop.insert
              (s.loop.originate 0#8 kindReport ([type, markByte s.loop.reportGap] ++ body)) false with
            reportGap := false } } := by
  rcases offerReport_cases type body s with ⟨-, heq⟩ | ⟨_, -⟩
  · exact heq
  · omega

theorem offerReport_of_full {s : State} (h : 12 < s.loop.insertQueue.length) (type : Byte)
    (body : List Byte) :
    offerReport type body s =
      raise (.reportLost, none) { s with loop := { s.loop with reportGap := true } } := by
  rcases offerReport_cases type body s with ⟨_, -⟩ | ⟨-, heq⟩
  · omega
  · exact heq

theorem offerPass_of_room {s : State} (h : s.loop.insertQueue.length ≤ 12) (body : List Byte) :
    offerPass body s =
      { s with
        loop :=
          { s.loop.insert (s.loop.originate 0#8 kindPass ([markByte s.loop.passGap] ++ body)) false with
            passGap := false } } := by
  rcases offerPass_cases body s with ⟨-, heq⟩ | ⟨_, -⟩
  · exact heq
  · omega

theorem offerPass_of_full {s : State} (h : 12 < s.loop.insertQueue.length) (body : List Byte) :
    offerPass body s =
      raise (.reportLost, none) { s with loop := { s.loop with passGap := true } } := by
  rcases offerPass_cases body s with ⟨_, -⟩ | ⟨-, heq⟩
  · omega
  · exact heq

/-! ## The READINGS REPORT frames (R161) -/

/-- A list is cut into as many parts as hold it. -/
theorem partsOf_length {α : Type} (fuel : Nat) (l : List α) (h : l.length ≤ 12 * fuel) :
    (partsOf 12 fuel l).length = (l.length + 11) / 12 := by
  induction fuel generalizing l with
  | zero => simp [List.length_eq_zero_iff.1 (show l.length = 0 by omega), partsOf]
  | succ fuel ih =>
    cases l with
    | nil => simp [partsOf]
    | cons a rest =>
      rw [List.length_cons] at h
      rw [partsOf, List.length_cons, ih _ (by simp; omega)]
      simp only [List.length_drop, List.length_cons]
      omega

/-- Each part holds the next twelve entries. -/
theorem partsOf_getElem? {α : Type} (fuel : Nat) (l : List α) (k : Nat)
    (hk : k < (partsOf 12 fuel l).length) :
    (partsOf 12 fuel l)[k]? = some ((l.drop (12 * k)).take 12) := by
  induction fuel generalizing l k with
  | zero => simp [partsOf] at hk
  | succ fuel ih =>
    cases l with
    | nil => simp [partsOf] at hk
    | cons a rest =>
      rw [partsOf] at hk ⊢
      cases k with
      | zero => rfl
      | succ k =>
        rw [List.getElem?_cons_succ, ih _ k (by simpa using hk), List.drop_drop]
        congr 3
        omega

theorem readingsBodies_length (sweep : Nat) (probes : List ProbeRecord)
    (h : (heldReadings probes).length ≤ 64) :
    (readingsBodies sweep probes).length = ((heldReadings probes).length + 11) / 12 := by
  rw [readingsBodies, List.length_map, indexed_length, partsOf_length 6 _ (by omega)]

theorem readingsBodies_getElem? (sweep : Nat) (probes : List ProbeRecord) (k : Nat)
    (hk : k < (readingsBodies sweep probes).length) :
    (readingsBodies sweep probes)[k]? =
      some
        (le32 sweep ++
            [byte (k + 1), byte (readingsBodies sweep probes).length,
              byte (((heldReadings probes).drop (12 * k)).take 12).length] ++
          (((heldReadings probes).drop (12 * k)).take 12).flatMap (entryBytes sweep)) := by
  have hlen : (readingsBodies sweep probes).length = (partsOf 12 6 (heldReadings probes)).length := by
    rw [readingsBodies, List.length_map, indexed_length]
  rw [hlen] at hk ⊢
  rw [readingsBodies, List.getElem?_map, indexed_getElem?, partsOf_getElem? 6 _ k hk, Nat.add_comm k 1]
  rfl

/-! ## With no event selected a raise sends no NOTICE (R176) -/

theorem notify_of_no_mask (p : LoopPort) {u : EventUnit} (h : u.mask = 0#25) (r : Raise) :
    p.notify u r = p := by
  simp [LoopPort.notify, EventUnit.selects, h]

theorem raiseAll_loop_of_no_mask (rs : List Raise) {s : State} (h : s.events.mask = 0#25) :
    (raiseAll rs s).loop = s.loop := by
  induction rs generalizing s with
  | nil => rfl
  | cons r rs ih => rw [raiseAll_cons, ih (s := raise r s) h, raise_loop, notify_of_no_mask _ h]

theorem foldl_latch_mask (rs : List Raise) (u : EventUnit) :
    (rs.foldl EventUnit.latch u).mask = u.mask := by
  induction rs generalizing u with
  | nil => rfl
  | cons r rs ih => exact ih (u.latch r)

/-- The Climate Unit at an expiry touches the Event Unit by raises only, and the loop by their NOTICE frames. -/
theorem climateCycle_raises (s : State) :
    ∃ rs t, climateCycle s = raiseAll rs t ∧ t.loop = s.loop ∧ t.events = s.events := by
  unfold climateCycle
  split
  · split
    case h_1 => exact ⟨[], _, rfl, rfl, rfl⟩
    case h_5 => exact ⟨[], _, rfl, rfl, rfl⟩
    all_goals exact ⟨_, formAll { s with climate := _ }, rfl, rfl, rfl⟩
  · exact ⟨[], s, rfl, rfl, rfl⟩

theorem climateCycle_loop_of_no_mask {s : State} (h : s.events.mask = 0#25) :
    (climateCycle s).loop = s.loop := by
  obtain ⟨rs, t, heq, hloop, hevents⟩ := climateCycle_raises s
  rw [heq, raiseAll_loop_of_no_mask rs (hevents ▸ h), hloop]

theorem climateCycle_mask (s : State) : (climateCycle s).events.mask = s.events.mask := by
  obtain ⟨rs, t, heq, -, hevents⟩ := climateCycle_raises s
  rw [heq, raiseAll_events, foldl_latch_mask, hevents]

theorem climateCycle_flags_length (s : State) :
    (climateCycle s).events.flags.length = s.events.flags.length := by
  obtain ⟨rs, t, heq, -, hevents⟩ := climateCycle_raises s
  rw [heq, raiseAll_events, foldl_latch_flags_length, hevents]

/-! ## STATE reports (R160, R162) -/

/-- The machine with the state report count after an expiry. -/
def counted (s : State) : State :=
  { s with loop := { s.loop with reportCount := nextReportCount s.loop } }

/-- The count has come to the interval (R160). -/
def AtInterval (p : LoopPort) : Prop := p.interval ≠ 0 ∧ p.interval ≤ min 255 (p.reportCount + 1)

theorem stateReportDue_iff (p : LoopPort) :
    stateReportDue p = true ↔ AtInterval p ∧ p.mode ≠ .off := by
  unfold stateReportDue AtInterval
  rw [Bool.and_eq_true, Bool.and_eq_true, bne_iff_ne, bne_iff_ne, decide_eq_true_eq]
  rfl

theorem nextReportCount_zero {p : LoopPort} (h : p.interval = 0 ∨ AtInterval p) :
    nextReportCount p = 0 := by
  unfold nextReportCount
  rcases h with h | ⟨h0, h⟩
  · rw [if_pos h]
  · rw [if_neg h0, if_pos (show p.interval ≤ satSucc 255 p.reportCount from h)]

theorem nextReportCount_counts {p : LoopPort} (h0 : p.interval ≠ 0) (h : ¬AtInterval p) :
    nextReportCount p = min 255 (p.reportCount + 1) := by
  have hle : ¬p.interval ≤ satSucc 255 p.reportCount := fun hle => h ⟨h0, hle⟩
  unfold nextReportCount
  rw [if_neg h0, if_neg hle]
  rfl

theorem countStateReport_of_due {s : State} (h : stateReportDue s.loop = true) :
    countStateReport s = offerReport 2#8 (stateBody (counted s)) (counted s) := if_pos h

theorem countStateReport_of_not_due {s : State} (h : ¬stateReportDue s.loop = true) :
    countStateReport s = counted s := if_neg h

/-- A STATE REPORT shows the charge, the climate and the node tables only. -/
theorem stateBody_congr {s t : State} (hs : t.schedule = s.schedule) (hc : t.climate = s.climate)
    (hn : t.nodes = s.nodes) : stateBody t = stateBody s := by
  unfold stateBody
  rw [hs, hc, hn]

theorem stateBody_countStateReport (s : State) :
    stateBody (countStateReport s) = stateBody (counted s) :=
  stateBody_congr (countStateReport_schedule s) (countStateReport_climate s) (countStateReport_nodes s)

section
variable {s : State} (hmask : s.events.mask = 0#25)
include hmask

theorem offerReport_full_loop (hfull : 12 < s.loop.insertQueue.length) (type : Byte)
    (body : List Byte) : (offerReport type body s).loop = { s.loop with reportGap := true } := by
  rw [offerReport_of_full hfull, raise_loop, notify_of_no_mask _ hmask]

theorem countStateReport_reportCount :
    (countStateReport s).loop.reportCount = nextReportCount s.loop := by
  by_cases hdue : stateReportDue s.loop = true
  · rw [countStateReport_of_due hdue]
    rcases Nat.lt_or_ge 12 s.loop.insertQueue.length with hfull | hroom
    · rw [offerReport_full_loop (s := counted s) hmask hfull]
      rfl
    · rw [offerReport_of_room (s := counted s) hroom]
      rfl
  · rw [countStateReport_of_not_due hdue]
    rfl

end

/-- A climate cycle expiry with no event selected: the Plant Loop Port finds its own state as it was, and the Event
Unit's mask and the number of its flags. -/
theorem climateExpiry_of_no_mask {s : State} (hmask : s.events.mask = 0#25) :
    ∃ u, climateExpiry s = countStateReport u ∧ u.loop = s.loop ∧ u.events.mask = 0#25 ∧
      u.events.flags.length = s.events.flags.length :=
  ⟨climateCycle (ClimateControl.cycleMarked s), ClimateControl.climateExpiry_eq s,
    climateCycle_loop_of_no_mask hmask, (climateCycle_mask _).trans hmask, climateCycle_flags_length _⟩

/-! ## Pass-through (R164) -/

theorem passThrough_of_kind {o : OutcomeRecord} {g : GoodResponse} {kind : NodeKind}
    (hg : o.response = some g) (hk : passNodeKind o.request.owner g = some kind) (s : State) :
    (some (kind, g.kind) ∈ s.loop.passList → passThrough o s = offerPass (passBody o kind g) s) ∧
      (some (kind, g.kind) ∉ s.loop.passList → passThrough o s = s) := by
  simp only [passThrough, hg, hk]
  exact ⟨fun h => if_pos (List.contains_iff_mem.2 h), fun h => if_neg (mt List.contains_iff_mem.1 h)⟩

theorem passThrough_of_no_kind {o : OutcomeRecord} {g : GoodResponse} (hg : o.response = some g)
    (hk : passNodeKind o.request.owner g = none) (s : State) : passThrough o s = s := by
  simp only [passThrough, hg, hk]

/-- The node kind of a surveyed node is the one its IDENT response names. -/
theorem passNodeKind_survey {g : GoodResponse} (address : Nat) (hk : g.kind = .ident)
    (hp : 1 ≤ g.payload.length) :
    passNodeKind (.survey address) g = nodeKindOf (byteAt g.payload 0) := by
  obtain ⟨k, rest, hpayload⟩ := List.exists_cons_of_length_pos hp
  simp only [passNodeKind, hk, hpayload]
  rfl

theorem passNodeKind_survey_none {g : GoodResponse} (address : Nat)
    (h : g.kind ≠ .ident ∨ g.payload = [] ∨ nodeKindOf (byteAt g.payload 0) = none) :
    passNodeKind (.survey address) g = none := by
  by_cases hident : g.kind = .ident ∧ 1 ≤ g.payload.length
  · obtain ⟨hk, hp⟩ := hident
    rw [passNodeKind_survey address hk hp]
    rcases h with h | h | h
    · exact absurd hk h
    · simp [h] at hp
    · exact h
  · simp only [passNodeKind]
    split
    · next hk hp => exact absurd ⟨hk, by simp [hp]⟩ hident
    · rfl

/-- Settles O59: the two commands, the levels of the lines, and each kind of report and of pass-through. -/
theorem reportModeAndStatusLines : Obligations.ReportModeAndStatusLines := by
  refine ⟨fun s src tag m n rest => ⟨fun hc => ⟨fun mode hm =>
        exec_setReportMode_named hc (reportModeOf_named hm), exec_setReportMode_refused hc⟩,
      fun a b c d hc => exec_setStatusLines_named hc (parseSources_codes a b c d rest),
      exec_setStatusLines_refused, fun hr => congrArg Host.Outcome.next (awake_of_high hr pulseEnd)⟩,
    fun s i source hr hs => ?_, fun s body type => ?_, fun s c e k => ?_,
    fun s hr hmask => ?_, fun o s => ?_⟩
  · rw [statusLine_eq hr hs]
    cases source with
    | alarm => exact Iff.rfl
    | chargeActive => exact active_iff _
    | surveyRunning => exact survey_active_iff _
    | stepPulse => exact Iff.rfl
    | hold => simp [State.sourceLevel]
    | lineDown => simp [State.sourceLevel]
    | fanCoasting => simp [State.sourceLevel]
    | amendWait => simp [State.sourceLevel, Option.isSome_iff_ne_none]
  · refine ⟨fun hroom => ⟨offerReport_of_room hroom type body, offerPass_of_room hroom body⟩,
      fun hfull => ⟨offerReport_of_full hfull type body, offerPass_of_full hfull body⟩⟩
  · refine ⟨fun hm => ?_, fun hm => ?_, fun hm => ?_, fun hlen =>
      ⟨readingsBodies_length _ _ hlen, readingsBodies_getElem? _ _ k⟩⟩
    all_goals rw [reportEvaluation, hm]
  · intro n count due
    obtain ⟨u, heq, hloop, humask, hflags⟩ := climateExpiry_of_no_mask hmask
    have hqueue : (counted u).loop.insertQueue = s.loop.insertQueue := by
      rw [← hloop]
      rfl
    have hdue : stateReportDue u.loop = true ↔ due ∧ s.loop.mode ≠ .off := by
      rw [hloop]
      exact stateReportDue_iff _
    have hcount := (countStateReport_reportCount humask).trans (congrArg nextReportCount hloop)
    refine ⟨countStateReport u, (ClimateControl.exec_climateCycleExpiry hr).trans (congrArg _ heq),
      fun h => hcount.trans (nextReportCount_zero h),
      fun h0 h => hcount.trans (nextReportCount_counts h0 h), fun h => ?_, fun hd hm hroom => ?_,
      fun hd hm hfull => ?_⟩
    · have hnot : ¬stateReportDue u.loop = true := by
        rw [hdue]
        rintro ⟨hd, hm⟩
        exact h.elim (fun h => h hd) hm
      rw [countStateReport_of_not_due hnot, counted, hloop]
    · rw [stateBody_countStateReport, countStateReport_of_due (hdue.2 ⟨hd, hm⟩),
        offerReport_of_room (hqueue ▸ hroom), counted, hloop]
      exact ⟨_, rfl, rfl, rfl, rfl, rfl⟩
    · have hfull' : 12 < (counted u).loop.insertQueue.length := hqueue ▸ hfull
      rw [countStateReport_of_due (hdue.2 ⟨hd, hm⟩), offerReport_full_loop (s := counted u) humask hfull',
        offerReport_of_full hfull']
      exact ⟨hqueue, rfl, fun h25 =>
        latch_self _ _ (show 23 < u.events.flags.length by omega)⟩
  · refine ⟨fun hnone => by rw [passThrough, hnone], ?_⟩
    intro g hg copied
    have hcopied (kind : NodeKind) (hk : passNodeKind o.request.owner g = some kind) : copied kind :=
      passThrough_of_kind hg hk s
    refine ⟨fun i ho => hcopied _ (by rw [ho]; rfl), fun i ho => hcopied _ (by rw [ho]; rfl),
      fun i ho => hcopied _ (by rw [ho]; rfl), fun i k ho hident hp hk => hcopied _ ?_,
      fun i ho h => passThrough_of_no_kind hg ?_ s⟩
    · rw [ho, passNodeKind_survey i hident hp, hk]
    · rw [ho, passNodeKind_survey_none i h]

end Sys2Proof.Machine.ReportsAndLines
end

section
/-! Every row of the table answers with a next state, and the queue of the model stays as it was (assumptions 4 and
31). -/

namespace Sys2Proof.Machine.RowsAnswered

theorem awake_pending {f : State → State} (h : ∀ s, (f s).pending = s.pending) (s : State) :
    (awake f s).pending = s.pending := by
  cases hr : s.resetHeld with
  | true => rw [awake_of_low hr]
  | false => rw [awake_of_high hr, h]

@[simp] theorem resetHigh_pending (stn : BitVec 5) (prate lrate : Bool) (s : State) :
    (resetHigh stn prate lrate s).pending = s.pending := raiseAll_pending _ _

/-! ## COMMANDs -/

@[simp] theorem tableWrite_pending (args : List Byte) (s : State) :
    (tableWrite args s).state.pending = s.pending := by
  unfold tableWrite
  split
  · rfl
  · split
    · next h =>
      unfold tableWriteOf at h
      split at h <;> cases h <;> simp
    · rfl

theorem answerOf_pending {kind : Nat} {answer : List Byte → State → Answer}
    (h : answerOf kind = some answer) (args : List Byte) (s : State) :
    (answer args s).state.pending = s.pending := by
  unfold answerOf at h
  split at h <;> cases h <;> simp

theorem carryOut_pending (c : LoopCommand) (s : State) : (carryOut c s).pending = s.pending := by
  unfold carryOut
  split
  · exact finish_pending _ _ _ _
  · exact finish_pending _ _ _ _
  · split
    · exact takeRestart_pending _ _ _ _ _
    · split
      · next h => exact (finish_pending _ _ _ _).trans (answerOf_pending h _ s)
      · exact finish_pending _ _ _ _

theorem commandRow_pending {carry : State → State} (h : ∀ s, (carry s).pending = s.pending)
    (c : LoopCommand) (s : State) : (commandRow c carry s).pending = s.pending := by
  rcases commandRow_cases c carry s with heq | heq | heq <;> rw [heq]
  · exact h s
  · exact arrive_pending c s

theorem namedRow_pending {answer : State → Answer} (h : ∀ s, (answer s).state.pending = s.pending)
    (src kind tag : Byte) (args : List Byte) (s : State) :
    (namedRow src kind tag args answer s).pending = s.pending :=
  commandRow_pending (fun s => (finish_pending src kind tag (answer s)).trans (h s)) _ s

/-! ## The obligation -/

/-- Settles O2: a row is the row of a COMMAND, an event that acts with RESET high, or the RESET pin's own. -/
theorem everyRowAnswersAndKeepsQueue : Obligations.EveryRowAnswersAndKeepsQueue := by
  intro i s
  cases i with
  | readStatus | tableWrite | tableWriteProbe | tableWriteAirpoint | tableWriteActuator
  | tableWriteCalibration | tableWriteSchedule | tableWriteChargeParams | tableWriteClimateParams
  | tableWriteLineParams | tableWritePassList | tableRead | startCharge | hold | resume | advance
  | setStep | abortCharge | stepAmend | override | wbSelect | surveyStart | surveyAbort | lineReset
  | clearEvents | setEventMask | setReportMode | setStatusLines =>
    exact ⟨_, rfl, namedRow_pending (by simp) _ _ _ _ s⟩
  | restart => exact ⟨_, rfl, commandRow_pending (takeRestart_pending _ _ _ _) _ s⟩
  | unknownCommand => exact ⟨_, rfl, commandRow_pending (carryOut_pending _) _ s⟩
  | resetAssert => exact ⟨_, rfl, rfl⟩
  | resetRelease stn prate lrate =>
    refine ⟨_, rfl, ?_⟩
    split
    · exact resetHigh_pending stn prate lrate s
    · rfl
  | restartEffect | minuteTick | quarantineEnd | sweepTimerExpiry | climateCycleExpiry
  | refreshTimerExpiry | reversalTimerExpiry | coastTimerExpiry | stepPulseEnd | lineSelect | leadEnd
  | pollSent | lagEnd | characterReceived | responseTimeout | gapFault | trailingWatchEnd
  | abandonmentComplete | loopFrameReceived | loopOutFrameSent | loopOutHandover =>
    exact ⟨_, rfl, awake_pending (by simp) s⟩

end Sys2Proof.Machine.RowsAnswered
end

section
/-! The answers of the COMMANDs (R167): a COMMAND is carried out or refused as a whole; READ STATUS and TABLE READ
(R169, R171, R184); CLEAR EVENTS and SET EVENT MASK (R176, R177). -/

namespace Sys2Proof.Machine.CommandAnswers

/-! ## Carried out, or refused as a whole (R167) -/

/-- The answers that a COMMAND may get at `s`: it is carried out, as it stands or with values clamped, or it is
refused and `s` stays. -/
inductive AllOrNothing (s : State) : Answer → Prop where
  | ok (data : List Byte) (t : State) : AllOrNothing s { status := .ok, data := data, state := t }
  | adjusted (data : List Byte) (t : State) :
      AllOrNothing s { status := .adjusted, data := data, state := t }
  | refused (r : ReplyStatus) : AllOrNothing s (.refuse r s)

theorem AllOrNothing.of_refusal {s : State} {a : Answer} (h : AllOrNothing s a) (hok : a.status ≠ .ok)
    (hadj : a.status ≠ .adjusted) : a.state = s ∧ a.data = [] := by
  cases h with
  | ok => exact absurd rfl hok
  | adjusted => exact absurd rfl hadj
  | refused r => exact ⟨rfl, rfl⟩

theorem allOrNothing_done (s : State) (adjusted : Bool) (t : State) :
    AllOrNothing s (.done adjusted t) := by
  cases adjusted with
  | false => exact .ok [] t
  | true => exact .adjusted [] t

theorem allOrNothing_ite {s : State} {p : Prop} [Decidable p] {a b : Answer} (ha : AllOrNothing s a)
    (hb : AllOrNothing s b) : AllOrNothing s (if p then a else b) := by
  split
  · exact ha
  · exact hb

/-! ## TABLE WRITE (R168) -/

/-- The write of a table: faulty records are refused, then a duplicate address (R41) or a step or step count in use
(R97, R99); otherwise all of it is stored. -/
theorem tableWriteOf_allOrNothing {table : Nat} {write : List Byte → State → Answer}
    (h : tableWriteOf table = some write) (args : List Byte) (s : State) :
    AllOrNothing s (write args s) := by
  have hdone := allOrNothing_done s
  unfold tableWriteOf at h
  split at h <;> cases h
  case h_1 | h_2 | h_3 =>
    simp only [probeWrite, airWrite, actuatorWrite]
    split
    · exact .refused _
    · exact allOrNothing_ite (hdone _ _) (.refused _)
  case h_5 | h_6 =>
    simp only [scheduleWrite, chargeParamsWrite]
    split
    · exact .refused _
    · exact allOrNothing_ite (.refused _) (hdone _ _)
  all_goals
    simp only [calibrationWrite, climateParamsWrite, lineParamsWrite, passListWrite]
    split
    · exact .refused _
    · exact hdone _ _

theorem tableWrite_allOrNothing (args : List Byte) (s : State) : AllOrNothing s (tableWrite args s) := by
  unfold tableWrite
  split
  · exact .refused _
  · split
    · next h => exact tableWriteOf_allOrNothing h _ s
    · exact .refused _

/-! ## TABLE READ (R169) -/

/-- TABLE READ of a range within a table (R169). -/
theorem tableRead_within {s : State} {table first count : Byte} {size : Nat} {records : List (List Byte)}
    (h : tableRecords table.toNat s = some (size, records)) (hcount : 1 ≤ count.toNat)
    (hin : first.toNat + count.toNat ≤ records.length) (rest : List Byte) :
    tableRead (table :: first :: count :: rest) s =
      { status := if min count.toNat (114 / size) < count.toNat then .adjusted else .ok,
        data :=
          [table, first, byte (min count.toNat (114 / size))] ++
            ((records.drop first.toNat).take (min count.toNat (114 / size))).flatten,
        state := s } := by
  simp only [tableRead, h]
  rw [if_neg (by omega)]
  rfl

/-- TABLE READ of a range beyond its table (R169, assumption 40). -/
theorem tableRead_beyond {s : State} {table first count : Byte} {size : Nat} {records : List (List Byte)}
    (h : tableRecords table.toNat s = some (size, records))
    (hout : records.length < first.toNat + count.toNat) (rest : List Byte) :
    tableRead (table :: first :: count :: rest) s = .refuse .badArgument s := by
  simp only [tableRead, h]
  rw [if_pos (.inr hout)]

theorem tableRead_allOrNothing (args : List Byte) (s : State) : AllOrNothing s (tableRead args s) := by
  unfold tableRead
  split
  · split
    · exact .refused _
    · refine allOrNothing_ite (.refused _) ?_
      dsimp only
      split
      · exact .adjusted _ s
      · exact .ok _ s
  · exact .refused _

/-! ## The commands of a charge (R101, R112 to R116, R120) -/

theorem hold_allOrNothing (s : State) : AllOrNothing s (hold s) := by
  unfold hold
  split
  case h_1 | h_2 | h_3 => exact .ok [] _
  all_goals exact .refused _

theorem advance_allOrNothing (s : State) : AllOrNothing s (advance s) := by
  unfold advance
  split
  case h_1 | h_2 => exact .ok [] _
  all_goals exact .refused _

theorem setStep_allOrNothing (args : List Byte) (s : State) : AllOrNothing s (setStep args s) := by
  unfold setStep
  split
  · exact .refused _
  · exact allOrNothing_ite (.refused _) (allOrNothing_ite (.ok [] _) (.refused _))

theorem abortCharge_allOrNothing (s : State) : AllOrNothing s (abortCharge s) := by
  unfold abortCharge
  split
  case h_1 | h_2 | h_3 | h_4 => exact .ok [] _
  all_goals exact .refused _

theorem amend_allOrNothing (i : Nat) (r : StepRecord) (adjusted : Bool) (s : State) :
    AllOrNothing s (amend i r adjusted s) :=
  allOrNothing_ite (allOrNothing_ite (.refused _) (allOrNothing_done s _ _)) (allOrNothing_done s _ _)

theorem stepAmend_allOrNothing (args : List Byte) (s : State) : AllOrNothing s (stepAmend args s) := by
  unfold stepAmend
  split
  · exact .refused _
  · refine allOrNothing_ite (.refused _) ?_
    split
    · exact amend_allOrNothing _ _ _ s
    · exact .refused _

/-! ## The other commands (R43, R62, R67, R144, R170, R176 to R178) -/

theorem overrideCommand_allOrNothing (args : List Byte) (s : State) :
    AllOrNothing s (overrideCommand args s) := by
  unfold overrideCommand
  split
  · split
    · exact allOrNothing_done s _ _
    · exact .refused _
  · exact .refused _

theorem wbSelect_allOrNothing (args : List Byte) (s : State) : AllOrNothing s (wbSelect args s) := by
  unfold wbSelect
  split
  · exact allOrNothing_ite (allOrNothing_ite (allOrNothing_done s _ _) (.ok [] _)) (.refused _)
  · exact .refused _

theorem surveyAbort_allOrNothing (s : State) : AllOrNothing s (surveyAbort s) := by
  unfold surveyAbort
  split
  · exact .refused _
  · exact .ok [] _
  · exact .ok [] s

theorem clearEvents_allOrNothing (args : List Byte) (s : State) : AllOrNothing s (clearEvents args s) := by
  unfold clearEvents
  split
  · exact .ok [] _
  · exact .refused _

theorem setEventMask_allOrNothing (args : List Byte) (s : State) :
    AllOrNothing s (setEventMask args s) := by
  unfold setEventMask
  split
  · exact .ok [] _
  · exact .refused _

theorem setReportMode_allOrNothing (args : List Byte) (s : State) :
    AllOrNothing s (setReportMode args s) := by
  unfold setReportMode
  split
  · split
    · exact .ok [] _
    · exact .refused _
  · exact .refused _

theorem setStatusLines_allOrNothing (args : List Byte) (s : State) :
    AllOrNothing s (setStatusLines args s) := by
  unfold setStatusLines
  split
  · exact .ok [] _
  · exact .refused _

theorem answerOf_allOrNothing {kind : Nat} {answer : List Byte → State → Answer}
    (h : answerOf kind = some answer) (args : List Byte) (s : State) :
    AllOrNothing s (answer args s) := by
  unfold answerOf at h
  split at h <;> cases h
  · exact .ok (statusBlock s) s
  · exact tableWrite_allOrNothing args s
  · exact tableRead_allOrNothing args s
  · exact allOrNothing_ite (.ok [] _) (.refused _)
  · exact hold_allOrNothing s
  · exact allOrNothing_ite (.ok [] _) (.refused _)
  · exact advance_allOrNothing s
  · exact setStep_allOrNothing args s
  · exact abortCharge_allOrNothing s
  · exact stepAmend_allOrNothing args s
  · exact overrideCommand_allOrNothing args s
  · exact wbSelect_allOrNothing args s
  · exact allOrNothing_ite (.ok [] _) (.refused _)
  · exact surveyAbort_allOrNothing s
  · exact .ok [] _
  · exact clearEvents_allOrNothing args s
  · exact setEventMask_allOrNothing args s
  · exact setReportMode_allOrNothing args s
  · exact setStatusLines_allOrNothing args s

/-- Settles O43: every command is carried out or refused as a whole, and a refusal keeps the machine. -/
theorem refusalChangesNothing : Obligations.RefusalChangesNothing :=
  fun _ _ args s h => (answerOf_allOrNothing h args s).of_refusal

/-! ## READ STATUS (R171, R184): the length of each field -/

@[simp] theorem le16_length (n : Nat) : (le16 n).length = 2 := rfl

@[simp] theorem le24_length (n : Nat) : (le24 n).length = 3 := rfl

@[simp] theorem le32_length (n : Nat) : (le32 n).length = 4 := rfl

@[simp] theorem opt16_length (o : Option Nat) : (opt16 o).length = 2 := by cases o <;> rfl

@[simp] theorem optSigned_length (o : Option Int) : (optSigned o).length = 2 := by cases o <;> rfl

@[simp] theorem setpointBytes_length (o : Option Setpoints) : (setpointBytes o).length = 10 := by
  simp [setpointBytes]

@[simp] theorem chargeStatusBytes_length (c : Charge) : (chargeStatusBytes c).length = 26 := by
  simp [chargeStatusBytes]

/-- The slots of the record fill up to 16 places; the rest of them are absent. -/
theorem evalBytes_length {e : EvalRecord} (h : e.slots.length ≤ 16) : (evalBytes e).length = 37 := by
  simp only [evalBytes, List.length_append, List.length_cons, List.length_nil, List.length_map,
    List.length_replicate, le32_length, opt16_length, optSigned_length]
  omega

/-- The latest evaluation, absent before the first. -/
theorem latestBytes_length {latest : Option EvalRecord}
    (h : ∀ e, latest = some e → e.slots.length ≤ 16) :
    ((latest.map evalBytes).getD (absentRecord 37)).length = 37 := by
  cases latest with
  | none => rfl
  | some e => exact evalBytes_length (h e rfl)

theorem demandBytes_length {c : Climate} (h : c.zones.length = 4) : (demandBytes c).length = 8 := by
  simp [demandBytes, h]

/-- A list laid out in fields of one size. -/
theorem length_flatMap_fields {α : Type} {field : α → List Byte} {size : Nat}
    (h : ∀ a, (field a).length = size) (l : List α) : (l.flatMap field).length = size * l.length := by
  induction l with
  | nil => rfl
  | cons a rest ih =>
    rw [List.flatMap_cons, List.length_append, h, ih, List.length_cons, Nat.mul_succ, Nat.add_comm]

theorem measuredBytes_length {c : Climate} (h : c.zones.length = 4) :
    (measuredBytes c).length = 11 := by
  have hzones : (c.zones.flatMap fun z => optSigned z.measured).length = 8 := by
    rw [length_flatMap_fields (fun z : ZoneLoop => optSigned_length z.measured), h]
  simp only [measuredBytes, List.length_append, hzones, optSigned_length, List.length_cons,
    List.length_nil]

theorem statusBlock_length {s : State} (hzones : s.climate.zones.length = 4)
    (hsources : s.events.sources.length = 4)
    (hlatest : ∀ e, s.evaluator.latest = some e → e.slots.length ≤ 16) :
    (statusBlock s).length = 112 := by
  simp [statusBlock, latestBytes_length hlatest, demandBytes_length hzones,
    measuredBytes_length hzones, comparisonBytes, wbStatusBytes, hsources]

/-! ## The rows of READ STATUS and TABLE READ -/

theorem exec_readStatus {s : State} {src tag : Byte} {args : List Byte}
    (h : s.carries (namedCommand src 0#8 tag args)) :
    exec (.readStatus src tag args) s = .next (finish src 0#8 tag (readStatus s)) :=
  congrArg Host.Outcome.next (namedRow_of_carries h readStatus)

theorem exec_tableRead {s : State} {src tag : Byte} {args : List Byte}
    (h : s.carries (namedCommand src 2#8 tag args)) :
    exec (.tableRead src tag args) s = .next (finish src 2#8 tag (tableRead args s)) :=
  congrArg Host.Outcome.next (namedRow_of_carries h (tableRead args))

/-- Settles O44: the status block field by field, and TABLE READ by the end of its range. -/
theorem statusAndTablesRead : Obligations.StatusAndTablesRead := by
  refine fun s src tag => ⟨fun args => exec_readStatus, statusBlock_length, ?_⟩
  intro table first count rest size records hc hrecords hcount
  refine ⟨fun hin => ?_, fun hout => ?_⟩
  · rw [exec_tableRead hc, tableRead_within hrecords hcount hin]
  · rw [exec_tableRead hc, tableRead_beyond hrecords hout]

/-! ## Event sets (R176, R177, R180) -/

/-- The four bytes of a set, read back. -/
theorem fromBytes_le32 {set : Nat} (h : set < 2 ^ 32) :
    (byte (set % 256)).toNat + 256 * (byte (set / 256)).toNat + 65536 * (byte (set / 65536)).toNat +
      16777216 * (byte (set / 16777216)).toNat = set := by
  simp only [byte, BitVec.toNat_ofNat]
  omega

theorem parseEventSet_le32 {set : Nat} (h : set < 2 ^ 32) (rest : List Byte) :
    parseEventSet (le32 set ++ rest) =
      if set < 2 ^ 25 then some (BitVec.ofNat 25 set) else none := by
  simp only [le32, List.cons_append, List.nil_append, parseEventSet, fromBytes_le32 h]

/-- The bits of a set of events are those of its number. -/
theorem getLsbD_eventSet {set : Nat} (h : set < 2 ^ 25) (n : Nat) :
    (BitVec.ofNat 25 set).getLsbD n = set.testBit n := by
  rw [← BitVec.testBit_toNat, BitVec.toNat_ofNat, Nat.mod_eq_of_lt h]

/-- CLEAR EVENTS clears the flags of its set (R177). -/
theorem clear_flags_getElem? {u : EventUnit} {n : Nat} {f : EventFlag} (hf : u.flags[n]? = some f)
    (set : BitVec 25) :
    (u.clear set).flags[n]? =
      some (if set.getLsbD n = true then { set := false, detail := none } else f) := by
  simp [EventUnit.clear, List.getElem?_map, indexed_getElem?, hf]

section
variable {s : State} {src tag : Byte} {set : Nat} {rest : List Byte}

theorem clearEvents_taken (h : set < 2 ^ 25) :
    clearEvents (le32 set ++ rest) s =
      .ok { s with events := s.events.clear (BitVec.ofNat 25 set) } := by
  rw [clearEvents, parseEventSet_le32 (by omega), if_pos h]

theorem clearEvents_beyond (h32 : set < 2 ^ 32) (h : 2 ^ 25 ≤ set) :
    clearEvents (le32 set ++ rest) s = .refuse .badArgument s := by
  rw [clearEvents, parseEventSet_le32 h32, if_neg (by omega)]

theorem setEventMask_taken (h : set < 2 ^ 25) :
    setEventMask (le32 set ++ rest) s =
      .ok { s with events := { s.events with mask := BitVec.ofNat 25 set } } := by
  rw [setEventMask, parseEventSet_le32 (by omega), if_pos h]

theorem setEventMask_beyond (h32 : set < 2 ^ 32) (h : 2 ^ 25 ≤ set) :
    setEventMask (le32 set ++ rest) s = .refuse .badArgument s := by
  rw [setEventMask, parseEventSet_le32 h32, if_neg (by omega)]

theorem exec_clearEvents {args : List Byte} (h : s.carries (namedCommand src 16#8 tag args)) :
    exec (.clearEvents src tag args) s = .next (finish src 16#8 tag (clearEvents args s)) :=
  congrArg Host.Outcome.next (namedRow_of_carries h (clearEvents args))

theorem exec_setEventMask {args : List Byte} (h : s.carries (namedCommand src 17#8 tag args)) :
    exec (.setEventMask src tag args) s = .next (finish src 17#8 tag (setEventMask args s)) :=
  congrArg Host.Outcome.next (namedRow_of_carries h (setEventMask args))

end

/-- Settles O58: each of the two commands by whether its set names an event above 24. -/
theorem eventSetsTaken : Obligations.EventSetsTaken := by
  intro s src tag set rest h32
  refine ⟨fun hc => ⟨fun h => ?_, fun h => ?_⟩, fun hc => ⟨fun h => ?_, fun h => ?_⟩⟩
  · refine ⟨{ s with events := s.events.clear (BitVec.ofNat 25 set) }, ?_, rfl, rfl, fun n f hf => ?_⟩
    · rw [exec_clearEvents hc, clearEvents_taken h]
    · rw [← getLsbD_eventSet h n]
      exact clear_flags_getElem? hf _
  · rw [exec_clearEvents hc, clearEvents_beyond h32 h]
  · rw [exec_setEventMask hc, setEventMask_taken h]
  · rw [exec_setEventMask hc, setEventMask_beyond h32 h]

end Sys2Proof.Machine.CommandAnswers
end

section
/-! A step as the row of the command in front (assumption 4). -/

namespace Sys2Proof.Machine.Stepping

/-- Settles O1: of the two branches of `step`, by the shape of the queue, a waiting command selects the second. -/
theorem stepRunsFrontOfQueue : Obligations.StepRunsFrontOfQueue := by
  intro c rest s hp
  rw [step, hp]

end Sys2Proof.Machine.Stepping
end

section
/-! The Probe Line Port (chapter 1): what a character, an event and a decision do to it, said once for the obligations
below (R5 to R18). -/

namespace Sys2Proof.Machine.ProbeReception

/-! ## The fault list (R15) -/

/-- A fault list after a place at which a fault may be found. -/
def withFault (found : Bool) (f : LineFault) (l : List LineFault) : List LineFault :=
  if found && !l.contains f then l ++ [f] else l

theorem addFaultIf_eq (p : Plp) (found : Bool) (f : LineFault) :
    p.addFaultIf found f = { p with faults := withFault found f p.faults } := by
  unfold Plp.addFaultIf Plp.addFault withFault
  cases found <;> cases p.faults.contains f <;> rfl

theorem addFault_eq (p : Plp) (f : LineFault) :
    p.addFault f = { p with faults := withFault true f p.faults } :=
  addFaultIf_eq p true f

theorem mem_withFault {found : Bool} {f g : LineFault} {l : List LineFault} :
    g ∈ withFault found f l ↔ g ∈ l ∨ (found = true ∧ g = f) := by
  unfold withFault
  cases found with
  | false => simp
  | true =>
    by_cases h : f ∈ l
    · have : g ∈ l ∨ g = f ↔ g ∈ l := or_iff_left_of_imp fun hg => hg ▸ h
      simp [h, this]
    · simp [h]

theorem withFault_false (f : LineFault) (l : List LineFault) : withFault false f l = l := rfl

/-! ## A character of the response (R1, R8, R11, R15) -/

/-- The fields of a response after one more character, read in a polarity. -/
def fieldsWith (q : Polarity) (fields : List Byte) (bits : LineBits) : List Byte :=
  fields ++ [dataOf (inPolarity q bits)]

theorem takeField_eq (p : Plp) (bits : LineBits) (framing : Bool) :
    p.takeField bits framing =
      { p with
        count := satSucc 41 p.count, fields := fieldsWith (p.sync.getD .normal) p.fields bits,
        faults :=
          withFault framing .framing
            (withFault (oddOnes (inPolarity (p.sync.getD .normal) bits)) .parity p.faults) } := by
  simp only [Plp.takeField, addFaultIf_eq]
  rfl

/-- The payload-length character leaves the response unreadable (R11). -/
def isUnreadable (fields : List Byte) : Bool :=
  (responseKindByte (byteAt fields 1)).isNone || decide (30 < (byteAt fields 3).toNat)

/-- The declared end at the payload-length character (R11). -/
def fixedEnd (fields : List Byte) (before : Option Nat) : Option Nat :=
  match responseKindByte (byteAt fields 1) with
  | some k =>
    if (byteAt fields 3).toNat ≤ 30 then some (5 + (byteAt fields 3).toNat + checkLength k.2)
    else before
  | none => before

theorem fixEnd_eq (p : Plp) :
    p.fixEnd =
      { p with
        declaredEnd := fixedEnd p.fields p.declaredEnd,
        faults := withFault (isUnreadable p.fields) .unreadable p.faults } := by
  unfold Plp.fixEnd fixedEnd isUnreadable
  cases responseKindByte (byteAt p.fields 1) with
  | none => exact addFault_eq p .unreadable
  | some k =>
    by_cases h : (byteAt p.fields 3).toNat ≤ 30
    · simp [Config.maxResponsePayload, h, Nat.not_lt.2 h, withFault_false]
    · simp [Config.maxResponsePayload, h, Nat.lt_of_not_le h, addFault_eq]

theorem closeResponse_eq (p : Plp) :
    p.closeResponse =
      { p with
        phase := if p.declaredEnd = some (p.fields.length + 1) then .trailing else p.phase,
        faults :=
          withFault (decide (p.declaredEnd = some (p.fields.length + 1)) && checkFault p.fields) .check
            p.faults } := by
  unfold Plp.closeResponse
  split
  · next h => rw [addFaultIf_eq]; simp [h]
  · next h => simp [h, withFault_false]

/-- The source address is not the poll's (R15). -/
def isAddressFault (r : Option Request) (fields : List Byte) : Bool :=
  match r with
  | some r => fields.length == 1 && (byteAt fields 0).toNat != r.address
  | none => false

theorem addressFault_eq (p : Plp) : p.addressFault = isAddressFault p.request p.fields := rfl

/-- The declared end after a character has joined the fields. -/
def declaredAfter (fields : List Byte) (before : Option Nat) : Option Nat :=
  if fields.length = 4 then fixedEnd fields before else before

/-- The PLP after a character in RECEIVING (R8, R11, R13 to R15). -/
theorem receiveChar_eq (p : Plp) (bits : LineBits) (framing : Bool) :
    let q := p.sync.getD .normal
    let fields := fieldsWith q p.fields bits
    let declared := declaredAfter fields p.declaredEnd
    let ended := declared = some (fields.length + 1)
    p.receiveChar bits framing =
      { p with
        phase := if ended then .trailing else p.phase, count := satSucc 41 p.count, fields := fields,
        declaredEnd := declared,
        faults :=
          withFault (decide ended && checkFault fields) .check
            (withFault (decide (fields.length = 4) && isUnreadable fields) .unreadable
              (withFault (isAddressFault p.request fields) .address
                (withFault framing .framing
                  (withFault (oddOnes (inPolarity q bits)) .parity p.faults)))) } := by
  dsimp only
  unfold Plp.receiveChar
  rw [closeResponse_eq, addFaultIf_eq, addressFault_eq, takeField_eq]
  dsimp only
  by_cases h : (fieldsWith (p.sync.getD .normal) p.fields bits).length = 4
  · simp only [h, if_true, fixEnd_eq, declaredAfter, decide_true, Bool.true_and]
  · simp only [h, if_false, declaredAfter, decide_false, Bool.false_and, withFault_false]

/-! ## A character by phase (R9, R13, R14, R20) -/

theorem trailChar_eq (p : Plp) (bits : LineBits) (framing : Bool) :
    p.trailChar bits framing =
      { p with
        count := satSucc 41 p.count,
        faults :=
          withFault true .length
            (withFault framing .framing
              (withFault (oddOnes (inPolarity (p.sync.getD .normal) bits)) .parity p.faults)) } := by
  simp only [Plp.trailChar, addFault_eq, addFaultIf_eq]
  rfl

theorem awaitChar_of_sync {p : Plp} {bits : LineBits} {framing : Bool} {q : Polarity}
    (h : syncPolarity bits framing = some q) :
    p.awaitChar bits framing =
      { p with
        phase := .receiving, responseTimer := none, count := satSucc 41 p.count, sync := some q } := by
  unfold Plp.awaitChar; rw [h]; rfl

theorem awaitChar_of_noise {p : Plp} {bits : LineBits} {framing : Bool}
    (h : syncPolarity bits framing = none) :
    p.awaitChar bits framing = { p with count := satSucc 41 p.count } := by
  unfold Plp.awaitChar; rw [h]; rfl

/-- A character counts in a listening phase alone (section 1.4). -/
theorem takeChar_count (p : Plp) (bits : LineBits) (framing : Bool) :
    (p.takeChar bits framing).count = if p.phase.listening then satSucc 41 p.count else p.count := by
  unfold Plp.takeChar
  cases h : p.phase <;> simp only [PlpPhase.listening, if_true] <;> try rfl
  · cases hs : syncPolarity bits framing with
    | none => rw [awaitChar_of_noise hs]
    | some q => rw [awaitChar_of_sync hs]
  · rw [receiveChar_eq]
  · rw [trailChar_eq]

/-- A character of any kind leaves a phase that does not listen, and leads to no other such phase. -/
theorem takeChar_phase (p : Plp) (bits : LineBits) (framing : Bool) :
    (p.phase.listening = false ∧ p.takeChar bits framing = p) ∨
      (p.phase.listening = true ∧ (p.takeChar bits framing).phase.listening = true) := by
  unfold Plp.takeChar
  cases h : p.phase <;> simp only [PlpPhase.listening]
  case await =>
    cases hs : syncPolarity bits framing with
    | none => simp [awaitChar_of_noise hs, h]
    | some q => simp [awaitChar_of_sync hs]
  case receiving => rw [receiveChar_eq]; dsimp only; split <;> simp [h]
  case trailing => simp [trailChar_eq, h]
  all_goals simp

end Sys2Proof.Machine.ProbeReception
end

section
/-! What every step keeps of the counts of the Probe Line Port, the owed counts, the charge's counters and the line
addresses (R14, R18, R32, R41, R99): each operation of the model once. -/

namespace Sys2Proof.Machine.StepBounds

open ProbeReception

/-! ## What an operation keeps, part by part -/

/-- `State.pollPlaced`, which speaks of the Probe Line Port only. -/
def PollPlaced (p : Plp) : Prop :=
  p.phase = .sending → 1 ≤ p.pollNext ∧ p.pollNext ≤ p.poll.length + 1 ∧ p.pollAge < 176

/-- The bounds of the Probe Line Port pass from one port to another. -/
structure PlpKept (p q : Plp) : Prop where
  count : p.count ≤ 41 → q.count ≤ 41
  placed : PollPlaced p → PollPlaced q

/-- The bound of the owed counts, over a table. -/
def OwedBounded (l : List Actuator) : Prop := ∀ a ∈ l, -3 ≤ a.owed ∧ a.owed ≤ 8

/-- One table takes over the line addresses of another, and the bound of its owed counts. -/
structure ActuatorsKept (l m : List Actuator) : Prop where
  owed : OwedBounded l → OwedBounded m
  addresses : m.map (·.address) = l.map (·.address)

/-- The Node Tables keep every line address. -/
structure NodesKept (t u : NodeTables) : Prop where
  probes : u.probes.map (·.node.address) = t.probes.map (·.node.address)
  airs : u.airs.map (·.node.address) = t.airs.map (·.node.address)

/-- `State.countersBounded`, which speaks of the Schedule Engine only. -/
def CountersBounded (e : Schedule) : Prop :=
  e.charge.confirmation ≤ e.params.c ∧ e.charge.blinds ≤ e.params.b

/-- Every bound and the uniqueness of line addresses pass from one state to another. -/
structure Kept (s t : State) : Prop where
  plp : PlpKept s.plp t.plp
  owed : OwedBounded s.outputs.entries → OwedBounded t.outputs.entries
  counters : CountersBounded s.schedule → CountersBounded t.schedule
  unique : s.addressesUnique → t.addressesUnique

theorem PlpKept.refl (p : Plp) : PlpKept p p := ⟨id, id⟩

theorem PlpKept.trans {p q r : Plp} (h : PlpKept p q) (h' : PlpKept q r) : PlpKept p r :=
  ⟨h'.count ∘ h.count, h'.placed ∘ h.placed⟩

theorem ActuatorsKept.refl (l : List Actuator) : ActuatorsKept l l := ⟨id, rfl⟩

theorem NodesKept.refl (t : NodeTables) : NodesKept t t := ⟨rfl, rfl⟩

theorem Kept.refl (s : State) : Kept s s := ⟨.refl _, id, id, id⟩

theorem Kept.trans {s t u : State} (h : Kept s t) (h' : Kept t u) : Kept s u :=
  ⟨h.plp.trans h'.plp, h'.owed ∘ h.owed, h'.counters ∘ h.counters, h'.unique ∘ h.unique⟩

/-! ## Line addresses (R41) -/

theorem filterMap_of_map_eq {α β γ : Type} {f : α → β} {l m : List α} (g : β → Option γ)
    (h : m.map f = l.map f) : (m.filterMap fun x => g (f x)) = l.filterMap fun x => g (f x) := by
  have hg (k : List α) : (k.filterMap fun x => g (f x)) = (k.map f).filterMap g :=
    (List.filterMap_map ..).symm
  rw [hg, hg, h]

/-- The configured records of the three tables depend on their line addresses alone. -/
theorem configuredRecords_congr {ps qs : List ProbeRecord} {as bs : List AirRecord}
    {es fs : List Actuator} (hp : qs.map (·.node.address) = ps.map (·.node.address))
    (ha : bs.map (·.node.address) = as.map (·.node.address))
    (he : fs.map (·.address) = es.map (·.address)) :
    configuredRecords qs bs fs = configuredRecords ps as es :=
  congrArg₂ (· ++ ·)
    (congrArg₂ (· ++ ·) (filterMap_of_map_eq (Option.map fun a => (a, NodeKind.probe)) hp)
      (filterMap_of_map_eq (Option.map fun a => (a, NodeKind.air)) ha))
    (filterMap_of_map_eq (Option.map fun a => (a, NodeKind.actuator)) he)

theorem NodesKept.records {s t : State} (hn : NodesKept s.nodes t.nodes)
    (ha : t.outputs.entries.map (·.address) = s.outputs.entries.map (·.address)) :
    t.records = s.records :=
  configuredRecords_congr hn.probes hn.airs ha

/-! ## Keeping from parts -/

theorem Kept.of_parts {s t : State} (hp : PlpKept s.plp t.plp) (hn : NodesKept s.nodes t.nodes)
    (ha : ActuatorsKept s.outputs.entries t.outputs.entries)
    (hc : CountersBounded s.schedule → CountersBounded t.schedule) : Kept s t where
  plp := hp
  owed := ha.owed
  counters := hc
  unique h := by
    unfold State.addressesUnique at *
    rwa [hn.records ha.addresses]

theorem Kept.of_eq {s t : State} (hp : t.plp = s.plp) (hn : t.nodes = s.nodes)
    (ho : t.outputs = s.outputs) (hs : t.schedule = s.schedule) : Kept s t :=
  .of_parts (hp ▸ .refl _) (hn ▸ .refl _) (ho ▸ .refl _) (hs ▸ id)

theorem Kept.of_plp {s t : State} (hp : PlpKept s.plp t.plp) (hn : t.nodes = s.nodes)
    (ho : t.outputs = s.outputs) (hs : t.schedule = s.schedule) : Kept s t :=
  .of_parts hp (hn ▸ .refl _) (ho ▸ .refl _) (hs ▸ id)

theorem Kept.of_nodes {s t : State} (hn : NodesKept s.nodes t.nodes) (hp : t.plp = s.plp)
    (ho : t.outputs = s.outputs) (hs : t.schedule = s.schedule) : Kept s t :=
  .of_parts (hp ▸ .refl _) hn (ho ▸ .refl _) (hs ▸ id)

theorem Kept.of_actuators {s t : State} (ha : ActuatorsKept s.outputs.entries t.outputs.entries)
    (hp : t.plp = s.plp) (hn : t.nodes = s.nodes) (hs : t.schedule = s.schedule) : Kept s t :=
  .of_parts (hp ▸ .refl _) (hn ▸ .refl _) ha (hs ▸ id)

theorem Kept.of_counters {s t : State} (hc : CountersBounded s.schedule → CountersBounded t.schedule)
    (hp : t.plp = s.plp) (hn : t.nodes = s.nodes) (ho : t.outputs = s.outputs) : Kept s t :=
  .of_parts (hp ▸ .refl _) (hn ▸ .refl _) (ho ▸ .refl _) hc

/-- The operation keeps every bound and the uniqueness of line addresses. -/
def Keeps (f : State → State) : Prop := ∀ s, Kept s (f s)

/-- The command's answer keeps them. -/
def AnswerKeeps (answer : State → Answer) : Prop := Keeps fun s => (answer s).state

theorem keeps_of_eq {f : State → State} (hp : ∀ s, (f s).plp = s.plp)
    (hn : ∀ s, (f s).nodes = s.nodes) (ho : ∀ s, (f s).outputs = s.outputs)
    (hs : ∀ s, (f s).schedule = s.schedule) : Keeps f :=
  fun s => .of_eq (hp s) (hn s) (ho s) (hs s)

theorem Keeps.awake {f : State → State} (h : Keeps f) : Keeps (awake f) := by
  intro s
  cases hr : s.resetHeld with
  | true => rw [awake_of_low hr]; exact .refl s
  | false => rw [awake_of_high hr]; exact h s

theorem Keeps.after {f : State → State} (hf : Keeps f) {s t : State} (h : Kept s t) : Kept s (f t) :=
  h.trans (hf t)

/-! ## The Probe Line Port alone (R5, R14, R18) -/

/-- A port that is not in SENDING, with the character count of another. -/
theorem PlpKept.of_count {p q : Plp} (hc : q.count = p.count) (hq : q.phase ≠ .sending) :
    PlpKept p q :=
  ⟨fun h => hc ▸ h, fun _ h => absurd h hq⟩

/-- A port with the count, the phase and the place in the poll of another. -/
theorem PlpKept.of_same {p q : Plp} (hc : q.count = p.count) (hph : q.phase = p.phase)
    (hpoll : q.poll = p.poll) (hn : q.pollNext = p.pollNext) (ha : q.pollAge = p.pollAge) :
    PlpKept p q :=
  ⟨fun h => hc ▸ h, by unfold PollPlaced; rw [hph, hpoll, hn, ha]; exact id⟩

theorem takeRequest_kept (p : Plp) (params : LineParams) (r : Request) :
    PlpKept p (p.takeRequest params r) :=
  ⟨fun _ => Nat.zero_le _, fun _ h => absurd h (by simp [Plp.takeRequest])⟩

theorem toIdle_kept (p : Plp) : PlpKept p p.toIdle := .of_count rfl (by simp [Plp.toIdle])

theorem abandon_kept (p : Plp) : PlpKept p p.abandon := by
  unfold Plp.abandon
  split
  · next h =>
    refine ⟨id, fun hp _ => ?_⟩
    obtain ⟨h1, h2, h3⟩ := hp h
    exact ⟨h1, by simp only [List.length_take]; omega, h3⟩
  · exact .of_same rfl rfl rfl rfl rfl
  all_goals exact toIdle_kept p

theorem takeChar_kept (p : Plp) (bits : LineBits) (framing : Bool) :
    PlpKept p (p.takeChar bits framing) := by
  constructor
  · rw [takeChar_count]
    split
    · exact fun _ => satSucc_le _ _
    · exact id
  · rcases takeChar_phase p bits framing with ⟨_, h⟩ | ⟨_, h⟩
    · rw [h]; exact id
    · exact fun _ hs => by rw [hs] at h; cases h

theorem addFault_kept (p : Plp) (f : LineFault) : PlpKept p (p.addFault f) := by
  rw [addFault_eq]; exact .of_same rfl rfl rfl rfl rfl

theorem receiver_kept (p : Plp) (r : Receiver) : PlpKept p { p with receiver := r } :=
  .of_same rfl rfl rfl rfl rfl

theorem sendFor_kept (n : Nat) (p : Plp) : PlpKept p (p.sendFor n) := by
  refine ⟨fun h => (sendFor_count n p).symm ▸ h, fun hp hs => ?_⟩
  rw [sendFor_phase] at hs
  obtain ⟨h1, _, _⟩ := hp hs
  unfold Plp.sendFor
  simp only [hs, Config.charSixteenths]
  split
  · next h => exact ⟨by dsimp only; omega, by dsimp only; omega, Nat.mod_lt _ (by decide)⟩
  · exact ⟨Nat.le_add_left _ _, Nat.le_refl _, Nat.zero_lt_succ _⟩

theorem leadEnd_keeps : Keeps leadEnd := by
  intro s
  unfold leadEnd
  split
  · exact .of_plp ⟨id, fun _ _ => ⟨Nat.le_refl _, Nat.le_add_left _ _, Nat.zero_lt_succ _⟩⟩ rfl rfl rfl
  · exact .refl s

theorem pollSent_keeps : Keeps pollSent := by
  intro s
  unfold pollSent
  split
  · next l _ _ _ =>
    refine .of_plp (.of_count rfl ?_) rfl rfl rfl
    unfold Plp.pollSent; dsimp only; split <;> simp
  · exact .refl s

theorem finishAbandonment_keeps : Keeps finishAbandonment := by
  intro s
  unfold finishAbandonment
  split
  · exact .of_plp (toIdle_kept _) rfl rfl rfl
  · exact .refl s

theorem lagEnd_keeps : Keeps lagEnd := by
  intro s
  unfold lagEnd
  split
  · exact .of_plp (.of_count rfl (by simp)) rfl rfl rfl
  · exact finishAbandonment_keeps s
  · exact .refl s

/-! ## Tables with one changed entry -/

theorem map_set_of_eq {α β : Type} (f : α → β) {l : List α} {i : Nat} {a b : α} (h : l[i]? = some a)
    (hb : f b = f a) : (l.set i b).map f = l.map f := by
  rw [List.map_set, hb]
  refine List.ext_getElem? fun j => ?_
  rw [List.getElem?_set]
  split
  · next hj =>
    subst hj
    obtain ⟨hi, rfl⟩ := List.getElem?_eq_some_iff.1 h
    simp [hi]
  · rfl

theorem map_modify_of_eq {α β : Type} (f : α → β) (g : α → α) (h : ∀ a, f (g a) = f a) (l : List α)
    (i : Nat) : (l.modify i g).map f = l.map f := by
  refine List.ext_getElem? fun j => ?_
  rw [List.getElem?_map, List.getElem?_map, List.getElem?_modify]
  cases l[j]? with
  | none => rfl
  | some a =>
    by_cases hij : i = j
    · simp [hij, h a]
    · simp [hij]

theorem OwedBounded.set {l : List Actuator} {i : Nat} {a : Actuator} (h : OwedBounded l)
    (ha : -3 ≤ a.owed ∧ a.owed ≤ 8) : OwedBounded (l.set i a) := by
  intro b hb
  rcases List.mem_or_eq_of_mem_set hb with hb | rfl
  · exact h b hb
  · exact ha

theorem OwedBounded.map {l : List Actuator} {f : Actuator → Actuator} (h : OwedBounded l)
    (hf : ∀ a, -3 ≤ a.owed ∧ a.owed ≤ 8 → -3 ≤ (f a).owed ∧ (f a).owed ≤ 8) : OwedBounded (l.map f) := by
  intro b hb
  obtain ⟨a, ha, rfl⟩ := List.mem_map.1 hb
  exact hf a (h a ha)

theorem OwedBounded.modify {l : List Actuator} {f : Actuator → Actuator} (h : OwedBounded l) (i : Nat)
    (hf : ∀ a, -3 ≤ a.owed ∧ a.owed ≤ 8 → -3 ≤ (f a).owed ∧ (f a).owed ≤ 8) :
    OwedBounded (l.modify i f) := by
  intro b hb
  obtain ⟨j, hj⟩ := List.mem_iff_getElem?.1 hb
  rw [List.getElem?_modify] at hj
  obtain ⟨a, ha, rfl⟩ := Option.map_eq_some_iff.1 hj
  have hbound := h a (List.mem_of_getElem? ha)
  split
  · exact hf a hbound
  · exact hbound

/-! ## The Actuator Table (R32, R33, R145, R146) -/

theorem ActuatorsKept.map {l : List Actuator} {f : Actuator → Actuator}
    (ho : ∀ a, -3 ≤ a.owed ∧ a.owed ≤ 8 → -3 ≤ (f a).owed ∧ (f a).owed ≤ 8)
    (ha : ∀ a, (f a).address = a.address) : ActuatorsKept l (l.map f) :=
  ⟨fun h => h.map ho, by rw [List.map_map]; exact congrArg (List.map · l) (funext ha)⟩

theorem ActuatorsKept.modify {l : List Actuator} {f : Actuator → Actuator} (i : Nat)
    (ho : ∀ a, -3 ≤ a.owed ∧ a.owed ≤ 8 → -3 ≤ (f a).owed ∧ (f a).owed ≤ 8)
    (ha : ∀ a, (f a).address = a.address) : ActuatorsKept l (l.modify i f) :=
  ⟨fun h => h.modify i ho, map_modify_of_eq _ f ha l i⟩

theorem ActuatorsKept.set {l : List Actuator} {i : Nat} {a b : Actuator} (h : l[i]? = some a)
    (ho : -3 ≤ a.owed ∧ a.owed ≤ 8 → -3 ≤ b.owed ∧ b.owed ≤ 8) (ha : b.address = a.address) :
    ActuatorsKept l (l.set i b) :=
  ⟨fun hl => hl.set (ho (hl a (List.mem_of_getElem? h))), map_set_of_eq _ h ha⟩

theorem formAll_keeps : Keeps formAll := fun _ =>
  .of_actuators (.map (fun _ h => h) fun _ => rfl) rfl rfl rfl

theorem setOverride_keeps (i : Nat) (o : Override) : Keeps (setOverride i o) := fun _ =>
  formAll_keeps.after (.of_actuators (.modify i (fun _ h => h) fun _ => rfl) rfl rfl rfl)

theorem raiseAll_keeps (rs : List Raise) : Keeps (raiseAll rs) :=
  keeps_of_eq (raiseAll_plp rs) (raiseAll_nodes rs) (raiseAll_outputs rs) (raiseAll_schedule rs)

theorem ownerActuator_keeps (i : Nat) (o : OutcomeRecord) : Keeps (ownerActuator i o) := by
  intro s
  unfold ownerActuator
  split
  · exact .refl s
  · split
    · exact .refl s
    · next a h =>
      refine (raiseAll_keeps _).after (.of_actuators (.set h ?_ (take_actuator_address ..)) rfl rfl rfl)
      rw [take_actuator_owed]
      exact id

theorem owedAfter_bounds {owed : Int} (o : LineOutcome) (h : -3 ≤ owed ∧ owed ≤ 8) :
    -3 ≤ owedAfter owed o ∧ owedAfter owed o ≤ 8 := by
  cases o <;> simp only [owedAfter, Config.owedLow] <;> omega

theorem creditSet_keeps (i : Nat) (o : LineOutcome) : Keeps (creditSet i o) := by
  intro s
  unfold creditSet
  split
  · exact .refl s
  · exact .of_actuators (.modify i (fun _ => owedAfter_bounds o) fun _ => rfl) rfl rfl rfl

theorem refreshExpiry_keeps (i : Nat) : Keeps (refreshExpiry i) := by
  intro s
  unfold refreshExpiry
  split
  · next a _ h =>
    refine (raiseAll_keeps _).after (.of_actuators (.set h (fun hb => ?_) rfl) rfl rfl rfl)
    simp only [Config.owedHigh]
    omega
  · exact .refl s

theorem refreshSecond_keeps (i : Nat) : Keeps (refreshSecond i) := by
  intro s
  unfold refreshSecond
  split
  · split
    · exact refreshExpiry_keeps i s
    · exact .of_eq rfl rfl rfl rfl
  · exact .refl s

/-! ## The Node Tables keep line addresses (R41, R45 to R61) -/

theorem NodesKept.map {t : NodeTables} {f : ProbeRecord → ProbeRecord} {g : AirRecord → AirRecord}
    (hf : ∀ p, (f p).node.address = p.node.address) (hg : ∀ a, (g a).node.address = a.node.address)
    {u : NodeTables} (hp : u.probes = t.probes.map f) (ha : u.airs = t.airs.map g) : NodesKept t u :=
  ⟨by rw [hp, List.map_map]; exact congrArg (List.map · _) (funext hf),
    by rw [ha, List.map_map]; exact congrArg (List.map · _) (funext hg)⟩

theorem NodesKept.of_eq {t u : NodeTables} (hp : u.probes = t.probes) (ha : u.airs = t.airs) :
    NodesKept t u :=
  ⟨by rw [hp], by rw [ha]⟩

theorem NodesKept.trans {t u v : NodeTables} (h : NodesKept t u) (h' : NodesKept u v) :
    NodesKept t v :=
  ⟨h'.probes.trans h.probes, h'.airs.trans h.airs⟩

theorem quarantineTick_kept (t : NodeTables) : NodesKept t t.quarantineTick :=
  .map (fun p => quarantineTick_address p.node) (fun a => quarantineTick_address a.node) rfl rfl

theorem releaseNode_kept (t : NodeTables) (number : Nat) : NodesKept t (t.releaseNode number) := by
  unfold NodeTables.releaseNode
  split
  · exact ⟨map_modify_of_eq _ _ (fun p => release_address p.node) _ _, rfl⟩
  · exact ⟨rfl, map_modify_of_eq _ _ (fun a => release_address a.node) _ _⟩

theorem ageAirs_kept (t : NodeTables) : NodesKept t t.ageAirs := by
  refine .map (f := id) (fun _ => rfl) (fun a => ?_) (List.map_id _).symm rfl
  split <;> rfl

theorem ageReadings_kept (sweep : Nat) (t : NodeTables) :
    NodesKept t { t with probes := ageReadings sweep t.probes } :=
  .map (f := fun p => { p with reading := p.reading.map (ageReading sweep) }) (g := id)
    (fun _ => rfl) (fun _ => rfl) rfl (List.map_id _).symm

theorem lineReset_kept (t : NodeTables) : NodesKept t t.lineReset :=
  .map (fun p => renew_address p.node) (fun a => renew_address a.node) rfl rfl

theorem nodesRestart_kept (t : NodeTables) : NodesKept t t.restart := by
  refine .map (fun p => ?_) (fun a => ?_) rfl rfl
  · unfold ProbeRecord.restart; split
    · exact renew_address p.node
    · rfl
  · unfold AirRecord.restart; split
    · exact renew_address a.node
    · rfl

theorem nodesIssue_kept (t : NodeTables) (owner : Owner) : NodesKept t (t.issue owner) := by
  cases owner <;> exact .of_eq rfl rfl

theorem ownerProbe_keeps (i : Nat) (o : OutcomeRecord) : Keeps (ownerProbe i o) := by
  intro s
  unfold ownerProbe
  split
  · exact .refl s
  · split
    · exact .refl s
    · next p h =>
      exact (raiseAll_keeps _).after
        (.of_nodes ⟨map_set_of_eq _ h (take_address p.node _ _ o), rfl⟩ rfl rfl rfl)

theorem takeAir_address (s : State) (i : Nat) (a : AirRecord) (o : OutcomeRecord) :
    (takeAir s i a o).1.node.address = a.node.address := by
  unfold takeAir; dsimp only; split <;> exact take_address ..

theorem ownerAir_keeps (i : Nat) (o : OutcomeRecord) : Keeps (ownerAir i o) := by
  intro s
  unfold ownerAir
  split
  · exact .refl s
  · split
    · exact .refl s
    · next a h =>
      exact (raiseAll_keeps _).after
        (.of_nodes ⟨rfl, map_set_of_eq _ h (takeAir_address s i a o)⟩ rfl rfl rfl)

theorem monitor_keeps (o : LineOutcome) : Keeps (monitor o) := fun _ =>
  (raiseAll_keeps _).after (.of_nodes (.of_eq rfl rfl) rfl rfl rfl)

theorem quarantineMinute_keeps : Keeps quarantineMinute := fun s =>
  .of_nodes (quarantineTick_kept s.nodes) rfl rfl rfl

theorem quarantineEnd_keeps (i : Nat) : Keeps (quarantineEnd i) := fun s =>
  .of_nodes (releaseNode_kept s.nodes i) rfl rfl rfl

theorem climateCycle_keeps : Keeps climateCycle := by
  intro s
  unfold climateCycle
  split
  · split
    · exact formAll_keeps.after (.of_eq rfl rfl rfl rfl)
    case h_5 => exact .refl s
    all_goals
      exact (raiseAll_keeps _).after (formAll_keeps.after (.of_eq rfl rfl rfl rfl))
  · exact .refl s

theorem countStateReport_keeps : Keeps countStateReport :=
  keeps_of_eq countStateReport_plp countStateReport_nodes countStateReport_outputs
    countStateReport_schedule

theorem climateExpiry_keeps : Keeps climateExpiry := fun s =>
  countStateReport_keeps.after
    (climateCycle_keeps.after (.of_nodes (ageAirs_kept s.nodes) rfl rfl rfl))

/-! ## The charge's counters (R99, R105 to R107) -/

theorem countersBounded_of_eq {e f : Schedule} (hp : f.params = e.params)
    (hc : f.charge.confirmation = e.charge.confirmation) (hb : f.charge.blinds = e.charge.blinds) :
    CountersBounded e → CountersBounded f := by
  unfold CountersBounded
  rw [hp, hc, hb]
  exact id

/-- A confirmation counter at 0. -/
theorem countersBounded_of_zero {e f : Schedule} (hp : f.params = e.params)
    (hc : f.charge.confirmation = 0) (hb : f.charge.blinds = e.charge.blinds ∨ f.charge.blinds = 0) :
    CountersBounded e → CountersBounded f := by
  unfold CountersBounded
  rw [hp, hc]
  rintro ⟨_, h⟩
  exact ⟨Nat.zero_le _, by omega⟩

theorem countMinute_counters (c : Charge) :
    c.countMinute.confirmation = c.confirmation ∧ c.countMinute.blinds = c.blinds := by
  unfold Charge.countMinute; split <;> exact ⟨rfl, rfl⟩

theorem countAndRamp_counters (e : Schedule) : CountersBounded e → CountersBounded e.countAndRamp := by
  obtain ⟨hc, hb⟩ := countMinute_counters e.charge
  unfold Schedule.countAndRamp
  split <;> exact countersBounded_of_eq rfl hc hb

theorem leave_counters (e : Schedule) : CountersBounded e → CountersBounded e.leave :=
  countersBounded_of_zero (DryingSchedule.leave_params e) (by rw [DryingSchedule.leave_charge]; rfl)
    (.inl (by rw [DryingSchedule.leave_charge]; rfl))

theorem writeAmendment_counters (e : Schedule) :
    CountersBounded e → CountersBounded e.writeAmendment :=
  countersBounded_of_eq (DryingSchedule.writeAmendment_params e)
    (by rw [DryingSchedule.writeAmendment_charge]) (by rw [DryingSchedule.writeAmendment_charge])

theorem applyAmendment_counters (e : Schedule) :
    CountersBounded e → CountersBounded e.applyAmendment := by
  unfold Schedule.applyAmendment
  split
  · exact id
  · exact countersBounded_of_zero rfl rfl (.inl rfl)

theorem confirmationAfter_le {e : Schedule} (ev : EvalRecord)
    (h : e.charge.confirmation ≤ e.params.c) : confirmationAfter e ev ≤ e.params.c := by
  unfold confirmationAfter
  split
  · exact satSucc_le _ _
  · exact Nat.zero_le _
  · exact h

theorem judgedBy_counters (ev : EvalRecord) (e : Schedule) :
    CountersBounded e → CountersBounded (DryingSchedule.judgedBy ev e) := by
  rintro ⟨hc, hb⟩
  unfold DryingSchedule.judgedBy
  split
  · split
    · rw [DryingSchedule.blinded_frame]
      exact ⟨hc, satSucc_le _ _⟩
    · rw [DryingSchedule.sighted_frame]
      exact ⟨confirmationAfter_le ev hc, Nat.zero_le _⟩
  · exact ⟨hc, hb⟩

theorem applyEvaluation_keeps (ev : EvalRecord) : Keeps (applyEvaluation ev) := by
  intro s
  rw [DryingSchedule.applyEvaluation_eq]
  refine (raiseAll_keeps _).after (.of_counters (fun h => ?_) rfl rfl rfl)
  have hj := judgedBy_counters ev _ h
  dsimp only
  split
  · exact applyAmendment_counters _ hj
  · exact hj

theorem enterCooldown_keeps (r : ChargeResult) : Keeps (enterCooldown r) := fun _ =>
  formAll_keeps.after (.of_counters (countersBounded_of_eq rfl rfl rfl) rfl rfl rfl)

theorem raise_keeps (r : Raise) : Keeps (raise r) := raiseAll_keeps [r]

theorem completeCharge_keeps (r : Option ChargeResult) : Keeps (completeCharge r) := fun _ =>
  (raise_keeps _).after
    (formAll_keeps.after (.of_counters (fun h => writeAmendment_counters _ h) rfl rfl rfl))

theorem transition_keeps : Keeps transition := by
  intro s
  have hleft : Kept s (startPulse { s with schedule := s.schedule.leave }) :=
    .of_counters (leave_counters _) rfl rfl rfl
  by_cases hn : s.schedule.hasNext = true
  · rw [DryingSchedule.transition_of_hasNext hn]
    exact (raise_keeps _).after (.of_counters (fun h => leave_counters _ h) rfl rfl rfl)
  · rw [DryingSchedule.transition_of_not_hasNext hn]
    exact hleft.trans (enterCooldown_keeps _ _)

theorem warmupTests_keeps : Keeps warmupTests := by
  intro s
  unfold warmupTests
  split
  · exact .of_counters (countersBounded_of_eq rfl rfl rfl) rfl rfl rfl
  · split
    · exact .of_counters (countersBounded_of_eq rfl rfl rfl) rfl rfl rfl
    · exact .refl s

theorem runningTests_keeps : Keeps runningTests := by
  intro s
  have hmarked :
      Kept s
        (raise (.stepOverdue, some s.schedule.charge.step)
          { s with
            schedule :=
              { s.schedule with charge := { s.schedule.charge with stepOverdue := true } } }) :=
    .of_counters (countersBounded_of_eq rfl rfl rfl) rfl rfl rfl
  unfold runningTests
  split
  · exact transition_keeps s
  · split
    · dsimp only
      split
      · exact hmarked.trans (transition_keeps _)
      · exact hmarked
    · exact .refl s

theorem scheduleMinute_keeps : Keeps scheduleMinute := by
  intro s
  have hcounted : Kept s { s with schedule := s.schedule.countAndRamp } :=
    .of_counters (countAndRamp_counters _) rfl rfl rfl
  unfold scheduleMinute
  dsimp only
  split
  · exact hcounted.trans (warmupTests_keeps _)
  · exact hcounted.trans (runningTests_keeps _)
  · refine hcounted.trans ?_
    unfold cooldownTest
    split
    · exact completeCharge_keeps _ _
    · exact .refl _
  all_goals exact hcounted

theorem reversalExpiry_keeps : Keeps reversalExpiry := by
  intro s
  unfold reversalExpiry
  split
  · exact formAll_keeps.after (.of_eq rfl rfl rfl rfl)
  · exact .refl s

theorem coastExpiry_keeps : Keeps coastExpiry := by
  intro s
  unfold coastExpiry
  split
  · exact formAll_keeps.after (.of_eq rfl rfl rfl rfl)
  · exact .refl s

theorem reversalMinute_keeps : Keeps reversalMinute := by
  intro s
  unfold reversalMinute
  split
  · split
    · exact reversalExpiry_keeps s
    · exact .of_eq rfl rfl rfl rfl
  · exact .refl s

theorem minuteTick_keeps : Keeps minuteTick := fun s =>
  reversalMinute_keeps.after (quarantineMinute_keeps.after (scheduleMinute_keeps s))

/-! ## Sweeps and selections -/

theorem reportEvaluation_keeps (c : Charge) (e : EvalRecord) : Keeps (reportEvaluation c e) :=
  keeps_of_eq (reportEvaluation_plp c e) (reportEvaluation_nodes c e) (reportEvaluation_outputs c e)
    (reportEvaluation_schedule c e)

theorem runEvaluation_keeps (sweep : Nat) : Keeps (runEvaluation sweep) := by
  intro s
  unfold runEvaluation
  dsimp only
  exact (applyEvaluation_keeps _).after ((raiseAll_keeps _).after ((reportEvaluation_keeps _ _).after
    (.of_nodes (ageReadings_kept sweep s.nodes) rfl rfl rfl)))

theorem completeSweep_keeps : Keeps completeSweep := fun s =>
  .trans (runEvaluation_keeps s.line.sweepNumber s) (.of_eq rfl rfl rfl rfl)

theorem startSweep_keeps : Keeps startSweep := by
  intro s
  unfold startSweep
  dsimp only
  split
  · exact completeSweep_keeps.after (.of_eq rfl rfl rfl rfl)
  · exact .of_eq rfl rfl rfl rfl

theorem testSweep_keeps : Keeps testSweep := by
  intro s
  unfold testSweep
  dsimp only
  split
  · split
    · exact startSweep_keeps.after (.trans (completeSweep_keeps s) (.of_eq rfl rfl rfl rfl))
    · exact completeSweep_keeps s
  · exact .refl s

theorem sweepExpiry_keeps : Keeps sweepExpiry := by
  intro s
  unfold sweepExpiry
  dsimp only
  split
  · split <;> exact .of_eq rfl rfl rfl rfl
  · exact startSweep_keeps.after (.of_eq rfl rfl rfl rfl)

theorem outputsIssue_kept (u : Outputs) (owner : Owner) :
    ActuatorsKept u.entries (u.issue owner).entries := by
  cases owner <;> exact .refl _

theorem issue_keeps (r : Request) : Keeps (issue r) := fun _ =>
  .of_parts (takeRequest_kept _ _ _) (nodesIssue_kept _ _) (outputsIssue_kept _ _) id

theorem select_keeps : Keeps select := by
  intro s
  unfold select
  split
  · dsimp only
    split
    · exact (testSweep_keeps s).trans (issue_keeps _ _)
    · exact testSweep_keeps s
  · exact .refl s

/-! ## Deliveries and characters -/

theorem completeSurvey_keeps : Keeps completeSurvey := fun _ =>
  (raiseAll_keeps _).after (.of_eq rfl rfl rfl rfl)

theorem ownerSurvey_keeps (a : Nat) (o : OutcomeRecord) : Keeps (ownerSurvey a o) := by
  intro s
  unfold ownerSurvey
  dsimp only
  split
  · split
    · exact .of_eq rfl rfl rfl rfl
    · exact completeSurvey_keeps.after (.of_eq rfl rfl rfl rfl)
  all_goals exact .of_eq rfl rfl rfl rfl

theorem deliverToOwner_keeps (o : OutcomeRecord) : Keeps (deliverToOwner o) := by
  intro s
  unfold deliverToOwner
  split
  · exact ownerProbe_keeps _ o s
  · exact ownerAir_keeps _ o s
  · exact ownerActuator_keeps _ o s
  · exact ownerSurvey_keeps _ o s

theorem arbiterTake_keeps (before : NodeTables) (o : OutcomeRecord) : Keeps (arbiterTake before o) := by
  intro s
  unfold arbiterTake
  split
  · exact testSweep_keeps.after (.of_eq rfl rfl rfl rfl)
  · exact .of_eq rfl rfl rfl rfl
  · exact creditSet_keeps _ _ s
  · exact .refl s

theorem passThrough_keeps (o : OutcomeRecord) : Keeps (passThrough o) :=
  keeps_of_eq (passThrough_plp o) (passThrough_nodes o) (passThrough_outputs o)
    (passThrough_schedule o)

theorem deliver_keeps (o : OutcomeRecord) : Keeps (deliver o) := fun s =>
  (arbiterTake_keeps _ o).after ((passThrough_keeps o).after ((deliverToOwner_keeps o).after
    ((monitor_keeps o.outcome).after (.of_plp (toIdle_kept s.plp) rfl rfl rfl))))

theorem decideOutcome_keeps (jabbering : Bool) : Keeps (decideOutcome jabbering) := by
  intro s
  unfold decideOutcome
  split
  · exact deliver_keeps _ s
  · exact .refl s

theorem takeCharacter_keeps (bits : LineBits) (framing : Bool) : Keeps (takeCharacter bits framing) := by
  intro s
  have htaken : Kept s { s with plp := s.plp.takeChar bits framing } :=
    .of_plp (takeChar_kept _ _ _) rfl rfl rfl
  unfold takeCharacter
  dsimp only
  split
  · exact htaken.trans (decideOutcome_keeps _ _)
  · exact htaken

theorem hearLevel_keeps (raw : Bool) : Keeps (hearLevel · raw) := by
  intro s
  have hheard (r : Receiver) : Kept s { s with plp := { s.plp with receiver := r } } :=
    .of_plp (receiver_kept _ r) rfl rfl rfl
  unfold hearLevel
  dsimp only
  split
  · exact (hheard _).trans (takeCharacter_keeps _ _ _)
  · exact hheard _

theorem hearLevels_keeps (samples : List Bool) : Keeps (samples.foldl hearLevel) := by
  induction samples with
  | nil => exact .refl
  | cons raw rest ih => exact fun s => (hearLevel_keeps raw s).trans (ih _)

theorem characterReceived_keeps (signal : LineSignal) : Keeps (characterReceived signal) := by
  intro s
  cases signal with
  | char bits framing =>
    exact (takeCharacter_keeps bits framing).after (.of_plp (receiver_kept _ _) rfl rfl rfl)
  | raw samples =>
    exact (hearLevels_keeps samples s).trans (.of_plp (sendFor_kept _ _) rfl rfl rfl)

theorem responseTimeout_keeps : Keeps responseTimeout := by
  intro s
  unfold responseTimeout
  split
  case h_3 => exact .refl s
  all_goals exact deliver_keeps _ s

theorem gapFault_keeps : Keeps gapFault := by
  intro s
  unfold gapFault
  split
  · exact (decideOutcome_keeps _).after (.of_plp (addFault_kept _ _) rfl rfl rfl)
  · exact .refl s

theorem trailingWatchEnd_keeps (inProgress : Bool) : Keeps (trailingWatchEnd inProgress) := by
  intro s
  unfold trailingWatchEnd
  split
  · exact decideOutcome_keeps _ s
  · exact .refl s

/-! ## Resets -/

/-- The machine at its power-on values meets every bound. -/
theorem kept_of_powerOn {s t : State} (hp : t.plp.count = 0 ∧ t.plp.phase = .idle)
    (hn : t.nodes = .powerOn) (ho : t.outputs = State.reset.outputs)
    (hs : t.schedule = State.reset.schedule) : Kept s t where
  plp := ⟨fun _ => by rw [hp.1]; exact Nat.zero_le _, fun _ h => by rw [hp.2] at h; cases h⟩
  owed _ := by
    rw [ho]
    intro a ha
    rw [List.eq_of_mem_replicate ha]
    decide
  counters _ := by rw [hs]; exact ⟨Nat.zero_le _, Nat.zero_le _⟩
  unique _ := by
    unfold State.addressesUnique State.records
    rw [hn, ho]
    decide

theorem resetLow_keeps : Keeps resetLow := fun _ => kept_of_powerOn ⟨rfl, rfl⟩ rfl rfl rfl

theorem resetHigh_keeps (stn : BitVec 5) (prate lrate : Bool) : Keeps (resetHigh stn prate lrate) :=
  fun _ => (raiseAll_keeps _).after (kept_of_powerOn ⟨rfl, rfl⟩ rfl rfl rfl)

theorem lineResetEffect_keeps : Keeps lineResetEffect := fun s =>
  .of_parts (abandon_kept _) (lineReset_kept s.nodes) (.refl _) id

theorem restartEffect_keeps : Keeps restartEffect := fun s =>
  (raiseAll_keeps _).after
    (formAll_keeps.after
      (.of_parts (abandon_kept s.plp) (nodesRestart_kept s.nodes)
        (.map (fun _ _ => by simp [Actuator.restart]) restart_address)
        fun _ => ⟨Nat.zero_le _, Nat.zero_le _⟩))

theorem restartNow_keeps : Keeps restartNow := by
  intro s
  unfold restartNow
  split
  · refine restartEffect_keeps.after ?_
    (repeat' split) <;> exact .of_eq rfl rfl rfl rfl
  · exact .refl s

theorem frameSent_keeps : Keeps frameSent := by
  intro s
  unfold frameSent
  split
  case h_2 =>
    dsimp only
    split
    · exact restartEffect_keeps.after (.of_eq rfl rfl rfl rfl)
    · exact .of_eq rfl rfl rfl rfl
  all_goals exact .of_eq rfl rfl rfl rfl

/-! ## The second tick -/

theorem sweepSecond_keeps : Keeps sweepSecond := by
  intro s
  unfold sweepSecond
  split
  · exact sweepExpiry_keeps s
  · exact .of_eq rfl rfl rfl rfl

theorem coastSecond_keeps : Keeps coastSecond := by
  intro s
  unfold coastSecond
  split
  · split
    · exact coastExpiry_keeps s
    · exact .of_eq rfl rfl rfl rfl
  · exact .refl s

theorem climateSecond_keeps : Keeps climateSecond := by
  intro s
  unfold climateSecond
  split
  · exact climateExpiry_keeps s
  · exact .of_eq rfl rfl rfl rfl

theorem refreshSeconds_keeps (l : List Nat) : Keeps (l.foldl fun s i => refreshSecond i s) := by
  induction l with
  | nil => exact .refl
  | cons i rest ih => exact fun s => (refreshSecond_keeps i s).trans (ih _)

theorem secondTick_keeps : Keeps secondTick := fun s =>
  climateSecond_keeps.after (coastSecond_keeps.after (sweepSecond_keeps.after
    (refreshSeconds_keeps _ s)))

/-! ## Table writes (R36, R41, R97, R99) -/

/-- A write that answers with line addresses judged unique. -/
theorem probeWrite_keeps (args : List Byte) : AnswerKeeps (probeWrite args) := by
  intro s
  unfold probeWrite
  dsimp only
  split
  · exact .refl s
  · split
    · next h => exact ⟨.refl _, id, id, fun _ => h⟩
    · exact .refl s

theorem airWrite_keeps (args : List Byte) : AnswerKeeps (airWrite args) := by
  intro s
  unfold airWrite
  dsimp only
  split
  · exact .refl s
  · split
    · next h => exact ⟨.refl _, id, id, fun _ => (Bool.and_eq_true_iff.1 h).1⟩
    · exact .refl s

theorem write_owed (c : ActuatorConfig) (a : Actuator) (h : -3 ≤ a.owed ∧ a.owed ≤ 8) :
    -3 ≤ (a.write c).owed ∧ (a.write c).owed ≤ 8 := by
  unfold Actuator.write
  dsimp only
  split
  · simp
  · split <;> exact h

theorem putAll_owedBounded (values : List (Nat × ActuatorConfig)) {l : List Actuator}
    (h : OwedBounded l) : OwedBounded (putAll Actuator.write values l) := by
  unfold putAll
  induction values generalizing l with
  | nil => exact h
  | cons v rest ih => exact ih (h.modify _ (write_owed v.2))

theorem actuatorWrite_keeps (args : List Byte) : AnswerKeeps (actuatorWrite args) := by
  intro s
  unfold actuatorWrite
  dsimp only
  split
  · exact .refl s
  · next values adjusted _ =>
    split
    · next h =>
      exact formAll_keeps.after ⟨.refl _, fun hb => putAll_owedBounded values hb, id, fun _ => h⟩
    · exact .refl s

theorem chargeParamsWrite_keeps (args : List Byte) : AnswerKeeps (chargeParamsWrite args) := by
  intro s
  unfold chargeParamsWrite
  dsimp only
  split
  · exact .refl s
  · split
    · exact .refl s
    · exact .of_counters (fun _ => ⟨Nat.min_le_left _ _, Nat.min_le_left _ _⟩) rfl rfl rfl

theorem writeSteps_keeps (values : List (Nat × StepRecord)) : Keeps (writeSteps values) := fun _ =>
  .of_counters (countersBounded_of_eq rfl rfl rfl) rfl rfl rfl

theorem scheduleWrite_keeps (args : List Byte) : AnswerKeeps (scheduleWrite args) := by
  intro s
  unfold scheduleWrite
  dsimp only
  split
  · exact .refl s
  · split
    · exact .refl s
    · exact writeSteps_keeps _ s

theorem tableWriteOf_keeps {table : Nat} {write : List Byte → State → Answer}
    (h : tableWriteOf table = some write) (args : List Byte) : AnswerKeeps (write args) := by
  unfold tableWriteOf at h
  split at h <;> cases h
  · exact probeWrite_keeps args
  · exact airWrite_keeps args
  · exact actuatorWrite_keeps args
  · exact keeps_of_eq (calibrationWrite_plp args) (calibrationWrite_nodes args)
      (calibrationWrite_outputs args) (calibrationWrite_schedule args)
  · exact scheduleWrite_keeps args
  · exact chargeParamsWrite_keeps args
  · exact keeps_of_eq (climateParamsWrite_plp args) (climateParamsWrite_nodes args)
      (climateParamsWrite_outputs args) (climateParamsWrite_schedule args)
  · exact keeps_of_eq (lineParamsWrite_plp args) (lineParamsWrite_nodes args)
      (lineParamsWrite_outputs args) (lineParamsWrite_schedule args)
  · exact keeps_of_eq (passListWrite_plp args) (passListWrite_nodes args)
      (passListWrite_outputs args) (passListWrite_schedule args)

theorem tableWrite_keeps (args : List Byte) : AnswerKeeps (tableWrite args) := by
  intro s
  unfold tableWrite
  split
  · exact .refl s
  · split
    · next h => exact tableWriteOf_keeps h _ s
    · exact .refl s

/-! ## The commands of a charge (R101, R102, R112 to R116, R120) -/

theorem startCharge_keeps : AnswerKeeps startCharge := by
  intro s
  unfold startCharge
  dsimp only
  split
  · exact formAll_keeps.after (.of_counters (countersBounded_of_zero rfl rfl (.inr rfl)) rfl rfl rfl)
  · exact .refl s

theorem withCharge_kept {s : State} {c : Charge} (hc : c.confirmation = s.schedule.charge.confirmation)
    (hb : c.blinds = s.schedule.charge.blinds) : Kept s (s.withCharge c) :=
  .of_counters (countersBounded_of_eq rfl hc hb) rfl rfl rfl

theorem enterHold_keeps (r : ReturnState) : Keeps (enterHold r) := fun _ =>
  (raise_keeps _).after (withCharge_kept rfl rfl)

theorem hold_keeps : AnswerKeeps hold := by
  intro s
  unfold hold
  dsimp only
  split
  · exact enterHold_keeps _ s
  · exact enterHold_keeps _ s
  · exact withCharge_kept rfl rfl
  all_goals exact .refl s

theorem resume_keeps : AnswerKeeps resume := by
  intro s
  unfold resume
  dsimp only
  split
  · refine withCharge_kept ?_ ?_ <;>
      rw [Charge.resume, DryingSchedule.returnIfFree_frame]
  · exact .refl s

theorem advance_keeps : AnswerKeeps advance := by
  intro s
  unfold advance
  dsimp only
  split
  case h_1 | h_2 => exact transition_keeps.after (withCharge_kept rfl rfl)
  all_goals exact .refl s

theorem takeStep_keeps (k : Nat) : Keeps (takeStep k) := fun s =>
  (raise_keeps _).after
    (.of_counters (fun h => leave_counters (s.withCharge s.schedule.charge.endWarmup).schedule h)
      rfl rfl rfl)

theorem setStep_keeps (args : List Byte) : AnswerKeeps (setStep args) := by
  intro s
  unfold setStep
  dsimp only
  split
  · exact .refl s
  · split
    · exact .refl s
    · split
      · exact takeStep_keeps _ s
      · exact .refl s

theorem abortCharge_keeps : AnswerKeeps abortCharge := by
  intro s
  unfold abortCharge
  dsimp only
  split
  case h_1 | h_2 | h_3 => exact enterCooldown_keeps _ s
  case h_4 => exact completeCharge_keeps _ s
  all_goals exact .refl s

theorem amend_keeps (i : Nat) (r : StepRecord) (adjusted : Bool) : AnswerKeeps (amend i r adjusted) := by
  intro s
  unfold amend
  dsimp only
  split
  · split
    · exact .refl s
    · exact withCharge_kept rfl rfl
  · exact writeSteps_keeps _ s

theorem stepAmend_keeps (args : List Byte) : AnswerKeeps (stepAmend args) := by
  intro s
  unfold stepAmend
  dsimp only
  split
  · exact .refl s
  · split
    · exact .refl s
    · split
      · exact amend_keeps _ _ _ s
      · exact .refl s

theorem overrideCommand_keeps (args : List Byte) : AnswerKeeps (overrideCommand args) := by
  intro s
  unfold overrideCommand
  dsimp only
  split
  · split
    · exact setOverride_keeps _ _ s
    · exact .refl s
  · exact .refl s

theorem wbSelect_keeps (args : List Byte) : AnswerKeeps (wbSelect args) := by
  intro s
  have hwb (w : WbSelection) : Kept s (s.withWb w) := .of_nodes (.of_eq rfl rfl) rfl rfl rfl
  unfold wbSelect
  dsimp only
  split
  · split
    · split
      · exact hwb _
      · exact hwb _
    · exact .refl s
  · exact .refl s

/-! ## COMMANDs -/

theorem answerOf_keeps {kind : Nat} {answer : List Byte → State → Answer}
    (h : answerOf kind = some answer) (args : List Byte) : AnswerKeeps (answer args) := by
  unfold answerOf at h
  split at h <;> cases h
  · exact fun s => .refl s
  · exact tableWrite_keeps args
  · exact fun s => by dsimp only; rw [tableRead_state]; exact .refl s
  · exact startCharge_keeps
  · exact hold_keeps
  · exact resume_keeps
  · exact advance_keeps
  · exact setStep_keeps args
  · exact abortCharge_keeps
  · exact stepAmend_keeps args
  · exact overrideCommand_keeps args
  · exact wbSelect_keeps args
  · exact keeps_of_eq surveyStart_plp surveyStart_nodes surveyStart_outputs surveyStart_schedule
  · exact keeps_of_eq surveyAbort_plp surveyAbort_nodes surveyAbort_outputs surveyAbort_schedule
  · exact lineResetEffect_keeps
  · exact keeps_of_eq (clearEvents_plp args) (clearEvents_nodes args) (clearEvents_outputs args)
      (clearEvents_schedule args)
  · exact keeps_of_eq (setEventMask_plp args) (setEventMask_nodes args) (setEventMask_outputs args)
      (setEventMask_schedule args)
  · exact keeps_of_eq (setReportMode_plp args) (setReportMode_nodes args) (setReportMode_outputs args)
      (setReportMode_schedule args)
  · exact keeps_of_eq (setStatusLines_plp args) (setStatusLines_nodes args)
      (setStatusLines_outputs args) (setStatusLines_schedule args)

theorem takeRestart_keeps (c : LoopCommand) (source kind tag : Byte) :
    Keeps (takeRestart c source kind tag) := by
  intro s
  unfold takeRestart
  split
  · exact .of_eq rfl rfl rfl rfl
  · exact restartEffect_keeps s

/-- The REPLY and the turn of the next COMMAND touch none of it. -/
theorem finish_keeps (source kind tag : Byte) {answer : State → Answer} (h : AnswerKeeps answer) :
    Keeps fun s => finish source kind tag (answer s) := fun s =>
  (h s).trans (.of_eq rfl rfl rfl rfl)

theorem carryOut_keeps (c : LoopCommand) : Keeps (carryOut c) := by
  intro s
  unfold carryOut
  split
  · exact .of_eq rfl rfl rfl rfl
  · exact .of_eq rfl rfl rfl rfl
  · split
    · exact takeRestart_keeps _ _ _ _ s
    · split
      · next h => exact finish_keeps _ _ _ (answerOf_keeps h _) s
      · exact .of_eq rfl rfl rfl rfl

theorem carryCurrent_keeps : Keeps carryCurrent := by
  intro s
  unfold carryCurrent
  split
  · split
    · exact .refl s
    · exact carryOut_keeps _ s
  · exact .refl s

theorem commandRow_keeps (c : LoopCommand) {carry : State → State} (h : Keeps carry) :
    Keeps (commandRow c carry) := by
  intro s
  rcases commandRow_cases c carry s with heq | heq | heq <;> rw [heq]
  · exact .refl s
  · exact h s
  · exact .of_eq (arrive_plp c s) (arrive_nodes c s) (arrive_outputs c s) (arrive_schedule c s)

/-- A row of a command whose answer is that of a command kind. -/
theorem kindRow_keeps {kind : Nat} {answer : List Byte → State → Answer}
    (h : answerOf kind = some answer) (src k tag : Byte) (args more : List Byte) :
    Keeps (namedRow src k tag args (answer more)) :=
  commandRow_keeps _ (finish_keeps src k tag (answerOf_keeps h more))

/-- A row of TABLE WRITE for one table. -/
theorem tableRow_keeps {table : Nat} {write : List Byte → State → Answer}
    (h : tableWriteOf table = some write) (src k tag : Byte) (args more : List Byte) :
    Keeps (namedRow src k tag args (write more)) :=
  commandRow_keeps _ (finish_keeps src k tag (tableWriteOf_keeps h more))

/-! ## Every row, and every step -/

theorem exec_kept (i : Instr) (s : State) : ∃ t, exec i s = .next t ∧ Kept s t := by
  cases i with
  | readStatus => exact ⟨_, rfl, kindRow_keeps (kind := 0) rfl _ _ _ _ [] s⟩
  | tableWrite => exact ⟨_, rfl, kindRow_keeps (kind := 1) rfl _ _ _ _ _ s⟩
  | tableWriteProbe => exact ⟨_, rfl, tableRow_keeps (table := 0) rfl _ _ _ _ _ s⟩
  | tableWriteAirpoint => exact ⟨_, rfl, tableRow_keeps (table := 1) rfl _ _ _ _ _ s⟩
  | tableWriteActuator => exact ⟨_, rfl, tableRow_keeps (table := 2) rfl _ _ _ _ _ s⟩
  | tableWriteCalibration => exact ⟨_, rfl, tableRow_keeps (table := 3) rfl _ _ _ _ _ s⟩
  | tableWriteSchedule => exact ⟨_, rfl, tableRow_keeps (table := 4) rfl _ _ _ _ _ s⟩
  | tableWriteChargeParams => exact ⟨_, rfl, tableRow_keeps (table := 5) rfl _ _ _ _ _ s⟩
  | tableWriteClimateParams => exact ⟨_, rfl, tableRow_keeps (table := 6) rfl _ _ _ _ _ s⟩
  | tableWriteLineParams => exact ⟨_, rfl, tableRow_keeps (table := 7) rfl _ _ _ _ _ s⟩
  | tableWritePassList => exact ⟨_, rfl, tableRow_keeps (table := 8) rfl _ _ _ _ _ s⟩
  | tableRead => exact ⟨_, rfl, kindRow_keeps (kind := 2) rfl _ _ _ _ _ s⟩
  | startCharge => exact ⟨_, rfl, kindRow_keeps (kind := 3) rfl _ _ _ _ [] s⟩
  | hold => exact ⟨_, rfl, kindRow_keeps (kind := 4) rfl _ _ _ _ [] s⟩
  | resume => exact ⟨_, rfl, kindRow_keeps (kind := 5) rfl _ _ _ _ [] s⟩
  | advance => exact ⟨_, rfl, kindRow_keeps (kind := 6) rfl _ _ _ _ [] s⟩
  | setStep => exact ⟨_, rfl, kindRow_keeps (kind := 7) rfl _ _ _ _ _ s⟩
  | abortCharge => exact ⟨_, rfl, kindRow_keeps (kind := 8) rfl _ _ _ _ [] s⟩
  | stepAmend => exact ⟨_, rfl, kindRow_keeps (kind := 9) rfl _ _ _ _ _ s⟩
  | override => exact ⟨_, rfl, kindRow_keeps (kind := 10) rfl _ _ _ _ _ s⟩
  | wbSelect => exact ⟨_, rfl, kindRow_keeps (kind := 11) rfl _ _ _ _ _ s⟩
  | surveyStart => exact ⟨_, rfl, kindRow_keeps (kind := 12) rfl _ _ _ _ [] s⟩
  | surveyAbort => exact ⟨_, rfl, kindRow_keeps (kind := 13) rfl _ _ _ _ [] s⟩
  | lineReset => exact ⟨_, rfl, kindRow_keeps (kind := 14) rfl _ _ _ _ [] s⟩
  | restart => exact ⟨_, rfl, commandRow_keeps _ (takeRestart_keeps _ _ _ _) s⟩
  | clearEvents => exact ⟨_, rfl, kindRow_keeps (kind := 16) rfl _ _ _ _ _ s⟩
  | setEventMask => exact ⟨_, rfl, kindRow_keeps (kind := 17) rfl _ _ _ _ _ s⟩
  | setReportMode => exact ⟨_, rfl, kindRow_keeps (kind := 18) rfl _ _ _ _ _ s⟩
  | setStatusLines => exact ⟨_, rfl, kindRow_keeps (kind := 19) rfl _ _ _ _ _ s⟩
  | unknownCommand => exact ⟨_, rfl, commandRow_keeps _ (carryOut_keeps _) s⟩
  | restartEffect => exact ⟨_, rfl, restartNow_keeps.awake s⟩
  | resetAssert => exact ⟨_, rfl, resetLow_keeps s⟩
  | resetRelease stn prate lrate =>
    refine ⟨_, rfl, ?_⟩
    split
    · exact resetHigh_keeps stn prate lrate s
    · exact .refl s
  | minuteTick => exact ⟨_, rfl, minuteTick_keeps.awake s⟩
  | quarantineEnd node => exact ⟨_, rfl, (quarantineEnd_keeps node.val).awake s⟩
  | sweepTimerExpiry => exact ⟨_, rfl, sweepExpiry_keeps.awake s⟩
  | climateCycleExpiry => exact ⟨_, rfl, climateExpiry_keeps.awake s⟩
  | refreshTimerExpiry index => exact ⟨_, rfl, (refreshExpiry_keeps index.val).awake s⟩
  | reversalTimerExpiry => exact ⟨_, rfl, reversalExpiry_keeps.awake s⟩
  | coastTimerExpiry => exact ⟨_, rfl, coastExpiry_keeps.awake s⟩
  | stepPulseEnd =>
    exact ⟨_, rfl, (show Keeps pulseEnd from fun _ => .of_eq rfl rfl rfl rfl).awake s⟩
  | lineSelect => exact ⟨_, rfl, select_keeps.awake s⟩
  | leadEnd => exact ⟨_, rfl, leadEnd_keeps.awake s⟩
  | pollSent => exact ⟨_, rfl, pollSent_keeps.awake s⟩
  | lagEnd => exact ⟨_, rfl, lagEnd_keeps.awake s⟩
  | characterReceived signal => exact ⟨_, rfl, (characterReceived_keeps signal).awake s⟩
  | responseTimeout => exact ⟨_, rfl, responseTimeout_keeps.awake s⟩
  | gapFault => exact ⟨_, rfl, gapFault_keeps.awake s⟩
  | trailingWatchEnd b => exact ⟨_, rfl, (trailingWatchEnd_keeps b).awake s⟩
  | abandonmentComplete => exact ⟨_, rfl, finishAbandonment_keeps.awake s⟩
  | loopFrameReceived signal how =>
    exact ⟨_, rfl, (keeps_of_eq (loopHeard_plp signal how) (loopHeard_nodes signal how)
      (loopHeard_outputs signal how) (loopHeard_schedule signal how)).awake s⟩
  | loopOutFrameSent => exact ⟨_, rfl, frameSent_keeps.awake s⟩
  | loopOutHandover =>
    exact ⟨_, rfl, (keeps_of_eq handOver_plp handOver_nodes handOver_outputs
      handOver_schedule).awake s⟩

theorem idle_keeps : Keeps idle := by
  intro s
  unfold idle
  split
  · exact .refl s
  · split
    · exact carryCurrent_keeps s
    · exact secondTick_keeps s

theorem step_kept {s t : State} (h : step s = .next t) : Kept s t := by
  unfold step at h
  split at h
  · cases h
    exact idle_keeps s
  · next c rest _ =>
    obtain ⟨u, hu, hkept⟩ := exec_kept c { s with pending := rest }
    cases hu.symm.trans h
    exact Kept.trans (t := { s with pending := rest }) (.of_eq rfl rfl rfl rfl) hkept

/-- Settles O6: every operation keeps each bound in the part of the state it speaks of. -/
theorem countsStayBounded : Obligations.CountsStayBounded :=
  ⟨fun _ _ h hstep => (step_kept hstep).plp.count h,
    fun _ _ h hstep => (step_kept hstep).plp.placed h,
    fun _ _ h hstep => (step_kept hstep).owed h,
    fun _ _ h hstep => (step_kept hstep).counters h⟩

/-- Settles O7: only the writes of the three tables change a line address, and they judge the tables as written. -/
theorem addressesStayUnique : Obligations.AddressesStayUnique :=
  fun _ _ h hstep => (step_kept hstep).unique h

end Sys2Proof.Machine.StepBounds
end

section
/-! The second tick, the state after reset, the end of a quarantine, a refresh timer's expiry and WB SELECT (R24, R32,
R34, R43, R53). -/

namespace Sys2Proof.Machine.TimersAndReset

/-! ## The second tick (R24) -/

/-- A stopped refresh timer counts nothing. -/
theorem refreshSecond_of_stopped {i : Nat} {s : State}
    (h : s.line.refreshTimers = List.replicate 12 none) : refreshSecond i s = s := by
  unfold refreshSecond
  split
  · next left hleft =>
    rw [h, List.getElem?_replicate] at hleft
    split at hleft <;> cases hleft
  · rfl

theorem refreshSeconds_of_stopped (l : List Nat) {s : State}
    (h : s.line.refreshTimers = List.replicate 12 none) :
    l.foldl (fun s i => refreshSecond i s) s = s := by
  induction l with
  | nil => rfl
  | cons i rest ih => rw [List.foldl_cons, refreshSecond_of_stopped h, ih]

theorem sweepSecond_of_running {s : State} {m : Nat} (h : s.line.sweepTimer = m + 2) :
    sweepSecond s = { s with line := { s.line with sweepTimer := m + 1 } } := by
  rw [sweepSecond, if_neg (by omega), h]; rfl

theorem coastSecond_of_stopped {s : State} (h : s.climate.coastTimer = none) : coastSecond s = s := by
  rw [coastSecond, h]

theorem climateSecond_of_running {s : State} {n : Nat} (h : s.line.climateTimer = n + 2) :
    climateSecond s = { s with line := { s.line with climateTimer := n + 1 } } := by
  rw [climateSecond, if_neg (by omega), h]; rfl

/-- With nothing waiting and no COMMAND held, a step is a second tick. -/
theorem step_eq_secondTick {s : State} (hp : s.pending = []) (hr : s.resetHeld = false)
    (hc : s.command.current = none) : step s = .next (secondTick s) := by
  simp [step, hp, idle, hr, hc]

/-- Settles O3: of the four parts of a second tick, only the sweep timer and the climate cycle timer count. -/
theorem secondTickCountsDown : Obligations.SecondTickCountsDown := by
  intro s m n hp hr hc hrefresh hcoast hsweep hclimate
  rw [step_eq_secondTick hp hr hc, secondTick, refreshSeconds_of_stopped _ hrefresh,
    sweepSecond_of_running hsweep, coastSecond_of_stopped, climateSecond_of_running (n := n)]
  · exact hclimate
  · exact hcoast

/-! ## The state after reset -/

/-- Settles O4: the queues are empty, the counts are 0, no record is configured and no charge is active. -/
theorem resetMeetsTheLaws : Obligations.ResetMeetsTheLaws := by
  have hqueues : State.reset.queuesBounded :=
    ⟨Nat.zero_le _, Nat.zero_le _, Nat.zero_le _, Nat.zero_le _⟩
  have howed : State.reset.owedBounded := fun a ha => by
    rw [List.eq_of_mem_replicate ha]
    decide
  exact ⟨hqueues, Nat.zero_le _, Nat.zero_le _, nofun, howed, ⟨Nat.zero_le _, Nat.zero_le _⟩,
    (by decide : uniqueAddresses State.reset.records = true), DryingSchedule.reset_stepHeld,
    .inl rfl⟩

/-! ## The end of a quarantine (R53, R54) -/

theorem exec_quarantineEnd {s : State} (h : s.resetHeld = false) (k : Fin 72) :
    exec (.quarantineEnd k) s = .next (quarantineEnd k.val s) :=
  congrArg Host.Outcome.next (awake_of_high h _)

theorem release_of_isolated {n : NodeRecord} (h : n.state = .isolated) :
    n.release =
      { n with state := .unseen, window := [], misses := 0, lastSequence := none, quarantine := none } :=
  if_pos h

theorem releaseNode_probe {t : NodeTables} {k : Nat} {p : ProbeRecord} (hk : k < 64)
    (hp : t.probes[k]? = some p) :
    t.releaseNode k = { t with probes := t.probes.set k { p with node := p.node.release } } := by
  rw [NodeTables.releaseNode, show Config.probeSlots = 64 from rfl, if_pos hk, modify_of_getElem? _ hp]

theorem releaseNode_air {t : NodeTables} {k : Nat} {a : AirRecord} (hk : 64 ≤ k)
    (ha : t.airs[k - 64]? = some a) :
    t.releaseNode k = { t with airs := t.airs.set (k - 64) { a with node := a.node.release } } := by
  rw [NodeTables.releaseNode, show Config.probeSlots = 64 from rfl, if_neg (Nat.not_lt.2 hk),
    modify_of_getElem? _ ha]

/-- Settles O23: a node number below 64 releases that probe slot, one from 64 on an air point. -/
theorem quarantineEnds : Obligations.QuarantineEnds := by
  intro k s hr
  refine ⟨fun p hk hp hiso => ?_, fun a hk ha hiso => ?_⟩
  · rw [exec_quarantineEnd hr, quarantineEnd, releaseNode_probe hk hp, release_of_isolated hiso]
  · rw [exec_quarantineEnd hr, quarantineEnd, releaseNode_air hk ha, release_of_isolated hiso]

/-! ## A refresh timer expiry (R24, R32, R34) -/

theorem exec_refreshTimerExpiry {s : State} (h : s.resetHeld = false) (i : Fin 12) :
    exec (.refreshTimerExpiry i) s = .next (refreshExpiry i.val s) :=
  congrArg Host.Outcome.next (awake_of_high h _)

/-- A running refresh timer at its end. -/
theorem refreshExpiry_of_running {i left : Nat} {s : State} {a : Actuator}
    (ht : s.line.refreshTimers[i]? = some (some left)) (ha : s.outputs.entries[i]? = some a) :
    refreshExpiry i s =
      raiseAll (if min 8 (a.owed + 1) = 8 then [(.actuatorStarved, some i)] else [])
        { s with
          outputs :=
            { s.outputs with entries := s.outputs.entries.set i { a with owed := min 8 (a.owed + 1) } },
          line :=
            { s.line with
              refreshTimers := s.line.refreshTimers.set i (some s.lineParams.refresh),
              retryWait := s.line.retryWait.set i false } } := by
  rw [refreshExpiry, ht, ha]
  rfl

theorem refreshExpiry_of_stopped {i : Nat} {s : State} (ht : s.line.refreshTimers[i]? = some none) :
    refreshExpiry i s = s := by
  rw [refreshExpiry, ht]

/-- Settles O31: the owed count stays below 8 or saturates there. -/
theorem refreshTimerExpires : Obligations.RefreshTimerExpires := by
  intro s i a hr ha
  refine ⟨fun left ht howed => ?_, fun left ht howed => ?_, fun ht => ?_⟩
  · have hmin : min (8 : Int) (a.owed + 1) = a.owed + 1 := by omega
    rw [exec_refreshTimerExpiry hr, refreshExpiry_of_running ht ha, hmin, if_neg (by omega), raiseAll_nil]
  · have hmin : min (8 : Int) (a.owed + 1) = 8 := by omega
    rw [exec_refreshTimerExpiry hr, refreshExpiry_of_running ht ha, hmin, if_pos rfl, raiseAll_cons,
      raiseAll_nil]
  · rw [exec_refreshTimerExpiry hr, refreshExpiry_of_stopped ht]

/-! ## WB SELECT (R43) -/

theorem exec_wbSelect {s : State} {src tag : Byte} {args : List Byte}
    (h : s.carries (namedCommand src 11#8 tag args)) :
    exec (.wbSelect src tag args) s = .next (finish src 11#8 tag (wbSelect args s)) :=
  congrArg Host.Outcome.next (namedRow_of_carries h _)

/-- The index names a configured entry with role WB. -/
theorem wbAt_iff (t : NodeTables) (i : Nat) :
    t.wbAt i = true ↔ ∃ a, t.airs[i]? = some a ∧ a.node.address ≠ none ∧ a.role = .wb := by
  unfold NodeTables.wbAt
  cases t.airs[i]? <;> simp [AirRecord.isWb, Option.isSome_iff_ne_none]

theorem wbSelect_of_wb {s : State} {p q : Byte} (rest : List Byte)
    (hp : s.nodes.wbAt p.toNat = true) (hq : s.nodes.wbAt q.toNat = true) :
    wbSelect (p :: q :: rest) s =
      if p = q then .done true (s.withWb .default)
      else .ok (s.withWb (.explicit p.toNat q.toNat)) := by
  rw [wbSelect, if_pos (by rw [hp, hq]; rfl)]

theorem wbSelect_of_not_wb {s : State} {p q : Byte} (rest : List Byte)
    (h : ¬(s.nodes.wbAt p.toNat = true ∧ s.nodes.wbAt q.toNat = true)) :
    wbSelect (p :: q :: rest) s = .refuse .badArgument s := by
  rw [wbSelect, if_neg (by rwa [Bool.and_eq_true])]

/-- Settles O56: two indices that name WB entries are different or equal; any other is refused. -/
theorem wbSelectionJudged : Obligations.WbSelectionJudged := by
  intro s src tag p q rest hc
  simp only [← wbAt_iff, exec_wbSelect hc]
  refine ⟨fun hp hq hne => ?_, fun hp hq heq => ?_, fun h => ?_⟩
  · rw [wbSelect_of_wb rest hp hq, if_neg hne]; rfl
  · rw [wbSelect_of_wb rest hp hq, if_pos heq]; rfl
  · rw [wbSelect_of_not_wb rest (not_and_or.2 h)]

end Sys2Proof.Machine.TimersAndReset
end

section
/-! Polls, their checks, and the decision of an outcome (R1, R3, R5 to R7, R10, R12, R13, R15, R185). -/

namespace Sys2Proof.Machine.ProbeReception

/-! ## The CRC-16 over its own two bytes (R185) -/

/-- The register's top bit as message bit shifts the register. -/
theorem crcBit_msb (r : Word16) : crcBit r r.msb = r <<< 1 := by simp [crcBit]

/-- The top byte of the register as message byte shifts it out. -/
theorem crcByte_top (r : Word16) (b : Byte) (h : ∀ i < 8, b.getLsbD i = r.getLsbD (i + 8)) :
    crcByte r b = r <<< 8 := by
  have shifted (k : Nat) (hk : k < 8) : crcBit (r <<< k) (b.getLsbD (7 - k)) = r <<< (k + 1) := by
    have hmsb : b.getLsbD (7 - k) = (r <<< k).msb := by
      rw [h _ (by omega), BitVec.msb_eq_getLsbD_last, BitVec.getLsbD_shiftLeft]
      simp [show ¬16 - 1 < k by omega, show 7 - k + 8 = 16 - 1 - k by omega]
    rw [hmsb, crcBit_msb, BitVec.shiftLeft_add]
  have h0 := shifted 0 (by decide)
  rw [BitVec.shiftLeft_zero] at h0
  show crcBit (crcBit (crcBit (crcBit (crcBit (crcBit (crcBit (crcBit r (b.getLsbD (7 - 0)))
    (b.getLsbD (7 - 1))) (b.getLsbD (7 - 2))) (b.getLsbD (7 - 3))) (b.getLsbD (7 - 4)))
    (b.getLsbD (7 - 5))) (b.getLsbD (7 - 6))) (b.getLsbD (7 - 7)) = r <<< 8
  rw [h0, shifted 1 (by decide), shifted 2 (by decide), shifted 3 (by decide), shifted 4 (by decide),
    shifted 5 (by decide), shifted 6 (by decide), shifted 7 (by decide)]

theorem byte_high_getLsbD (r : Word16) {i : Nat} (hi : i < 8) :
    (byte (r.toNat / 256)).getLsbD i = r.getLsbD (i + 8) := by
  rw [byte, BitVec.getLsbD_ofNat, BitVec.getLsbD, show r.toNat / 256 = r.toNat >>> 8 from
    (Nat.shiftRight_eq_div_pow _ 8).symm, Nat.testBit_shiftRight, Nat.add_comm]
  simp [hi]

theorem byte_low_getLsbD (r : Word16) {i : Nat} (hi : i < 8) :
    (byte (r.toNat % 256)).getLsbD i = r.getLsbD i := by
  rw [byte, BitVec.getLsbD_ofNat, BitVec.getLsbD, Nat.testBit_mod_two_pow (j := 8)]
  simp [hi]

/-- The CRC-16 taken on over its own two bytes leaves the register at 0 (R185). -/
theorem crc16_append_crcBytes (l : List Byte) : crc16 (l ++ crcBytes l) = 0#16 := by
  have hhigh := crcByte_top (crc16 l) (byte ((crc16 l).toNat / 256)) fun _ hi => byte_high_getLsbD _ hi
  have hlow := crcByte_top (crc16 l <<< 8) (byte ((crc16 l).toNat % 256)) fun i hi => by
    rw [byte_low_getLsbD _ hi, BitVec.getLsbD_shiftLeft]
    simp [show i + 8 < 16 by omega]
  have hfold : crc16 (l ++ crcBytes l) =
      crcByte (crcByte (crc16 l) (byte ((crc16 l).toNat / 256))) (byte ((crc16 l).toNat % 256)) := by
    rw [crc16, List.foldl_append]; rfl
  rw [hfold, hhigh, hlow, ← BitVec.shiftLeft_add]
  exact BitVec.shiftLeft_eq_zero (by decide)

/-- The LRC makes the sum of what it covers 0 modulo 256 (R185). -/
theorem byteSum_append_lrcByte (l : List Byte) : byteSum (l ++ [lrcByte l]) = 0#8 := by
  rw [byteSum, List.foldl_append]
  show byteSum l + (0#8 - byteSum l) = 0#8
  simp

/-! ## The characters of a poll (R6, R7) -/

theorem pollChars_length (r : Request) :
    (pollChars r).length = 5 + (r.argument.map valueCode).toList.length := by
  simp [pollChars, pollFields, crcBytes]; omega

theorem pollChars_inPolarity (r : Request) :
    (pollChars r).map (inPolarity r.polarity) =
      (syncChar :: (pollFields r ++ crcBytes (pollFields r)).map charOf) := by
  rw [pollChars, List.map_map]
  exact (List.map_congr_left fun c _ => inPolarity_twice r.polarity c).trans (List.map_id _)

/-- Settles O11: the length from the fields, the polarity applied twice, even parity of every byte's character, and
the two checks. -/
theorem pollsAndChecks : Obligations.PollsAndChecks := by
  refine ⟨fun r => ⟨fun h => ?_, fun v h => ?_, pollChars_inPolarity r, fun c hc => ?_⟩,
    fun l => ⟨byteSum_append_lrcByte l, crc16_append_crcBytes l⟩⟩
  · rw [pollChars_length, h]; rfl
  · rw [pollChars_length, h]; rfl
  · have hmem := List.mem_map_of_mem (f := inPolarity r.polarity) hc
    rw [pollChars_inPolarity] at hmem
    rcases List.mem_cons.1 hmem with h | h
    · rw [h]; exact charOf_even _
    · obtain ⟨b, _, hb⟩ := List.mem_map.1 h
      rw [← hb]; exact charOf_even b

/-! ## The rows of the Probe Line Port with RESET high -/

section

variable {s : State} (hr : s.resetHeld = false)

include hr

theorem exec_leadEnd : exec .leadEnd s = .next (leadEnd s) :=
  congrArg Host.Outcome.next (awake_of_high hr _)

theorem exec_pollSent : exec .pollSent s = .next (pollSent s) :=
  congrArg Host.Outcome.next (awake_of_high hr _)

theorem exec_lagEnd : exec .lagEnd s = .next (lagEnd s) :=
  congrArg Host.Outcome.next (awake_of_high hr _)

theorem exec_characterReceived (signal : LineSignal) :
    exec (.characterReceived signal) s = .next (characterReceived signal s) :=
  congrArg Host.Outcome.next (awake_of_high hr _)

theorem exec_responseTimeout : exec .responseTimeout s = .next (responseTimeout s) :=
  congrArg Host.Outcome.next (awake_of_high hr _)

theorem exec_gapFault : exec .gapFault s = .next (gapFault s) :=
  congrArg Host.Outcome.next (awake_of_high hr _)

theorem exec_trailingWatchEnd (inProgress : Bool) :
    exec (.trailingWatchEnd inProgress) s = .next (trailingWatchEnd inProgress s) :=
  congrArg Host.Outcome.next (awake_of_high hr _)

end

/-! ## The decision (R10, R12, R13, R15) -/

theorem decideOutcome_of_request {s : State} {r : Request} (h : s.plp.request = some r)
    (jabbering : Bool) : decideOutcome jabbering s = deliver (s.plp.decision r jabbering) s := by
  rw [decideOutcome, h]

theorem decision_of_jabber (p : Plp) (r : Request) :
    p.decision r true = { request := r, outcome := .jabber, response := none } := rfl

theorem decision_of_faults {p : Plp} (r : Request) (h : p.faults ≠ []) :
    p.decision r false = { request := r, outcome := .bad, response := none } := by
  simp [Plp.decision, h]

theorem decision_of_good {p : Plp} (r : Request) {q : Polarity} {g : GoodResponse} (hf : p.faults = [])
    (hq : p.sync = some q) (hg : goodResponse q p.fields = some g) :
    p.decision r false = { request := r, outcome := .good, response := some g } := by
  simp [Plp.decision, hf, hq, hg]

theorem addFault_ne_nil (p : Plp) (f : LineFault) : (p.addFault f).faults ≠ [] := by
  rw [addFault_eq]
  exact List.ne_nil_of_mem (mem_withFault.2 (.inr ⟨rfl, rfl⟩))

theorem responseTimeout_of_waiting {s : State} {r : Request} (h : s.plp.request = some r)
    (hp : s.plp.phase = .lag ∨ s.plp.phase = .await) (ht : s.plp.responseTimer.isSome = true) :
    responseTimeout s = deliver { request := r, outcome := .miss, response := none } s := by
  obtain ⟨left, hleft⟩ := Option.isSome_iff_exists.1 ht
  rcases hp with hp | hp <;> rw [responseTimeout, h, hleft, hp]

theorem gapFault_of_receiving {s : State} {r : Request} (h : s.plp.request = some r)
    (hp : s.plp.phase = .receiving) :
    gapFault s =
      deliver { request := r, outcome := .bad, response := none }
        { s with plp := s.plp.addFault .gap } := by
  have hreq : (s.plp.addFault .gap).request = some r := by rw [addFault_eq]; exact h
  rw [gapFault, if_pos hp, decideOutcome_of_request hreq]
  exact congrArg (deliver · _) (decision_of_faults r (addFault_ne_nil _ _))

theorem trailingWatchEnd_of_trailing {s : State} {r : Request} (h : s.plp.request = some r)
    (hp : s.plp.phase = .trailing) (inProgress : Bool) :
    trailingWatchEnd inProgress s =
      deliver (s.plp.decision r (inProgress || s.plp.receiver.inCharacter)) s := by
  rw [trailingWatchEnd, if_pos hp, decideOutcome_of_request h]

/-- Settles O18: the three moments of a decision, and what the trailing watch finds at its end. -/
theorem outcomeDecided : Obligations.OutcomeDecided := by
  intro s r hr hreq
  refine ⟨fun hp ht => ?_, fun hp => ?_, fun hp => ?_, fun b hp hc => ?_, fun hp hc hf => ?_,
    fun q g hp hc hf hq hg => ?_⟩
  · rw [exec_responseTimeout hr, responseTimeout_of_waiting hreq hp ht]
  · rw [exec_gapFault hr, gapFault_of_receiving hreq hp]
  · rw [exec_trailingWatchEnd hr, trailingWatchEnd_of_trailing hreq hp, Bool.true_or, decision_of_jabber]
  · rw [exec_trailingWatchEnd hr, trailingWatchEnd_of_trailing hreq hp, hc, Bool.or_true,
      decision_of_jabber]
  · rw [exec_trailingWatchEnd hr, trailingWatchEnd_of_trailing hreq hp, hc, Bool.or_false,
      decision_of_faults r hf]
  · rw [exec_trailingWatchEnd hr, trailingWatchEnd_of_trailing hreq hp, hc, Bool.or_false,
      decision_of_good r hf hq hg]

/-! ## The phases of a poll (R3, R5, R6) -/

theorem leadEnd_of_lead {s : State} {r : Request} (hp : s.plp.phase = .lead)
    (h : s.plp.request = some r) :
    leadEnd s =
      { s with
        plp := { s.plp with phase := .sending, poll := pollChars r, pollNext := 1, pollAge := 0 } } := by
  rw [leadEnd, hp, h]

theorem pollSent_of_sending {s : State} {r : Request} {l : LatchedParams} (hp : s.plp.phase = .sending)
    (h : s.plp.request = some r) (hl : s.plp.latched = some l) :
    pollSent s = { s with plp := s.plp.pollSent l } := by
  rw [pollSent, hp, h, hl]

theorem lagEnd_of_lag {s : State} {r : Request} (hp : s.plp.phase = .lag)
    (h : s.plp.request = some r) :
    lagEnd s = { s with plp := { s.plp with phase := .await } } := by
  rw [lagEnd, hp, h]

/-- DE by phase, with RESET high (R3). -/
theorem de_eq {s : State} (h : s.resetHeld = false) :
    s.de = (s.plp.phase == .lead || s.plp.phase == .sending || s.plp.phase == .lag) := by
  rw [State.de, h, Bool.not_false, Bool.true_and]

theorem pollOut_of_sending {s : State} (hr : s.resetHeld = false) (hp : s.plp.phase = .sending) :
    s.pollOut = s.plp.poll.drop (s.plp.pollNext - 1) := by
  simp [State.pollOut, hr, hp]

/-- In SENDING the raw line moves the receiver, and the place in the poll (R3, R20). -/
theorem characterReceived_sending (raw : List Bool) {s : State} (hp : s.plp.phase = .sending) :
    ∃ rx, characterReceived (.raw raw) s =
      { s with plp := ({ s.plp with receiver := rx } : Plp).sendFor raw.length } := by
  obtain ⟨rx, h⟩ := hearLevels_sending raw s hp
  exact ⟨rx, by rw [characterReceived, h]⟩

/-- An entry of blocks of one length, laid end to end. -/
theorem flatMap_getD {α β : Type} (f : α → List β) {k : Nat} (hk : 0 < k) (hf : ∀ a, (f a).length = k)
    (d : β) (l : List α) (n : Nat) :
    (l.flatMap f).getD n d = (l[n / k]?).elim d fun a => (f a).getD (n % k) d := by
  induction l generalizing n with
  | nil => simp
  | cons a l ih =>
    rw [List.flatMap_cons, List.getD_eq_getElem?_getD]
    by_cases hn : n < k
    · rw [List.getElem?_append_left (by rwa [hf]), Nat.div_eq_of_lt hn, Nat.mod_eq_of_lt hn]
      rfl
    · rw [List.getElem?_append_right (by rw [hf]; omega), hf, ← List.getD_eq_getElem?_getD, ih,
        Nat.div_eq_sub_div (a := n) hk (by omega), Nat.mod_eq_sub_mod (a := n) (by omega)]
      rfl

/-- A bit lasts sixteen sixteenths (R1). -/
theorem sixteenths_getD (l : List Bool) (n : Nat) :
    (l.flatMap (List.replicate 16)).getD n true = l.getD (n / 16) true := by
  rw [flatMap_getD _ (by decide) (fun _ => List.length_replicate), List.getD_eq_getElem?_getD]
  cases l[n / 16]? with
  | none => rfl
  | some b =>
    show (List.replicate 16 b).getD (n % 16) true = b
    rw [List.getD_eq_getElem?_getD, List.getElem?_replicate, if_pos (Nat.mod_lt n (by decide))]
    rfl

/-- PL_TX in SENDING, after so many sixteenths from the beginning of the poll (R1, R3). -/
theorem plTx_sendFor {s : State} (hr : s.resetHeld = false) (hp : s.plp.phase = .sending)
    (hn : s.plp.pollNext = 1) (ha : s.plp.pollAge = 0) (n : Nat) :
    ({ s with plp := s.plp.sendFor n } : State).plTx =
      (s.plp.poll.flatMap fun c => (charLevels c).flatMap (List.replicate 16)).getD n true := by
  have hlen (c : LineBits) : ((charLevels c).flatMap (List.replicate 16)).length = 176 := by
    rw [List.length_flatMap]; rfl
  have hout : ({ s with plp := s.plp.sendFor n } : State).pollOut =
      s.plp.poll.drop ((s.plp.sendFor n).pollNext - 1) := by
    rw [pollOut_of_sending (s := { s with plp := s.plp.sendFor n }) hr ((sendFor_phase n s.plp).trans hp)]
    exact congrArg (List.drop _) (sendFor_poll n s.plp)
  rw [flatMap_getD _ (by decide) hlen, State.plTx, hout]
  unfold Plp.sendFor
  simp only [hp, hn, ha, Config.charSixteenths, Nat.zero_add]
  by_cases h : n / 176 < s.plp.poll.length
  · rw [if_pos (by omega), Nat.add_sub_cancel_left, List.drop_eq_getElem_cons h,
      List.getElem?_eq_getElem h]
    exact (sixteenths_getD _ _).symm
  · rw [if_neg (by omega), Nat.add_sub_cancel, List.drop_length,
      List.getElem?_eq_none (Nat.le_of_not_lt h)]
    rfl

/-- Settles O16: the raw line in SENDING moves the place in the poll alone, and each event of a phase is that
phase's own. -/
theorem pollPhasesRun : Obligations.PollPhasesRun := by
  refine ⟨fun s raw hr hp hplaced => ?_, fun s r l hr hreq hl => ⟨fun hp => ?_, fun hp hlag => ?_,
    fun hp hlag => ?_, fun hp => ?_, fun hp => ?_⟩⟩
  · obtain ⟨rx, hrx⟩ := characterReceived_sending raw hp
    have hphase : (({ s.plp with receiver := rx } : Plp).sendFor raw.length).phase = .sending := by
      rw [sendFor_phase]; exact hp
    refine ⟨_, (exec_characterReceived hr _).trans (congrArg _ hrx), rfl, hphase, ?_⟩
    have hout := pollOut_of_sending
      (s := { s with plp := ({ s.plp with receiver := rx } : Plp).sendFor raw.length }) hr hphase
    rw [hout, pollOut_of_sending hr hp]
    refine (congrArg (List.drop _) (sendFor_poll _ _)).trans ?_
    exact sendFor_drop raw.length { s.plp with receiver := rx } hp (hplaced hp).1
  · refine ⟨by rw [de_eq hr, hp]; rfl, by rw [exec_leadEnd hr, leadEnd_of_lead hp hreq], fun raw => ?_⟩
    have hbegun := leadEnd_of_lead hp hreq
    obtain ⟨rx, hrx⟩ := characterReceived_sending raw (s := leadEnd s) (by rw [hbegun])
    refine ⟨_, _, exec_leadEnd hr, (exec_characterReceived (by rw [hbegun]; exact hr) _).trans
      (congrArg _ hrx), ?_⟩
    rw [hbegun]
    exact plTx_sendFor (s := { s with plp := { s.plp with
      phase := .sending, poll := pollChars r, pollNext := 1, pollAge := 0, receiver := rx } })
      hr rfl rfl rfl raw.length
  · refine ⟨by rw [de_eq hr, hp]; rfl, ?_⟩
    rw [exec_pollSent hr, pollSent_of_sending hp hreq hl, Plp.pollSent, if_neg hlag]
  · rw [exec_pollSent hr, pollSent_of_sending hp hreq hl, Plp.pollSent, if_pos hlag]
  · exact ⟨by rw [de_eq hr, hp]; rfl, by rw [exec_lagEnd hr, lagEnd_of_lag hp hreq]⟩
  · rw [de_eq hr, hp]; rfl

end Sys2Proof.Machine.ProbeReception
end

section
/-! What a received character does in each phase of the Probe Line Port, and a well-formed response heard whole (R8, R9,
R11, R13 to R16, R20). -/

namespace Sys2Proof.Machine.ProbeReception

/-! ## A whole character (R9, R14, R20) -/

theorem takeChar_request (p : Plp) (bits : LineBits) (framing : Bool) :
    (p.takeChar bits framing).request = p.request := by
  unfold Plp.takeChar
  split
  · cases hs : syncPolarity bits framing with
    | none => rw [awaitChar_of_noise hs]
    | some q => rw [awaitChar_of_sync hs]
  · rw [receiveChar_eq]
  · rw [trailChar_eq]
  all_goals rfl

theorem exec_char {s : State} (hr : s.resetHeld = false) (bits : LineBits) (framing : Bool) :
    exec (.characterReceived (.char bits framing)) s =
      .next (takeCharacter bits framing (s.heard framing)) :=
  exec_characterReceived hr _

theorem takeCharacter_of_deaf {s : State} (h : s.plp.phase.listening = false) (bits : LineBits)
    (framing : Bool) : takeCharacter bits framing s = s := by
  rcases takeChar_phase s.plp bits framing with ⟨_, htake⟩ | ⟨hl, _⟩
  · rw [takeCharacter, htake, h, if_neg (by simp)]
  · rw [h] at hl; cases hl

theorem takeCharacter_of_few {s : State} (h : s.plp.phase.listening = true) (hc : s.plp.count < 40)
    (bits : LineBits) (framing : Bool) :
    takeCharacter bits framing s = { s with plp := s.plp.takeChar bits framing } := by
  refine if_neg fun hlast => ?_
  have hcount := takeChar_count s.plp bits framing
  rw [if_pos h, hlast.2, satSucc, Config.jabberCount] at hcount
  omega

theorem takeCharacter_of_last {s : State} {r : Request} (h : s.plp.phase.listening = true)
    (hc : s.plp.count = 40) (hreq : s.plp.request = some r) (bits : LineBits) (framing : Bool) :
    takeCharacter bits framing s =
      deliver { request := r, outcome := .jabber, response := none }
        { s with plp := s.plp.takeChar bits framing } := by
  have hcount : (s.plp.takeChar bits framing).count = Config.jabberCount := by
    rw [takeChar_count, if_pos h, hc]; rfl
  rw [takeCharacter, if_pos ⟨h, hcount⟩,
    decideOutcome_of_request ((takeChar_request s.plp bits framing).trans hreq)]
  rfl

theorem satSucc_of_lt {limit n : Nat} (h : n < limit) : satSucc limit n = n + 1 := by
  unfold satSucc; omega

theorem takeChar_await {p : Plp} (h : p.phase = .await) (bits : LineBits) (framing : Bool) :
    p.takeChar bits framing = p.awaitChar bits framing := by
  rw [Plp.takeChar, h]

theorem takeChar_receiving {p : Plp} (h : p.phase = .receiving) (bits : LineBits) (framing : Bool) :
    p.takeChar bits framing = p.receiveChar bits framing := by
  rw [Plp.takeChar, h]

theorem takeChar_trailing {p : Plp} (h : p.phase = .trailing) (bits : LineBits) (framing : Bool) :
    p.takeChar bits framing = p.trailChar bits framing := by
  rw [Plp.takeChar, h]

/-! ## The sync forms (R9, R181) -/

theorem syncPolarity_normal : syncPolarity (charOf 0xB5#8) false = some .normal := by decide

theorem syncPolarity_reversed : syncPolarity (~~~(charOf 0xB5#8)) false = some .reversed := by decide

theorem syncPolarity_noise {b : LineBits} {framing : Bool}
    (h : framing = true ∨ (b ≠ charOf 0xB5#8 ∧ b ≠ ~~~(charOf 0xB5#8))) :
    syncPolarity b framing = none := by
  cases framing with
  | true => rfl
  | false =>
    obtain ⟨hn, hrev⟩ := h.resolve_left Bool.false_ne_true
    exact (if_neg hn).trans (if_neg hrev)

/-! ## What a response's character finds (R8, R11, R15) -/

theorem checkFault_iff (fields : List Byte) :
    checkFault fields = true ↔
      ∃ k, responseKindByte (byteAt fields 1) = some k ∧
        fields.drop (fields.length - checkLength k.2) ≠
          checkBytes k.2 (fields.take (fields.length - checkLength k.2)) := by
  unfold checkFault
  cases responseKindByte (byteAt fields 1) <;> simp

theorem isUnreadable_iff (fields : List Byte) :
    isUnreadable fields = true ↔
      responseKindByte (byteAt fields 1) = none ∨ 30 < (byteAt fields 3).toNat := by
  simp [isUnreadable]

/-- The address is judged on the first field alone. -/
theorem isAddressFault_iff (r : Request) (fields : List Byte) (b : Byte) :
    isAddressFault (some r) (fields ++ [b]) = true ↔
      (fields ++ [b]).length = 1 ∧ b.toNat ≠ r.address := by
  cases fields with
  | nil => simp [isAddressFault, byteAt]
  | cons x rest => simp [isAddressFault]

theorem declaredAfter_eq (fields : List Byte) (before : Option Nat) :
    declaredAfter fields before =
      match responseKindByte (byteAt fields 1) with
      | some k =>
        if fields.length = 4 ∧ (byteAt fields 3).toNat ≤ 30 then
          some (5 + (byteAt fields 3).toNat + checkLength k.2)
        else before
      | none => before := by
  unfold declaredAfter fixedEnd
  by_cases h : fields.length = 4
  · simp only [h, if_true, true_and] <;> rfl
  · simp only [h, if_false, false_and]; split <;> rfl

/-- Settles O17: a character by phase, with room in the count or at the 41st; in RECEIVING the field it joins decides
the end and the faults. -/
theorem charactersTaken : Obligations.CharactersTaken := by
  intro s r b framing hr takes heard
  have few (hl : s.plp.phase.listening = true) (hc : s.plp.count < 40) :
      takes = .next { s with plp := heard.takeChar b framing } :=
    (exec_char hr b framing).trans (congrArg _ (takeCharacter_of_few (s := s.heard framing) hl hc _ _))
  have hcounted (hc : s.plp.count < 40) : satSucc 41 heard.count = s.plp.count + 1 :=
    satSucc_of_lt (Nat.lt_succ_of_lt hc)
  refine ⟨fun hp => ?_, fun hp hc hb hf => ?_, fun hp hc hb hf => ?_, fun hp hc hn => ?_,
    fun q hp hc hq hreq => ?_, fun hp hc => ?_, fun hp hc hreq => ?_⟩
  · exact (exec_char hr b framing).trans
      (congrArg _ (takeCharacter_of_deaf (s := s.heard framing) (congrArg PlpPhase.listening hp) _ _))
  · subst hb hf
    rw [few (by rw [hp]; rfl) hc, takeChar_await (p := heard) hp, awaitChar_of_sync syncPolarity_normal,
      hcounted hc]
  · subst hb hf
    rw [few (by rw [hp]; rfl) hc, takeChar_await (p := heard) hp,
      awaitChar_of_sync syncPolarity_reversed, hcounted hc]
  · rw [few (by rw [hp]; rfl) hc, takeChar_await (p := heard) hp,
      awaitChar_of_noise (syncPolarity_noise hn), hcounted hc]
  · have hpol : heard.sync.getD .normal = q := by rw [show heard.sync = some q from hq]; rfl
    have htake := takeChar_receiving (p := heard) hp b framing
    rw [receiveChar_eq, hpol, hcounted hc, declaredAfter_eq] at htake
    refine ⟨_, few (by rw [hp]; rfl) hc, rfl, ?_⟩
    rw [htake]
    refine ⟨rfl, rfl, rfl, fun hd => if_pos hd, fun hd => (if_neg hd).trans hp, fun f => ?_⟩
    have haddr : heard.request = some r := hreq
    simp only [mem_withFault, haddr, fieldsWith, Bool.and_eq_true, checkFault_iff,
      isUnreadable_iff, isAddressFault_iff]
    cases f <;> simp <;> rfl
  · have htake := takeChar_trailing (p := heard) hp b framing
    rw [trailChar_eq, hcounted hc] at htake
    refine ⟨_, few (by rw [hp]; rfl) hc, ?_⟩
    rw [htake]
    exact ⟨rfl, hp, mem_withFault.2 (.inr ⟨rfl, rfl⟩), rfl⟩
  · have hl : s.plp.phase.listening = true := by rcases hp with hp | hp | hp <;> rw [hp] <;> rfl
    exact (exec_char hr b framing).trans
      (congrArg _ (takeCharacter_of_last (s := s.heard framing) hl hc hreq b framing))

end Sys2Proof.Machine.ProbeReception
end

section
/-! A well-formed response, received after its poll, is heard whole and delivered GOOD (R9, R11, R15, R16). -/

namespace Sys2Proof.Machine.ProbeReception

/-- A response on the line: who is polled, how it is sent, and what it carries. -/
structure Response where
  request : Request
  polarity : Polarity
  kind : ResponseKind
  check : CheckKind
  sequence : Byte
  payload : List Byte

/-- A payload length and an address that R11 and R63 allow. -/
structure Response.Fits (w : Response) : Prop where
  payload : w.payload.length ≤ 30
  address : w.request.address ≤ 126

/-- The fields after the sync, without the check. -/
def Response.covered (w : Response) : List Byte :=
  responseFields (byte w.request.address) w.kind w.check w.sequence w.payload

/-- Every character after the sync. -/
def Response.fields (w : Response) : List Byte := w.covered ++ checkBytes w.check w.covered

/-- What the response delivers (R16). -/
def Response.good (w : Response) : GoodResponse :=
  { sync := w.polarity, kind := w.kind, check := w.check, sequence := w.sequence.toNat,
    payload := w.payload }

/-! ## The fields of a well-formed response (R8, R11) -/

theorem byte_toNat_of_lt {n : Nat} (h : n < 256) : (byte n).toNat = n := by
  rw [byte, BitVec.toNat_ofNat, Nat.mod_eq_of_lt h]

theorem responseKindByte_code (k : ResponseKind) (c : CheckKind) :
    responseKindByte (responseCode k ||| (match c with | .crc => 0x00#8 | .lrc => 0x80#8)) =
      some (k, c) := by
  cases k <;> cases c <;> decide

theorem checkBytes_length (c : CheckKind) (l : List Byte) : (checkBytes c l).length = checkLength c := by
  cases c <;> rfl

theorem covered_length (w : Response) : w.covered.length = 4 + w.payload.length := by
  simp [Response.covered, responseFields]; omega

theorem fields_length (w : Response) :
    w.fields.length = 4 + w.payload.length + checkLength w.check := by
  rw [Response.fields, List.length_append, covered_length, checkBytes_length]

/-- A beginning of the fields that is not empty has the source address first. -/
theorem byteAt_zero_of_start (w : Response) {l m : List Byte} (h : l ++ m = w.fields) (hl : 1 ≤ l.length) :
    byteAt l 0 = byte w.request.address := by
  cases l with
  | nil => simp at hl
  | cons x l => exact List.head_eq_of_cons_eq h

/-- A beginning of four fields has the kind and the payload length in their places. -/
theorem byteAt_of_start (w : Response) {l m : List Byte} (h : l ++ m = w.fields) (hl : 4 ≤ l.length) :
    responseKindByte (byteAt l 1) = some (w.kind, w.check) ∧
      byteAt l 2 = w.sequence ∧ byteAt l 3 = byte w.payload.length := by
  match l, hl with
  | a :: b :: c :: d :: rest, _ =>
    have htail := List.tail_eq_of_cons_eq h
    have hb := List.head_eq_of_cons_eq htail
    have htail := List.tail_eq_of_cons_eq htail
    have hc := List.head_eq_of_cons_eq htail
    have hd := List.head_eq_of_cons_eq (List.tail_eq_of_cons_eq htail)
    exact ⟨(congrArg responseKindByte hb).trans (responseKindByte_code _ _), hc, hd⟩

/-- The check of the whole response is the one computed. -/
theorem checkFault_fields (w : Response) : checkFault w.fields = false := by
  have hkind := (byteAt_of_start w (List.append_nil _) (by rw [fields_length]; omega)).1
  have hcut : w.fields.length - checkLength w.check = w.covered.length := by
    rw [fields_length, covered_length]; omega
  refine Bool.eq_false_iff.2 fun h => ?_
  obtain ⟨k, hk, hne⟩ := (checkFault_iff _).1 h
  cases hkind.symm.trans hk
  refine hne ?_
  rw [hcut, Response.fields, List.drop_left, List.take_left]

/-- The declared end is the response's own (R11). -/
theorem declaredAfter_of_start {w : Response} (hw : w.Fits) {l m : List Byte} (h : l ++ m = w.fields)
    (before : Option Nat) :
    declaredAfter l before = if l.length = 4 then some (w.fields.length + 1) else before := by
  by_cases hl : l.length = 4
  · obtain ⟨hkind, _, hlen⟩ := byteAt_of_start w h (by omega)
    have hp := hw.payload
    rw [declaredAfter_eq, hkind, hlen, byte_toNat_of_lt (by omega), if_pos hl]
    simp only [hl, true_and, hp, if_true, fields_length]
    congr 1
    omega
  · rw [declaredAfter, if_neg hl, if_neg hl]

theorem isUnreadable_of_start {w : Response} (hw : w.Fits) {l m : List Byte} (h : l ++ m = w.fields)
    (hl : l.length = 4) : isUnreadable l = false := by
  obtain ⟨hkind, _, hlen⟩ := byteAt_of_start w h (by omega)
  have hp := hw.payload
  refine Bool.eq_false_iff.2 fun hu => ?_
  rw [isUnreadable_iff, hkind, hlen, byte_toNat_of_lt (by omega)] at hu
  rcases hu with hu | hu
  · cases hu
  · omega

theorem isAddressFault_of_start {w : Response} (hw : w.Fits) {l m : List Byte} (h : l ++ m = w.fields) :
    isAddressFault (some w.request) l = false := by
  refine Bool.eq_false_iff.2 fun hf => ?_
  simp only [isAddressFault, Bool.and_eq_true, beq_iff_eq, bne_iff_ne] at hf
  have ha := hw.address
  rw [byteAt_zero_of_start w h (by omega), byte_toNat_of_lt (by omega)] at hf
  exact hf.2 rfl

theorem goodResponse_fields {w : Response} (hw : w.Fits) :
    goodResponse w.polarity w.fields = some w.good := by
  obtain ⟨hkind, hseq, hlen⟩ :=
    byteAt_of_start w (List.append_nil _) (show 4 ≤ w.fields.length by rw [fields_length]; omega)
  have hp := hw.payload
  have hpayload : (w.fields.drop 4).take w.payload.length = w.payload := List.take_left
  rw [goodResponse, hkind, hseq, hlen, byte_toNat_of_lt (by omega), hpayload]
  rfl

/-! ## The reception, character by character -/

/-- The PLP in RECEIVING with the fields `l` of the response, and with room for so many characters more. -/
structure Receiving (w : Response) (l : List Byte) (room : Nat) (s : State) : Prop where
  resetHeld : s.resetHeld = false
  phase : s.plp.phase = .receiving
  request : s.plp.request = some w.request
  sync : s.plp.sync = some w.polarity
  fields : s.plp.fields = l
  declaredEnd : s.plp.declaredEnd = if 4 ≤ l.length then some (w.fields.length + 1) else none
  faults : s.plp.faults = []
  count : s.plp.count + room ≤ 40

/-- The PLP in TRAILING with the whole response, on a line that is idle. -/
structure HeardWhole (w : Response) (s : State) : Prop where
  resetHeld : s.resetHeld = false
  phase : s.plp.phase = .trailing
  request : s.plp.request = some w.request
  sync : s.plp.sync = some w.polarity
  fields : s.plp.fields = w.fields
  faults : s.plp.faults = []
  quiet : s.plp.receiver.inCharacter = false

/-- A character of the response as the row of it. -/
def Response.row (w : Response) (x : Byte) : Instr :=
  .characterReceived (.char (inPolarity w.polarity (charOf x)) false)

/-- One more field of a response that is being received: nothing is wrong with it. -/
theorem Receiving.next {w : Response} (hw : w.Fits) {l m : List Byte} {x : Byte} {room : Nat} {s : State}
    (h : Receiving w l (room + 1) s) (hl : l ++ x :: m = w.fields) :
    ∃ t, exec (w.row x) s = .next t ∧
      (m ≠ [] → Receiving w (l ++ [x]) room t) ∧ (m = [] → HeardWhole w t) := by
  obtain ⟨hr, hphase, hreq, hsync, hfields, hdecl, hfaults, hcount⟩ := h
  have hl' : (l ++ [x]) ++ m = w.fields := by rw [← hl]; simp
  have hlen : l.length + 1 + m.length = w.fields.length := by rw [← hl']; simp; omega
  have htake := takeCharacter_of_few (s := s.heard false) (congrArg PlpPhase.listening hphase)
    (show s.plp.count < 40 by omega) (inPolarity w.polarity (charOf x)) false
  have hdeclared : declaredAfter (l ++ [x]) s.plp.declaredEnd =
      if 4 ≤ (l ++ [x]).length then some (w.fields.length + 1) else none := by
    rw [declaredAfter_of_start hw hl', hdecl]
    simp only [List.length_append, List.length_singleton]
    split
    · rw [if_pos (by omega)]
    · split
      · rw [if_pos (by omega)]
      · rw [if_neg (by omega)]
  have hnew : (s.heard false).plp.takeChar (inPolarity w.polarity (charOf x)) false =
      { s.plp with
        receiver := .afterChar false, count := s.plp.count + 1, fields := l ++ [x],
        phase := if m = [] then .trailing else .receiving,
        declaredEnd := if 4 ≤ (l ++ [x]).length then some (w.fields.length + 1) else none,
        faults := [] } := by
    have hjoined : fieldsWith w.polarity l (inPolarity w.polarity (charOf x)) = l ++ [x] := by
      rw [fieldsWith, inPolarity_twice, dataOf_charOf]
    have hended : (if 4 ≤ (l ++ [x]).length then some (w.fields.length + 1) else none) =
        some ((l ++ [x]).length + 1) ↔ m = [] := by
      have hfour : 4 ≤ w.fields.length := by rw [fields_length]; omega
      rw [← List.length_eq_zero_iff]
      by_cases h4 : 4 ≤ (l ++ [x]).length
      · rw [if_pos h4, Option.some.injEq, List.length_append, List.length_singleton]
        omega
      · rw [List.length_append, List.length_singleton] at h4
        rw [if_neg (by simpa using h4)]
        simp only [reduceCtorEq, false_iff]
        omega
    have hunreadable : (decide ((l ++ [x]).length = 4) && isUnreadable (l ++ [x])) = false := by
      by_cases h4 : (l ++ [x]).length = 4
      · rw [isUnreadable_of_start hw hl' h4, Bool.and_false]
      · rw [decide_eq_false h4, Bool.false_and]
    have hcheck : (decide (m = []) && checkFault (l ++ [x])) = false := by
      by_cases hm : m = []
      · rw [show l ++ [x] = w.fields by rw [← hl', hm, List.append_nil], checkFault_fields, Bool.and_false]
      · rw [decide_eq_false hm, Bool.false_and]
    have hq : (s.heard false).plp.sync.getD .normal = w.polarity := by
      rw [show (s.heard false).plp.sync = _ from hsync]; rfl
    have hp : (s.heard false).plp = { s.plp with receiver := .afterChar false } := rfl
    rw [takeChar_receiving (p := (s.heard false).plp) hphase, receiveChar_eq, hq]
    simp only [hp, hfields, hjoined, hdeclared, hended, hunreadable, hcheck, hreq, hfaults,
      isAddressFault_of_start hw hl', inPolarity_twice, charOf_even, withFault_false, hphase,
      satSucc_of_lt (show s.plp.count < 41 by omega)]
  refine ⟨_, (exec_char hr _ _).trans (congrArg _ htake), fun hm => ?_, fun hm => ?_⟩
  · rw [hnew, if_neg hm]
    exact ⟨hr, rfl, hreq, hsync, rfl, rfl, rfl, by dsimp only; omega⟩
  · rw [hnew, if_pos hm]
    exact ⟨hr, rfl, hreq, hsync, by rw [← hl', hm, List.append_nil], rfl, rfl⟩

theorem runAll_cons {i : Instr} {rest : List Instr} {s t : State} (h : exec i s = .next t) :
    runAll (i :: rest) s = runAll rest t := by
  rw [runAll, h]

/-- The rest of a response that is being received. -/
theorem Receiving.rest {w : Response} (hw : w.Fits) {l m : List Byte} {s : State}
    (h : Receiving w l m.length s) (hl : l ++ m = w.fields) (hm : m ≠ []) :
    ∃ t, runAll (m.map w.row) s = some t ∧ HeardWhole w t := by
  induction m generalizing l s with
  | nil => exact absurd rfl hm
  | cons x m ih =>
    obtain ⟨t, hexec, hmore, hend⟩ := h.next hw hl
    rw [List.map_cons, runAll_cons hexec]
    by_cases hnil : m = []
    · subst hnil
      exact ⟨t, rfl, hend rfl⟩
    · exact ih (hmore hnil) (by rw [← hl]; simp) hnil

/-- The sync character in AWAIT begins the response (R9). -/
theorem sync_receiving {w : Response} {s : State} {room : Nat} (hr : s.resetHeld = false)
    (hp : s.plp.phase = .await) (hreq : s.plp.request = some w.request) (hfaults : s.plp.faults = [])
    (hfields : s.plp.fields = []) (hdecl : s.plp.declaredEnd = none) (hc : s.plp.count + room < 40) :
    ∃ t, exec (.characterReceived (.char (inPolarity w.polarity syncChar) false)) s = .next t ∧
      Receiving w [] room t := by
  have hsync : syncPolarity (inPolarity w.polarity syncChar) false = some w.polarity := by
    cases w.polarity <;> decide
  have htake := takeCharacter_of_few (s := s.heard false) (congrArg PlpPhase.listening hp)
    (show s.plp.count < 40 by omega) (inPolarity w.polarity syncChar) false
  rw [takeChar_await (p := (s.heard false).plp) hp, awaitChar_of_sync hsync] at htake
  have hcount : satSucc 41 s.plp.count = s.plp.count + 1 := satSucc_of_lt (by omega)
  exact ⟨_, (exec_char hr _ _).trans (congrArg _ htake), hr, rfl, hreq, rfl, hfields, hdecl, hfaults,
    by show satSucc 41 s.plp.count + room ≤ 40; omega⟩

/-- Settles O13: the sync, then each field in turn, leave no fault behind, and the trailing watch finds GOOD. -/
theorem responseHeardWhole : Obligations.ResponseHeardWhole := by
  intro s r q k c seq payload hr hp hreq hfaults hfields hdecl hlen haddr hc
  let w : Response := ⟨r, q, k, c, seq, payload⟩
  have hw : w.Fits := ⟨hlen, haddr⟩
  have hfl : w.fields.length = 4 + payload.length + checkLength c := fields_length w
  have hcl : checkLength c ≤ 2 := by cases c <;> decide
  obtain ⟨t, hexec, hrec⟩ :=
    sync_receiving (w := w) (room := w.fields.length) hr hp hreq hfaults hfields hdecl (by omega)
  obtain ⟨u, hrun, hu⟩ := hrec.rest hw rfl (List.ne_nil_of_length_pos (by omega))
  refine ⟨u, ?_, hu.phase, ?_⟩
  · rw [← hrun, ← runAll_cons hexec, responseChars, List.map_map, List.map_cons]
    simp only [List.map_map]
    rfl
  · rw [exec_trailingWatchEnd hu.resetHeld, trailingWatchEnd_of_trailing hu.request hu.phase, hu.quiet,
      Bool.or_false, decision_of_good r hu.faults hu.sync (hu.fields ▸ goodResponse_fields hw)]
    rfl

end Sys2Proof.Machine.ProbeReception
end

section
/-! Selection on the probe line (R22, R23, R35): which item is chosen, and what issuing its request does. -/

namespace Sys2Proof.Machine.LineSelection

open Sys2Proof.Machine.ProbeReception

/-! ## The first item of a list -/

/-- The entry `i` of a list has a property. -/
def HasAt {α : Type} (p : Nat → α → Bool) (l : List α) (i : Nat) : Prop :=
  ∃ a, l[i]? = some a ∧ p i a = true

theorem not_hasAt {α : Type} {p : Nat → α → Bool} {l : List α} {i : Nat} :
    ¬HasAt p l i ↔ ∀ a, l[i]? = some a → p i a = false := by
  simp [HasAt]

theorem firstIndex_eq_some_iff {α : Type} (p : Nat → α → Bool) (l : List α) (i : Nat) :
    firstIndex p 0 l = some i ↔ HasAt p l i ∧ ∀ j, j < i → ¬HasAt p l j := by
  refine ⟨fun h => ?_, fun ⟨⟨a, ha, hp⟩, hlow⟩ => ?_⟩
  · obtain ⟨j, a, rfl, ha, hp, hlow⟩ := firstIndex_some h
    simp only [Nat.zero_add] at hp hlow ⊢
    exact ⟨⟨a, ha, hp⟩, fun m hm => not_hasAt.2 fun b => hlow m b hm⟩
  · exact firstIndex_eq p l i a ha hp fun j b hj hb => not_hasAt.1 (hlow j hj) b hb

theorem firstIndex_eq_none_iff {α : Type} (p : Nat → α → Bool) (l : List α) :
    firstIndex p 0 l = none ↔ ∀ i, ¬HasAt p l i := by
  refine ⟨fun h i => not_hasAt.2 fun a ha => ?_, fun h => ?_⟩
  · exact Nat.zero_add i ▸ firstIndex_none h ha
  · exact firstIndex_eq_none p l fun j b hb => not_hasAt.1 (h j) b hb

/-! ## Who is eligible (R22, R35) -/

theorem urgent_iff (a : Actuator) (retry : Bool) :
    urgent a retry = true ↔ (a.address ≠ none ∧ retry = false) ∧ 4 ≤ a.owed := by
  simp only [urgent, Bool.and_eq_true, decide_eq_true_eq, Bool.not_eq_true', Option.isSome_iff_ne_none]
  rfl

theorem setDue_iff (a : Actuator) (retry : Bool) :
    setDue a retry = true ↔
      (a.address ≠ none ∧ retry = false) ∧ (1 ≤ a.owed ∨ a.acknowledged ≠ some a.commanded) := by
  simp [setDue, Actuator.changed, Option.isSome_iff_ne_none, and_assoc]

theorem pollable_iff (n : NodeRecord) : n.pollable = true ↔ n.state ≠ .empty ∧ n.state ≠ .isolated := by
  simp [NodeRecord.pollable]

theorem hasAddress_of_urgent {a : Actuator} {retry : Bool} (h : urgent a retry = true) :
    ∃ address, a.address = some address :=
  Option.ne_none_iff_exists'.1 ((urgent_iff a retry).1 h).1.1

theorem hasAddress_of_setDue {a : Actuator} {retry : Bool} (h : setDue a retry = true) :
    ∃ address, a.address = some address :=
  Option.ne_none_iff_exists'.1 ((setDue_iff a retry).1 h).1.1

theorem pingItem_eq_some_iff (s : State) (address : Nat) :
    s.pingItem = some address ↔
      s.survey.condition = .running ∧ s.survey.inFlight = none ∧ s.survey.next = some address := by
  unfold State.pingItem
  split
  · next h => simp [h.1, h.2]
  · next h => simp only [reduceCtorEq, false_iff]; exact fun hn => h ⟨hn.1, hn.2.1⟩

/-- A slot of the sweep in progress that is pollable, at or above the position (R22, R26). -/
def SweepSlot (s : State) (i : Nat) : Prop :=
  (s.line.sweeping = true ∧ s.survey.condition = .idle) ∧
    HasAt (fun i p => decide (s.line.sweepPosition ≤ i) && p.node.pollable) s.nodes.probes i

theorem probeItem_eq_some_iff (s : State) (i : Nat) :
    s.probeItem = some i ↔ SweepSlot s i ∧ ∀ j, j < i → ¬SweepSlot s j := by
  unfold State.probeItem SweepSlot
  split
  · next h => simp only [h, NodeTables.nextSlot, firstIndex_eq_some_iff, true_and, and_self]
  · next h => simp only [h, reduceCtorEq, false_and]

theorem probeItem_eq_none_iff (s : State) : s.probeItem = none ↔ ∀ i, ¬SweepSlot s i := by
  unfold State.probeItem SweepSlot
  split
  · next h => simp only [h, NodeTables.nextSlot, firstIndex_eq_none_iff, true_and, and_self]
  · next h => simp only [h, false_and, not_false_eq_true, implies_true]

/-! ## The requests (R23) -/

theorem setRequest_of_entry {s : State} {i address : Nat} {a : Actuator}
    (ha : s.outputs.entries[i]? = some a) (haddr : a.address = some address) :
    setRequest s i =
      some
        { owner := .actuator i, address := address, kind := .set, argument := some a.commanded,
          polarity := .normal } := by
  rw [setRequest, ha]
  exact congrArg (Option.map _) haddr

theorem airRequest_of_entry {s : State} {i address : Nat} {a : AirRecord}
    (ha : s.nodes.airs[i]? = some a) (haddr : a.node.address = some address) :
    airRequest s i =
      some
        { owner := .air i, address := address, kind := .read, argument := none,
          polarity := readPolarity a.node.polarity s.line.airSearch[i]? } := by
  rw [airRequest, ha]
  exact congrArg (Option.map _) haddr

theorem probeRequest_of_entry {s : State} {i address : Nat} {p : ProbeRecord}
    (hp : s.nodes.probes[i]? = some p) (haddr : p.node.address = some address) :
    probeRequest s i =
      some
        { owner := .probe i, address := address, kind := .read, argument := none,
          polarity := readPolarity p.node.polarity s.line.probeSearch[i]? } := by
  rw [probeRequest, hp]
  exact congrArg (Option.map _) haddr

/-- A SET is for its actuator and carries its commanded value. -/
theorem setRequest_fields {s : State} {i : Nat} {r : Request} (h : setRequest s i = some r) :
    r.owner = .actuator i ∧ r.kind = .set ∧
      ∃ a, s.outputs.entries[i]? = some a ∧ r.argument = some a.commanded := by
  unfold setRequest at h
  cases ha : s.outputs.entries[i]? with
  | none => rw [ha] at h; cases h
  | some a =>
    rw [ha] at h
    obtain ⟨address, _, rfl⟩ := Option.map_eq_some_iff.1 h
    exact ⟨rfl, rfl, a, rfl, rfl⟩

/-- A climate poll is a READ for its air point. -/
theorem airRequest_fields {s : State} {i : Nat} {r : Request} (h : airRequest s i = some r) :
    r.owner = .air i ∧ r.kind = .read := by
  unfold airRequest at h
  cases ha : s.nodes.airs[i]? with
  | none => rw [ha] at h; cases h
  | some a =>
    rw [ha] at h
    obtain ⟨address, _, rfl⟩ := Option.map_eq_some_iff.1 h
    exact ⟨rfl, rfl⟩

/-- A probe poll is a READ for its slot. -/
theorem probeRequest_fields {s : State} {i : Nat} {r : Request} (h : probeRequest s i = some r) :
    r.owner = .probe i ∧ r.kind = .read := by
  unfold probeRequest at h
  cases hp : s.nodes.probes[i]? with
  | none => rw [hp] at h; cases h
  | some p =>
    rw [hp] at h
    obtain ⟨address, _, rfl⟩ := Option.map_eq_some_iff.1 h
    exact ⟨rfl, rfl⟩

theorem readPolarity_eq (known : Option Polarity) (search : Option Search) :
    readPolarity known search = known.getD ((search.map (·.polarity)).getD .normal) := by
  cases known <;> cases search <;> rfl

/-- The record of an address, first found, holds the address. -/
theorem polarityAt_of_all {t : NodeTables} {address : Nat} {q : Option Polarity}
    (hex : ∃ n ∈ t.probes.map (·.node) ++ t.airs.map (·.node), n.address = some address)
    (hall : ∀ n ∈ t.probes.map (·.node) ++ t.airs.map (·.node), n.address = some address → n.polarity = q) :
    t.polarityAt address = q := by
  unfold NodeTables.polarityAt
  split
  · next n h =>
    exact hall n (List.mem_of_find?_eq_some h) (by simpa using List.find?_some h)
  · next h =>
    obtain ⟨n, hn, haddr⟩ := hex
    exact absurd (by simpa using haddr) (List.find?_eq_none.1 h n hn)

theorem polarityAt_of_unknown {t : NodeTables} {address : Nat}
    (hall : ∀ n ∈ t.probes.map (·.node) ++ t.airs.map (·.node), n.address = some address →
      n.polarity = none) : t.polarityAt address = none := by
  by_cases hex : ∃ n ∈ t.probes.map (·.node) ++ t.airs.map (·.node), n.address = some address
  · exact polarityAt_of_all hex hall
  · unfold NodeTables.polarityAt
    rw [List.find?_eq_none.2 fun n hn heq => hex ⟨n, hn, by simpa using heq⟩]

/-! ## The choice by class (R22) -/

theorem choose_of_urgent {s : State} {i : Nat} (h : s.urgentItem = some i) :
    s.choose = setRequest s i := by
  rw [State.choose, h]

theorem choose_of_set {s : State} {i : Nat} (hu : s.urgentItem = none) (h : s.setItem = some i) :
    s.choose = setRequest s i := by
  rw [State.choose, hu, h]

theorem choose_of_air {s : State} {i : Nat} (hu : s.urgentItem = none) (hs : s.setItem = none)
    (h : s.airItem = some i) : s.choose = airRequest s i := by
  rw [State.choose, hu, hs, h]

theorem choose_of_ping {s : State} {address : Nat} (hu : s.urgentItem = none) (hs : s.setItem = none)
    (ha : s.airItem = none) (h : s.pingItem = some address) :
    s.choose = some (pingRequest s address) := by
  rw [State.choose, hu, hs, ha, h]

theorem choose_of_probe {s : State} {i : Nat} (hu : s.urgentItem = none) (hs : s.setItem = none)
    (ha : s.airItem = none) (hp : s.pingItem = none) (h : s.probeItem = some i) :
    s.choose = probeRequest s i := by
  rw [State.choose, hu, hs, ha, hp, h]

theorem choose_of_nothing {s : State} (hu : s.urgentItem = none) (hs : s.setItem = none)
    (ha : s.airItem = none) (hp : s.pingItem = none) (h : s.probeItem = none) : s.choose = none := by
  rw [State.choose, hu, hs, ha, hp, h]

theorem noneHas {α : Type} {p : Nat → α → Bool} {l : List α} (h : firstIndex p 0 l = none) :
    ∀ j a, l[j]? = some a → p j a = false :=
  fun j a ha => not_hasAt.1 ((firstIndex_eq_none_iff p l).1 h j) a ha

/-- What a choice says of its owner's class and of the classes above it (R22). -/
theorem choose_sound (s : State) (r : Request) (h : s.choose = some r) :
    match r.owner with
    | .actuator i =>
      r.kind = .set ∧ (∃ a, s.outputs.entries[i]? = some a ∧ r.argument = some a.commanded) ∧
        (s.urgentItem = some i ∨ (s.urgentItem = none ∧ s.setItem = some i))
    | .air i => r.kind = .read ∧ s.urgentItem = none ∧ s.setItem = none ∧ s.airItem = some i
    | .survey address =>
      r = pingRequest s address ∧ s.urgentItem = none ∧ s.setItem = none ∧ s.airItem = none ∧
        s.pingItem = some address
    | .probe i =>
      r.kind = .read ∧ s.urgentItem = none ∧ s.setItem = none ∧ s.airItem = none ∧
        s.pingItem = none ∧ s.probeItem = some i := by
  cases hu : s.urgentItem with
  | some i =>
    obtain ⟨howner, hkind, harg⟩ := setRequest_fields ((choose_of_urgent hu).symm.trans h)
    rw [howner]
    exact ⟨hkind, harg, .inl rfl⟩
  | none =>
  cases hs : s.setItem with
  | some i =>
    obtain ⟨howner, hkind, harg⟩ := setRequest_fields ((choose_of_set hu hs).symm.trans h)
    rw [howner]
    exact ⟨hkind, harg, .inr ⟨rfl, rfl⟩⟩
  | none =>
  cases ha : s.airItem with
  | some i =>
    obtain ⟨howner, hkind⟩ := airRequest_fields ((choose_of_air hu hs ha).symm.trans h)
    rw [howner]
    exact ⟨hkind, rfl, rfl, rfl⟩
  | none =>
  cases hp : s.pingItem with
  | some address =>
    cases (choose_of_ping hu hs ha hp).symm.trans h
    exact ⟨rfl, rfl, rfl, rfl, rfl⟩
  | none =>
  cases hq : s.probeItem with
  | some i =>
    obtain ⟨howner, hkind⟩ := probeRequest_fields ((choose_of_probe hu hs ha hp hq).symm.trans h)
    rw [howner]
    exact ⟨hkind, rfl, rfl, rfl, rfl, rfl⟩
  | none => cases (choose_of_nothing hu hs ha hp hq).symm.trans h

/-- The lowest item of a class, in the words of the statement. -/
theorem lowest_of_firstIndex {α : Type} {p : Nat → α → Bool} {l : List α} {i : Nat}
    (h : firstIndex p 0 l = some i) :
    ∃ a, l[i]? = some a ∧ p i a = true ∧ ∀ j b, j < i → l[j]? = some b → p j b = false := by
  obtain ⟨⟨a, ha, hp⟩, hlow⟩ := (firstIndex_eq_some_iff p l i).1 h
  exact ⟨a, ha, hp, fun j b hj => not_hasAt.1 (hlow j hj) b⟩

/-- A class in other words: the same entries hold it. -/
theorem firstIndex_of_iff {α : Type} {p : Nat → α → Bool} {l : List α} {eligible : Nat → Prop}
    (h : ∀ i, eligible i ↔ HasAt p l i) :
    (∀ i, eligible i ∧ (∀ j, j < i → ¬eligible j) → firstIndex p 0 l = some i) ∧
      ((∀ i, ¬eligible i) → firstIndex p 0 l = none) := by
  simp only [h]
  exact ⟨fun i => (firstIndex_eq_some_iff p l i).2, (firstIndex_eq_none_iff p l).2⟩

theorem urgent_item_iff (s : State) (i : Nat) :
    (∃ a, s.outputs.entries[i]? = some a ∧ (a.address ≠ none ∧ s.line.retryOf i = false) ∧ 4 ≤ a.owed) ↔
      HasAt (fun i a => urgent a (s.line.retryOf i)) s.outputs.entries i := by
  simp only [HasAt, urgent_iff]

theorem set_item_iff (s : State) (i : Nat) :
    (∃ a, s.outputs.entries[i]? = some a ∧ (a.address ≠ none ∧ s.line.retryOf i = false) ∧
        (1 ≤ a.owed ∨ a.acknowledged ≠ some a.commanded)) ↔
      HasAt (fun i a => setDue a (s.line.retryOf i)) s.outputs.entries i := by
  simp only [HasAt, setDue_iff]

theorem air_item_iff (s : State) (i : Nat) :
    (∃ a, s.nodes.airs[i]? = some a ∧ s.line.dueOf i = true ∧
        (a.node.state ≠ .empty ∧ a.node.state ≠ .isolated)) ↔
      HasAt (fun i a => s.line.dueOf i && a.node.pollable) s.nodes.airs i := by
  simp only [HasAt, Bool.and_eq_true, pollable_iff]

theorem sweep_slot_iff (s : State) (i : Nat) :
    (s.line.sweeping = true ∧ s.survey.condition = .idle ∧ s.line.sweepPosition ≤ i ∧
        ∃ p, s.nodes.probes[i]? = some p ∧ p.node.state ≠ .empty ∧ p.node.state ≠ .isolated) ↔
      SweepSlot s i := by
  simp only [SweepSlot, HasAt, Bool.and_eq_true, pollable_iff, decide_eq_true_eq]
  constructor
  · rintro ⟨hsweep, hidle, hpos, p, hp, hpoll⟩
    exact ⟨⟨hsweep, hidle⟩, p, hp, hpos, hpoll⟩
  · rintro ⟨⟨hsweep, hidle⟩, p, hp, hpos, hpoll⟩
    exact ⟨hsweep, hidle, hpos, p, hp, hpoll⟩

/-- Settles O15: soundness is `choose_sound` with the lowest item of the class; the other way round, each class in
the statement's words names the model's item. -/
theorem selectionOrder : Obligations.SelectionOrder := by
  refine ⟨fun s r h => ?_, fun s => ?_⟩
  · have hsound := choose_sound s r h
    dsimp only
    split <;> rename_i x howner <;> rw [howner] at hsound <;> dsimp only at hsound
    · obtain ⟨hkind, ⟨a, ha, harg⟩, hclass⟩ := hsound
      refine ⟨hkind, a, ha, harg, ?_⟩
      rcases hclass with hu | ⟨hu, hs⟩
      · obtain ⟨b, hb, hp, hlow⟩ := lowest_of_firstIndex hu
        cases ha.symm.trans hb
        exact .inl ⟨hp, hlow⟩
      · obtain ⟨b, hb, hp, hlow⟩ := lowest_of_firstIndex hs
        cases ha.symm.trans hb
        exact .inr ⟨noneHas hu, hp, hlow⟩
    · obtain ⟨hkind, hu, hs, ha⟩ := hsound
      exact ⟨hkind, noneHas hu, noneHas hs, lowest_of_firstIndex ha⟩
    · obtain ⟨rfl, hu, hs, ha, hp⟩ := hsound
      obtain ⟨hrun, _, hnext⟩ := (pingItem_eq_some_iff s _).1 hp
      exact ⟨rfl, noneHas hu, noneHas hs, noneHas ha, hrun, hnext, rfl⟩
    · obtain ⟨hkind, hu, hs, ha, _, hp⟩ := hsound
      obtain ⟨⟨⟨hsweep, hidle⟩, p, hprobe, hpoll⟩, hlow⟩ := (probeItem_eq_some_iff s _).1 hp
      obtain ⟨hpos, hpoll⟩ := Bool.and_eq_true_iff.1 hpoll
      refine ⟨hkind, noneHas hu, noneHas hs, noneHas ha, hidle, hsweep, of_decide_eq_true hpos, p, hprobe,
        hpoll, fun j b hj hlt hb => ?_⟩
      have hnot := not_hasAt.1 (fun hj => hlow j hlt ⟨⟨hsweep, hidle⟩, hj⟩) b hb
      rwa [decide_eq_true hj, Bool.true_and] at hnot
  · obtain ⟨hurgent, hnoUrgent⟩ := firstIndex_of_iff (urgent_item_iff s)
    obtain ⟨hset, hnoSet⟩ := firstIndex_of_iff (set_item_iff s)
    obtain ⟨hair, hnoAir⟩ := firstIndex_of_iff (air_item_iff s)
    intro first free polled urgentItem setItem airItem named probeItem noSet noAir noPing sent records
    have hnone (h : noSet) : s.urgentItem = none ∧ s.setItem = none :=
      ⟨hnoUrgent fun i => (h i).1, hnoSet fun i => (h i).2⟩
    have hping (h : noPing) : s.pingItem = none :=
      Option.eq_none_iff_forall_ne_some.2 fun a ha => h a ((pingItem_eq_some_iff s a).1 ha)
    refine ⟨fun i hi => ?_, fun i a address hs hi ha haddr => ?_, fun address hs ha hnamed => ?_,
      fun i p address hs ha hp hi hprobe haddr => ?_, fun hs ha hp hi => ?_⟩
    · rcases hi with hi | ⟨hu, hi⟩
      · have hitem : s.urgentItem = some i := hurgent i hi
        obtain ⟨a, ha, hp, _⟩ := lowest_of_firstIndex hitem
        obtain ⟨address, haddr⟩ := hasAddress_of_urgent hp
        exact ⟨a, address, ha, haddr, (choose_of_urgent hitem).trans (setRequest_of_entry ha haddr)⟩
      · have hitem : s.setItem = some i := hset i hi
        obtain ⟨a, ha, hp, _⟩ := lowest_of_firstIndex hitem
        obtain ⟨address, haddr⟩ := hasAddress_of_setDue hp
        exact ⟨a, address, ha, haddr,
          (choose_of_set (hnoUrgent hu) hitem).trans (setRequest_of_entry ha haddr)⟩
    · rw [choose_of_air (hnone hs).1 (hnone hs).2 (hair i hi), airRequest_of_entry ha haddr,
        readPolarity_eq]
    · refine ⟨_, choose_of_ping (hnone hs).1 (hnone hs).2 (hnoAir ha)
        ((pingItem_eq_some_iff s address).2 hnamed), fun hall => ?_, fun q hex hall => ?_⟩
      · rw [polarityAt_of_unknown hall]; rfl
      · rw [polarityAt_of_all hex hall]; rfl
    · have hitem : s.probeItem = some i :=
        (probeItem_eq_some_iff s i).2
          ⟨(sweep_slot_iff s i).1 hi.1, fun j hj h => hi.2 j hj ((sweep_slot_iff s j).2 h)⟩
      rw [choose_of_probe (hnone hs).1 (hnone hs).2 (hnoAir ha) (hping hp) hitem,
        probeRequest_of_entry hprobe haddr, readPolarity_eq]
    · have hitem : s.probeItem = none :=
        (probeItem_eq_none_iff s).2 fun i h => hi i ((sweep_slot_iff s i).2 h)
      exact choose_of_nothing (hnone hs).1 (hnone hs).2 (hnoAir ha) (hping hp) hitem

/-! ## Issuing it (R5, R21) -/

theorem exec_lineSelect {s : State} (hr : s.resetHeld = false) : exec .lineSelect s = .next (select s) :=
  congrArg Host.Outcome.next (awake_of_high hr _)

theorem testSweep_of_going {s : State} (h : s.sweepDone = false) : testSweep s = s := by
  rw [testSweep, h]
  rfl

/-- A selection on an idle line, with no sweep to complete. -/
theorem select_of_idle {s : State} (hi : s.line.condition = .idle) (hd : s.sweepDone = false) :
    (∀ r, s.choose = some r → select s = issue r s) ∧ (s.choose = none → select s = s) := by
  rw [select, if_pos hi, testSweep_of_going hd]
  dsimp only
  exact ⟨fun r hc => by rw [hc], fun hc => by rw [hc]⟩

/-- Settles O14: a selection tests the sweep, chooses, and issues what it chose. -/
theorem lineSelectIssuesChosenRequest : Obligations.LineSelectIssuesChosenRequest := by
  intro s hr
  rw [exec_lineSelect hr]
  refine ⟨fun r hi hd hc => ?_, fun hi hd hc => ?_, fun hi => ?_⟩
  · rw [(select_of_idle hi hd).1 r hc]
    cases howner : r.owner <;>
      simp only [issue, howner, Arbiter.issue, NodeTables.issue, Outputs.issue, Survey.issue,
        Plp.takeRequest, LineParams.latch]
  · rw [(select_of_idle hi hd).2 hc]
  · rw [select, if_neg hi]

end Sys2Proof.Machine.LineSelection
end

section
/-! The delivery of an outcome (R17): the Line Health Monitor, the owner and the Line Arbiter take it in turn. -/

namespace Sys2Proof.Machine.OutcomeDelivery

open Sys2Proof.Machine.LineSurvey Sys2Proof.Machine.LineSelection Sys2Proof.Machine.StepBounds

/-! ## The Line Health Monitor (R57 to R59) -/

theorem monitor_nodes (o : LineOutcome) (s : State) :
    (monitor o s).nodes =
      { s.nodes with
        lineWindow := lineWindowAfter s.nodes.lineWindow o,
        health :=
          nextHealth s.nodes.health (lineWindowAfter s.nodes.lineWindow o) o s.lineParams.degrade } := by
  simp [monitor]

theorem monitor_events (o : LineOutcome) (s : State) :
    (monitor o s).events =
      (healthRaise s.nodes.health (monitor o s).nodes.health).foldl EventUnit.latch s.events := by
  rw [monitor_nodes]
  exact raiseAll_events _ _

/-- The Monitor asks for a survey at the entry into DOWN alone (R59). -/
theorem monitor_survey (o : LineOutcome) (s : State) :
    (monitor o s).survey =
      if s.nodes.health = .degraded ∧ (monitor o s).nodes.health = .down ∧
          s.lineParams.autoSurvey = true ∧ s.survey.condition = .idle then s.survey.start
      else s.survey := by
  rw [monitor_nodes]
  simp only [monitor, raiseAll_survey, Survey.startRequest, Bool.and_eq_true, beq_iff_eq]
  split
  · next h =>
    obtain ⟨⟨hbefore, hafter⟩, hauto⟩ := h
    exact if_congr (by simp only [hbefore, hauto, ← hafter, true_and]) rfl rfl
  · next h =>
    rw [if_neg]
    rintro ⟨hbefore, hafter, hauto, _⟩
    exact h ⟨⟨hbefore, hafter⟩, hauto⟩

/-- The Monitor's new state, and its event, decide what it leaves. -/
theorem monitor_judged {o : LineOutcome} {s : State} {before after : LineHealth} {rs : List Raise}
    (hb : s.nodes.health = before)
    (ha : nextHealth before (lineWindowAfter s.nodes.lineWindow o) o s.lineParams.degrade = after)
    (hr : healthRaise before after = rs) :
    (monitor o s).nodes.health = after ∧ (monitor o s).events = rs.foldl EventUnit.latch s.events := by
  have hafter : (monitor o s).nodes.health = after := by rw [monitor_nodes, ← ha, ← hb]
  exact ⟨hafter, by rw [monitor_events, hafter, hb, hr]⟩

theorem lineWindowAfter_length (w : List LineOutcome) (o : LineOutcome) :
    (lineWindowAfter w o).length = min 32 (w.length + 1) := by
  simp only [lineWindowAfter, lastN, Config.lineWindowLength, List.length_drop, List.length_append,
    List.length_singleton]
  omega

/-! ## What the completion test of a sweep leaves (R27, R80) -/

/-- A probe record, the age of its reading left out. -/
def ageless (p : ProbeRecord) : ProbeRecord :=
  { p with reading := p.reading.map fun r => { r with age := 0 } }

/-- The machine `t` differs from `s` only as the completion and the start of sweeps may have it. -/
structure SweptFrom (s t : State) : Prop where
  probes : t.nodes.probes.map ageless = s.nodes.probes.map ageless
  nodes : t.nodes = { s.nodes with probes := t.nodes.probes }
  line :
    t.line =
      { s.line with
        sweepNumber := t.line.sweepNumber, sweeping := t.line.sweeping,
        sweepPending := t.line.sweepPending, sweepPosition := t.line.sweepPosition }
  flags : ∀ n, n ≠ 12 → n ≠ 13 → n ≠ 17 → n ≠ 23 → t.events.flags[n]? = s.events.flags[n]?

theorem SweptFrom.refl (s : State) : SweptFrom s s := ⟨rfl, rfl, rfl, fun _ _ _ _ _ => rfl⟩

theorem SweptFrom.trans {s t u : State} (h : SweptFrom s t) (h' : SweptFrom t u) : SweptFrom s u where
  probes := h'.probes.trans h.probes
  nodes := by rw [h'.nodes, h.nodes]
  line := by rw [h'.line, h.line]
  flags n h12 h13 h17 h23 := (h'.flags n h12 h13 h17 h23).trans (h.flags n h12 h13 h17 h23)

theorem SweptFrom.of_sweep (s : State) (number position : Nat) (sweeping pending : Bool) :
    SweptFrom s
      { s with
        line :=
          { s.line with
            sweepNumber := number, sweeping := sweeping, sweepPending := pending,
            sweepPosition := position } } := ⟨rfl, rfl, rfl, fun _ _ _ _ _ => rfl⟩

theorem ageless_ageReading (sweep : Nat) (p : ProbeRecord) :
    ageless { p with reading := p.reading.map (ageReading sweep) } = ageless p := by
  simp only [ageless, Option.map_map]
  congr 2
  funext r
  simp only [Function.comp_apply, ageReading]
  split <;> rfl

theorem runEvaluation_nodes (sweep : Nat) (s : State) :
    (runEvaluation sweep s).nodes = { s.nodes with probes := ageReadings sweep s.nodes.probes } := by
  simp [runEvaluation]

theorem runEvaluation_flags (sweep : Nat) (s : State) {n : Nat} (h12 : n ≠ 12) (h13 : n ≠ 13)
    (h17 : n ≠ 17) (h23 : n ≠ 23) : (runEvaluation sweep s).events.flags[n]? = s.events.flags[n]? := by
  unfold runEvaluation
  dsimp only
  rw [applyEvaluation_flags _ _ n h13 h17, raiseAll_events, foldl_latch_other, reportEvaluation_flags _ _ _ n h23]
  intro r hr
  split at hr
  · cases List.mem_singleton.1 hr
    exact Ne.symm h12
  · cases hr

theorem completeSweep_swept (s : State) : SweptFrom s (completeSweep s) where
  probes := by
    simp only [completeSweep, runEvaluation_nodes, ageReadings, List.map_map]
    exact List.map_congr_left fun p _ => ageless_ageReading _ p
  nodes := by simp only [completeSweep, runEvaluation_nodes]
  line := by simp only [completeSweep, runEvaluation_line]
  flags n h12 h13 h17 h23 := runEvaluation_flags _ s h12 h13 h17 h23

theorem startSweep_swept (s : State) : SweptFrom s (startSweep s) := by
  unfold startSweep
  dsimp only
  split
  · exact (SweptFrom.of_sweep s _ _ _ _).trans (completeSweep_swept _)
  · exact SweptFrom.of_sweep s _ _ _ _

theorem testSweep_swept (s : State) : SweptFrom s (testSweep s) := by
  unfold testSweep
  dsimp only
  split
  · have hdone := completeSweep_swept s
    split
    · exact (hdone.trans (SweptFrom.of_sweep (completeSweep s) _ _ _ _)).trans (startSweep_swept _)
    · exact hdone
  · exact .refl s

/-- A property of a record that does not see the age of its reading. -/
theorem SweptFrom.record {s t : State} (h : SweptFrom s t) {α : Type} (f : ProbeRecord → α)
    (hf : ∀ p, f (ageless p) = f p) (i : Nat) : (t.nodes.probes[i]?).map f = (s.nodes.probes[i]?).map f := by
  have hmap := congrArg (fun l => (l[i]?).map f) h.probes
  simpa only [List.getElem?_map, Option.map_map, Function.comp_def, hf] using hmap

/-! ## The delivery, owner by owner (R17) -/

theorem monitored_nodes (o : OutcomeRecord) (s : State) :
    (monitored o s).nodes =
      { s.nodes with
        lineWindow := lineWindowAfter s.nodes.lineWindow o.outcome,
        health :=
          nextHealth s.nodes.health (lineWindowAfter s.nodes.lineWindow o.outcome) o.outcome
            s.lineParams.degrade } := monitor_nodes _ _

@[simp] theorem monitored_line (o : OutcomeRecord) (s : State) :
    (monitored o s).line = { s.line with condition := .idle } := monitor_line _ _

@[simp] theorem monitored_plp (o : OutcomeRecord) (s : State) : (monitored o s).plp = s.plp.toIdle :=
  monitor_plp _ _

@[simp] theorem monitored_outputs (o : OutcomeRecord) (s : State) : (monitored o s).outputs = s.outputs :=
  monitor_outputs _ _

@[simp] theorem monitored_lineParams (o : OutcomeRecord) (s : State) :
    (monitored o s).lineParams = s.lineParams := monitor_lineParams _ _

@[simp] theorem monitored_schedule (o : OutcomeRecord) (s : State) :
    (monitored o s).schedule = s.schedule := monitor_schedule _ _

@[simp] theorem monitored_calibration (o : OutcomeRecord) (s : State) :
    (monitored o s).calibration = s.calibration := monitor_calibration _ _

/-- What the owner and the Plant Loop Port leave for the Line Arbiter. -/
def ownerTook (o : OutcomeRecord) (s : State) : State := passThrough o (deliverToOwner o (monitored o s))

@[simp] theorem ownerTook_line (o : OutcomeRecord) (s : State) :
    (ownerTook o s).line = { s.line with condition := .idle } := by
  simp [ownerTook]

@[simp] theorem ownerTook_plp (o : OutcomeRecord) (s : State) : (ownerTook o s).plp = s.plp.toIdle := by
  simp [ownerTook]

theorem ownerTook_flags (o : OutcomeRecord) (s : State) {n : Nat} (h : n ≠ 23) :
    (ownerTook o s).events.flags[n]? = (deliverToOwner o (monitored o s)).events.flags[n]? :=
  passThrough_flags _ _ h

theorem deliver_probe_swept {o : OutcomeRecord} {i : Nat} (s : State) (h : o.request.owner = .probe i) :
    SweptFrom
      { ownerTook o s with line := searchProbe s.nodes i o.outcome { s.line with condition := .idle } }
      (deliver o s) := by
  have hdeliver : deliver o s =
      testSweep { ownerTook o s with line := searchProbe s.nodes i o.outcome (ownerTook o s).line } := by
    simp [deliver, arbiterTake, ownerTook, monitored, h]
  rw [hdeliver, ownerTook_line]
  exact testSweep_swept _

theorem deliver_air {o : OutcomeRecord} {i : Nat} (s : State) (h : o.request.owner = .air i) :
    deliver o s =
      { ownerTook o s with line := searchAir s.nodes i o.outcome { s.line with condition := .idle } } := by
  rw [← ownerTook_line o s]
  simp [deliver, arbiterTake, ownerTook, monitored, h]

theorem deliver_actuator {o : OutcomeRecord} {i : Nat} (s : State) (h : o.request.owner = .actuator i) :
    deliver o s = creditSet i o.outcome (ownerTook o s) := by
  simp [deliver, arbiterTake, ownerTook, monitored, h]

theorem deliver_survey {o : OutcomeRecord} {a : Nat} (s : State) (h : o.request.owner = .survey a) :
    deliver o s = ownerTook o s := by
  simp [deliver, arbiterTake, ownerTook, monitored, h]

/-- The owner leaves the tables of the Monitor. -/
theorem deliverToOwner_health (o : OutcomeRecord) (s : State) :
    (deliverToOwner o s).nodes.lineWindow = s.nodes.lineWindow ∧
      (deliverToOwner o s).nodes.health = s.nodes.health := by
  unfold deliverToOwner
  split
  · unfold ownerProbe; (repeat' split) <;> simp
  · unfold ownerAir; (repeat' split) <;> simp
  · simp
  · simp

theorem ownerTook_health (o : OutcomeRecord) (s : State) :
    (ownerTook o s).nodes.lineWindow = lineWindowAfter s.nodes.lineWindow o.outcome ∧
      (ownerTook o s).nodes.health =
        nextHealth s.nodes.health (lineWindowAfter s.nodes.lineWindow o.outcome) o.outcome
          s.lineParams.degrade := by
  rw [ownerTook, passThrough_nodes, (deliverToOwner_health _ _).1, (deliverToOwner_health _ _).2,
    monitored_nodes]
  exact ⟨rfl, rfl⟩

theorem searchProbe_condition (t : NodeTables) (i : Nat) (o : LineOutcome) (l : Arbiter) :
    (searchProbe t i o l).condition = l.condition := by
  unfold searchProbe; (repeat' split) <;> rfl

theorem searchAir_condition (t : NodeTables) (i : Nat) (o : LineOutcome) (l : Arbiter) :
    (searchAir t i o l).condition = l.condition := by
  unfold searchAir; (repeat' split) <;> rfl

theorem creditSet_condition (i : Nat) (o : LineOutcome) (s : State) :
    (creditSet i o s).line.condition = s.line.condition := by
  unfold creditSet; split <;> rfl

/-- With a delivery the PLP is in IDLE and the line idle (R17, R21). -/
theorem deliver_plp (o : OutcomeRecord) (s : State) : (deliver o s).plp = s.plp.toIdle := by
  rw [show deliver o s = arbiterTake s.nodes o (ownerTook o s) from rfl, arbiterTake_plp, ownerTook_plp]

theorem deliver_condition (o : OutcomeRecord) (s : State) : (deliver o s).line.condition = .idle := by
  cases h : o.request.owner with
  | probe i => rw [(deliver_probe_swept s h).line]; exact searchProbe_condition _ _ _ _
  | air i => rw [deliver_air s h]; exact searchAir_condition _ _ _ _
  | actuator i => rw [deliver_actuator s h, creditSet_condition, ownerTook_line]
  | survey a => rw [deliver_survey s h, ownerTook_line]

theorem deliver_health (o : OutcomeRecord) (s : State) :
    (deliver o s).nodes.lineWindow = (ownerTook o s).nodes.lineWindow ∧
      (deliver o s).nodes.health = (ownerTook o s).nodes.health := by
  cases h : o.request.owner with
  | probe i => rw [(deliver_probe_swept s h).nodes]; exact ⟨rfl, rfl⟩
  | air i => rw [deliver_air s h]; exact ⟨rfl, rfl⟩
  | actuator i => rw [deliver_actuator s h, creditSet_nodes]; exact ⟨rfl, rfl⟩
  | survey a => rw [deliver_survey s h]; exact ⟨rfl, rfl⟩

/-- Settles O19: the table is `nextHealth` and `healthRaise` at each state; no later block of a delivery undoes it. -/
theorem deliveryJudgesLine : Obligations.DeliveryJudgesLine := by
  refine ⟨fun o s => ?_, fun o s => ?_⟩
  · intro w t
    refine ⟨fun h hf => ?_, fun h hf => ?_, fun h hlen hf => ?_, fun h hf => ?_, fun h hnot hf => ?_,
      fun h ho => ?_, fun h ho => ?_, monitor_survey o s⟩
    · exact monitor_judged h (if_pos hf) rfl
    · exact monitor_judged h (if_neg (Nat.not_le.2 hf)) rfl
    · exact monitor_judged h (if_pos ⟨hlen, hf⟩) rfl
    · have hnot : ¬(w.length = 32 ∧ failures w = 32) := by omega
      exact monitor_judged h ((if_neg hnot).trans (if_pos hf)) rfl
    · exact monitor_judged h ((if_neg hnot).trans (if_neg (Nat.not_le.2 hf))) rfl
    · exact monitor_judged h (if_pos ho) rfl
    · exact monitor_judged h (if_neg ho) rfl
  · refine ⟨?_, ?_, deliver_condition o s, (deliver_health o s).1.trans (ownerTook_health o s).1,
      lineWindowAfter_length _ _, (deliver_health o s).2.trans (ownerTook_health o s).2⟩
    · rw [deliver_plp]; rfl
    · rw [deliver_plp]; rfl

end Sys2Proof.Machine.OutcomeDelivery
end

section
/-! A SET outcome and the actuator polled (R33, R34, R146 to R148). -/

namespace Sys2Proof.Machine.OutcomeDelivery

open Sys2Proof.Machine.LineSurvey

/-! ## The echo (R147) -/

theorem echoPosition_eq (v : ActValue) (payload : List Byte) :
    echoPosition v payload =
      match v, payload with
      | .percent _, b :: _ => if b.toNat ≤ 100 then some (ActValue.percent b.toNat) else none
      | .fan _, b :: _ => (fanOf b).map ActValue.fan
      | _, [] => none := by
  cases v <;> cases payload <;> rfl

theorem echoMatches_iff (v : ActValue) (position : Option ActValue) :
    echoMatches v position = true ↔
      match v, position with
      | .percent x, some (.percent y) => y ≤ x + 5 ∧ x ≤ y + 5
      | .fan x, some (.fan y) => x = y
      | _, _ => False := by
  rcases v with x | x <;> rcases position with _ | (y | y)
  case percent.some.percent => exact decide_eq_true_iff
  all_goals simp [echoMatches]

theorem checkEcho_of_near {v : ActValue} {payload : List Byte}
    (h : echoMatches v (echoPosition v payload) = true) (a : Actuator) :
    a.checkEcho v payload = { a with echoed := echoPosition v payload, mismatches := 0 } := by
  simp only [Actuator.checkEcho, h, if_true]

theorem checkEcho_of_far {v : ActValue} {payload : List Byte}
    (h : ¬echoMatches v (echoPosition v payload) = true) (a : Actuator) :
    a.checkEcho v payload =
      { a with echoed := echoPosition v payload, mismatches := min 3 (a.mismatches + 1) } := by
  simp only [Actuator.checkEcho, h, Bool.false_eq_true, if_false]
  rfl

/-- The third mismatch in a row is raised. -/
theorem echoRaise_of_far {v : ActValue} {payload : List Byte}
    (h : ¬echoMatches v (echoPosition v payload) = true) {a : Actuator} (ha : 2 ≤ a.mismatches) (i : Nat) :
    echoRaise a i v payload = [(.actuatorMismatch, some i)] := by
  rw [echoRaise, checkEcho_of_far h, if_pos]
  exact ⟨by dsimp only; omega, Bool.eq_false_iff.2 h⟩

/-! ## An applied SET outcome (R146, R148) -/

theorem take_of_failed {a : Actuator} {o : OutcomeRecord} (h : o.response = none) (i : Nat) (mark : Bool) :
    a.take i mark o = a.takeFailed i := by
  rw [Actuator.take, h]

theorem take_of_good {a : Actuator} {o : OutcomeRecord} {g : GoodResponse} {v : ActValue}
    (hg : o.response = some g) (hv : o.request.argument = some v) (i : Nat) (mark : Bool) :
    a.take i mark o = a.takeGood i mark v g := by
  rw [Actuator.take, hg, hv]

theorem takeGood_of_echo {a : Actuator} {g : GoodResponse} (h : g.kind = .echo) (i : Nat) (v : ActValue) :
    a.takeGood i false v g =
      ({ a.acknowledge with acknowledged := some v }.checkEcho v g.payload,
        echoRaise { a.acknowledge with acknowledged := some v } i v g.payload) := by
  rw [Actuator.takeGood, h]
  rfl

theorem takeGood_of_other {a : Actuator} {g : GoodResponse} (h : g.kind ≠ .echo) (i : Nat) (v : ActValue) :
    a.takeGood i false v g = ({ a.acknowledge with acknowledged := some v }, []) := by
  unfold Actuator.takeGood
  cases hk : g.kind <;> simp_all

theorem takeFailed_entry (a : Actuator) (i : Nat) :
    (a.takeFailed i).1 =
      { a with failed := min 4 (a.failed + 1), state := if 3 ≤ a.failed then .lost else a.state } := by
  have hfour : satSucc 4 a.failed = 4 ↔ 3 ≤ a.failed := by unfold satSucc; omega
  simp only [Actuator.takeFailed, hfour]
  by_cases h3 : 3 ≤ a.failed
  · by_cases hl : a.state = .lost
    · simp only [hl, ne_eq, not_true, and_false, if_false, ite_self]; rfl
    · rw [if_pos ⟨h3, hl⟩, if_pos h3]; rfl
  · rw [if_neg fun h => h3 h.1, if_neg h3]; rfl

theorem takeFailed_lost {a : Actuator} (h3 : 3 ≤ a.failed) (hl : a.state ≠ .lost) (i : Nat) :
    (a.takeFailed i).2 = [(.actuatorLost, some i)] := by
  have hfour : satSucc 4 a.failed = 4 := by unfold satSucc; omega
  simp only [Actuator.takeFailed]
  rw [if_pos ⟨hfour, hl⟩]

theorem owedAfter_of_not_good {o : LineOutcome} (h : o ≠ .good) (owed : Int) : owedAfter owed o = owed := by
  cases o <;> simp_all [owedAfter]

theorem failed_of_not_good {o : LineOutcome} (h : o ≠ .good) : o.failed = true := by
  cases o <;> simp_all [LineOutcome.failed]

/-! ## Its delivery (R33, R34, R45) -/

/-- A dropped outcome changes neither table nor marks. -/
theorem deliver_set_dropped {o : OutcomeRecord} {i : Nat} {s : State} (ho : o.request.owner = .actuator i)
    (hd : s.outputs.dropMark = true) :
    (deliver o s).outputs = s.outputs ∧ (deliver o s).line.retryWait = s.line.retryWait := by
  have hout : (ownerTook o s).outputs = s.outputs := by
    simp [ownerTook, deliverToOwner, ho, ownerActuator, hd]
  rw [deliver_actuator s ho, creditSet, hout, if_pos hd, hout, ownerTook_line]
  exact ⟨rfl, rfl⟩

/-- An applied one is taken by the entry, and credited (R33). -/
theorem deliver_set_entries {o : OutcomeRecord} {i : Nat} {s : State} {a : Actuator}
    (ho : o.request.owner = .actuator i) (ha : s.outputs.entries[i]? = some a)
    (hd : s.outputs.dropMark = false) :
    (deliver o s).outputs.entries =
      s.outputs.entries.set i
        { (a.take i s.outputs.kindMark o).1 with owed := owedAfter a.owed o.outcome } := by
  have hout : (ownerTook o s).outputs =
      { s.outputs with entries := s.outputs.entries.set i (a.take i s.outputs.kindMark o).1 } := by
    simp [ownerTook, deliverToOwner, ho, ownerActuator, hd, ha]
  have hi : i < s.outputs.entries.length := (List.getElem?_eq_some_iff.1 ha).1
  rw [deliver_actuator s ho, creditSet, hout, if_neg (by simp [hd])]
  dsimp only
  rw [modify_of_getElem? _ (List.getElem?_set_self hi), List.set_set, take_actuator_owed]

theorem deliver_set_retryWait {o : OutcomeRecord} {i : Nat} {s : State}
    (ho : o.request.owner = .actuator i) (hd : s.outputs.dropMark = false) :
    (deliver o s).line.retryWait =
      if o.outcome.failed then s.line.retryWait.set i true else s.line.retryWait := by
  have hout : (ownerTook o s).outputs.dropMark = false := by
    rw [ownerTook, passThrough_outputs, deliverToOwner, ho]
    unfold ownerActuator
    (repeat' split) <;> simp [hd]
  rw [deliver_actuator s ho, creditSet, hout, ownerTook_line]
  rfl

/-- What the entry raises is latched. -/
theorem deliver_set_latched {o : OutcomeRecord} {i : Nat} {s : State} {a : Actuator}
    (ho : o.request.owner = .actuator i) (ha : s.outputs.entries[i]? = some a)
    (hd : s.outputs.dropMark = false) (hlen : s.events.flags.length = 25) {r : Raise}
    (hr : r ∈ (a.take i s.outputs.kindMark o).2) (h23 : r.1.number ≠ 23) :
    (deliver o s).events.latched r.1.number = true := by
  have hevents : (deliverToOwner o (monitored o s)).events =
      (a.take i s.outputs.kindMark o).2.foldl EventUnit.latch (monitored o s).events := by
    simp only [deliverToOwner, ho, ownerActuator, monitored_outputs, hd, ha, Bool.false_eq_true, if_false,
      raiseAll_events]
  rw [deliver_actuator s ho, creditSet_events, latched_congr (ownerTook_flags o s h23), hevents]
  refine foldl_latch_mem _ _ r hr ?_
  rw [monitored_flags_length, hlen]
  cases r.1 <;> decide

/-- Settles O20: a dropped outcome stops at the mark; an applied one is `take` with the credit. -/
theorem setOutcomeCredit : Obligations.SetOutcomeCredit := by
  intro o s i a ho ha t entry
  have hi : i < s.outputs.entries.length := (List.getElem?_eq_some_iff.1 ha).1
  have hentry (hd : s.outputs.dropMark = false) : entry =
      some { (a.take i s.outputs.kindMark o).1 with owed := owedAfter a.owed o.outcome } := by
    show (deliver o s).outputs.entries[i]? = _
    rw [deliver_set_entries ho ha hd, List.getElem?_set_self hi]
  have hdropped (hd : s.outputs.dropMark = true) : entry = some a := by
    show (deliver o s).outputs.entries[i]? = _
    rw [(deliver_set_dropped ho hd).1, ha]
  refine ⟨fun hd => ⟨by rw [hdropped hd]; rfl, (deliver_set_dropped ho hd).2⟩, fun hd hg => ?_,
    fun hd hg => ?_, hdropped, fun g v hd hgood hg hv => ?_, fun hd hg hnone => ⟨?_, fun h3 hl hlen => ?_⟩,
    fun j hj => ?_⟩
  · rw [hentry hd, deliver_set_retryWait ho hd, hg]
    exact ⟨rfl, rfl⟩
  · rw [hentry hd, deliver_set_retryWait ho hd, owedAfter_of_not_good hg, failed_of_not_good hg]
    exact ⟨rfl, rfl⟩
  · have htake := take_of_good (a := a) hg hv i s.outputs.kindMark
    rw [hentry hd, hgood, htake]
    intro active acked position near
    have hposition : position = echoPosition v g.payload := (echoPosition_eq v g.payload).symm
    have hnear : near ↔ echoMatches v (echoPosition v g.payload) = true := by
      rw [← hposition]
      exact (echoMatches_iff v position).symm
    refine ⟨fun hm => ?_, fun hm hk => ?_, fun hm hk hn => ?_, fun hm hk hn => ⟨?_, fun h2 hlen => ?_⟩⟩
    · rw [hm]; rfl
    · rw [hm, takeGood_of_other hk]; rfl
    · rw [hm, takeGood_of_echo hk, checkEcho_of_near (hnear.1 hn), hposition]; rfl
    · rw [hm, takeGood_of_echo hk, checkEcho_of_far (mt hnear.2 hn), hposition]; rfl
    · refine deliver_set_latched (r := (.actuatorMismatch, some i)) ho ha hd hlen ?_ (show 10 ≠ 23 by decide)
      rw [htake, hm, takeGood_of_echo hk]
      dsimp only
      rw [echoRaise_of_far (mt hnear.2 hn) (by exact h2)]
      exact List.mem_singleton.2 rfl
  · rw [hentry hd, owedAfter_of_not_good hg, take_of_failed hnone, takeFailed_entry]
  · refine deliver_set_latched (r := (.actuatorLost, some i)) ho ha hd hlen ?_ (show 11 ≠ 23 by decide)
    rw [take_of_failed hnone, takeFailed_lost h3 hl]
    exact List.mem_singleton.2 rfl
  · show (deliver o s).outputs.entries[j]? = _
    cases hd : s.outputs.dropMark with
    | true => rw [(deliver_set_dropped ho hd).1]
    | false => rw [deliver_set_entries ho ha hd, List.getElem?_set_ne (Ne.symm hj)]

end Sys2Proof.Machine.OutcomeDelivery
end

section
/-! The supervision of a record (R45 to R53): the sequence judgment, the state machine, and what an outcome leaves. -/

namespace Sys2Proof.Machine.Supervision

open Sys2Proof.Machine.LineSelection

/-! ## The sequence judgment (R47) -/

/-- No number follows itself modulo 16. -/
theorem ne_next (n : Nat) : n ≠ (n + 1) % 16 := by omega

theorem judgeSequence_normal_iff (last received : Nat) :
    judgeSequence (some last) received = .normal ↔ received = (last + 1) % 16 := by
  simp only [judgeSequence]
  (repeat' split) <;> simp_all

theorem judgeSequence_repeated_iff (last received : Nat) :
    judgeSequence (some last) received = .repeated ↔ received = last := by
  have hne := ne_next last
  simp only [judgeSequence]
  split
  · next h => simp only [reduceCtorEq, false_iff]; omega
  · split <;> simp_all

theorem judgeSequence_gap_iff (last received : Nat) :
    judgeSequence (some last) received = .gap ↔ received ≠ (last + 1) % 16 ∧ received ≠ last := by
  simp only [judgeSequence]
  (repeat' split) <;> simp_all

/-- REPEAT is the last number again. -/
theorem judgeSequence_eq_repeated (last : Option Nat) (received : Nat) :
    judgeSequence last received = .repeated ↔ last = some received := by
  cases last with
  | none => simp [judgeSequence]
  | some last => rw [judgeSequence_repeated_iff, Option.some.injEq, eq_comm]

/-! ## The state machine (R50 to R53) -/

section Judge

variable {n : NodeRecord} {o : LineOutcome} (q : Nat)

theorem judge_jabber (h : n.state = .unseen ∨ n.state = .active ∨ n.state = .suspect ∨ n.state = .lost) :
    n.judge .jabber q = (n.isolate q, some .nodeIsolated) := by
  rcases h with h | h | h | h <;> rw [NodeRecord.judge.eq_def, h]

theorem judge_first_good (h : n.state = .unseen) :
    n.judge .good q = ({ n with state := .active, window := [.good] }, none) := by
  rw [NodeRecord.judge.eq_def, h]

theorem judge_last_miss (h : n.state = .unseen ∨ n.state = .active ∨ n.state = .suspect)
    (hm : n.misses = 8) : n.judge .miss q = ({ n with state := .lost }, some .probeLost) := by
  rcases h with h | h | h <;> rw [NodeRecord.judge.eq_def, h]
  · exact if_pos hm
  · exact if_pos ⟨rfl, hm⟩
  · exact if_pos ⟨rfl, hm⟩

/-- Failures make an ACTIVE record SUSPECT, where no MISS makes it LOST. -/
theorem judge_active_failing (h : n.state = .active) (ho : o ≠ .jabber) (hm : ¬(o = .miss ∧ n.misses = 8))
    (hf : 3 ≤ failures n.window) : n.judge o q = ({ n with state := .suspect }, some .probeSuspect) := by
  rw [NodeRecord.judge.eq_def, h]
  cases o with
  | jabber => exact absurd rfl ho
  | good | bad | miss => exact (if_neg hm).trans (if_pos hf)

theorem judge_active_stays (h : n.state = .active) (ho : o ≠ .jabber) (hm : ¬(o = .miss ∧ n.misses = 8))
    (hf : failures n.window < 3) : n.judge o q = (n, none) := by
  rw [NodeRecord.judge.eq_def, h]
  cases o with
  | jabber => exact absurd rfl ho
  | good | bad | miss => exact (if_neg hm).trans (if_neg (Nat.not_le.2 hf))

theorem judge_suspect_recovers (h : n.state = .suspect) (hl : n.window.length = 8)
    (hf : failures n.window = 0) : n.judge .good q = ({ n with state := .active }, none) := by
  rw [NodeRecord.judge.eq_def, h]
  exact (if_neg (by simp)).trans (if_pos ⟨hl, hf⟩)

theorem judge_lost_good (h : n.state = .lost) :
    n.judge .good q = ({ n with state := .suspect }, some .probeSuspect) := by
  rw [NodeRecord.judge.eq_def, h]

theorem judge_lost_bad (h : n.state = .lost) : n.judge .bad q = (n, none) := by
  rw [NodeRecord.judge.eq_def, h]

/-- A judgment raises an event of the state machine, and leaves what a GOOD taught. -/
theorem judge_keeps (n : NodeRecord) (o : LineOutcome) :
    (n.judge o q).1.lastSequence = n.lastSequence ∧ (n.judge o q).1.polarity = n.polarity ∧
      (n.judge o q).2 ≠ some .polarityChange := by
  unfold NodeRecord.judge
  (repeat' split) <;> simp [NodeRecord.isolate]

theorem judge_event_number {e : Event} (h : (n.judge o q).2 = some e) : 2 ≤ e.number ∧ e.number ≤ 4 := by
  unfold NodeRecord.judge at h
  (repeat' split at h) <;> cases h <;> decide

end Judge

/-! ## An applied outcome (R45 to R48) -/

section Take

variable {n : NodeRecord} (hp : n.pollable = true) (k q : Nat) (r : Request)

/-- What a judgment leaves, with its event for node number `k`. -/
def judged (k : Nat) (j : NodeRecord × Option Event) : NodeRecord × List Raise :=
  (j.1, (j.2.map fun e => (e, some k)).toList)

include hp in
theorem take_failed (o : LineOutcome) :
    n.take k q { request := r, outcome := o, response := none } = judged k ((n.join o).judge o q) := by
  rw [NodeRecord.take, if_pos hp]
  exact Prod.ext rfl (List.append_nil _)

include hp in
theorem take_good (g : GoodResponse) :
    n.take k q { request := r, outcome := .good, response := some g } =
      ((judged k (((n.join .good).learn g).judge .good q)).1,
        (judged k (((n.join .good).learn g).judge .good q)).2 ++
          if n.flips g then [(Event.polarityChange, some k)] else []) := by
  rw [NodeRecord.take, if_pos hp]
  rfl

theorem pollable_of_state (h : n.state = .unseen ∨ n.state = .active ∨ n.state = .suspect ∨ n.state = .lost) :
    n.pollable = true := by
  rcases h with h | h | h | h <;> simp [NodeRecord.pollable, h]

end Take

theorem flips_iff (n : NodeRecord) (g : GoodResponse) :
    n.flips g = true ↔ n.polarity ≠ none ∧ n.polarity ≠ some g.sync := by
  unfold NodeRecord.flips
  cases n.polarity <;> simp

theorem not_flips_of_same {n : NodeRecord} {g : GoodResponse} (h : n.polarity = some g.sync) :
    n.flips g = false := Bool.eq_false_iff.2 fun hf => ((flips_iff n g).1 hf).2 h

/-- The events of an applied outcome are those of the Node Tables. -/
theorem take_event_number {n : NodeRecord} {k q : Nat} {o : OutcomeRecord} {e : Raise}
    (h : e ∈ (n.take k q o).2) : 2 ≤ e.1.number ∧ e.1.number ≤ 5 := by
  unfold NodeRecord.take at h
  split at h
  · rcases List.mem_append.1 h with h | h
    · obtain ⟨ev, hev, rfl⟩ := Option.map_eq_some_iff.1 (Option.mem_toList.1 h)
      obtain ⟨hlow, hhigh⟩ := judge_event_number q hev
      exact ⟨hlow, Nat.le_succ_of_le hhigh⟩
    · split at h
      · split at h
        · cases List.mem_singleton.1 h
          exact (by decide : 2 ≤ 5 ∧ 5 ≤ 5)
        · cases h
      · cases h
  · cases h

/-! ## The reading of a slot (R47, R49) -/

theorem readingAfter_kept {table : List SpeciesGroup} {nodes : NodeTables} {db : Option Nat}
    {slot : ProbeRecord} {o : OutcomeRecord} {g : GoodResponse} (hg : o.response = some g) (sweep : Nat)
    (h : g.kind ≠ .reading ∨ slot.node.lastSequence = some g.sequence) :
    readingAfter table nodes db slot sweep o = slot.reading := by
  have hnot (hk : g.kind = .reading) : judgeSequence slot.node.lastSequence g.sequence = .repeated :=
    (judgeSequence_eq_repeated _ _).2 (h.resolve_left (not_not.2 hk))
  rw [readingAfter, hg]
  dsimp only
  split
  · next hk hj => cases (hnot hk).symm.trans hj
  · next hk hj => cases (hnot hk).symm.trans hj
  · rfl

theorem readingAfter_converted {table : List SpeciesGroup} {nodes : NodeTables} {db : Option Nat}
    {slot : ProbeRecord} {o : OutcomeRecord} {g : GoodResponse} (hg : o.response = some g) (sweep : Nat)
    (hk : g.kind = .reading) {gap : Bool}
    (h : judgeSequence slot.node.lastSequence g.sequence = if gap then .gap else .normal) :
    readingAfter table nodes db slot sweep o =
      (convert table nodes db slot sweep gap g.payload).orElse fun _ => slot.reading := by
  rw [readingAfter, hg]
  dsimp only
  rw [hk, h]
  cases gap <;> rfl

theorem judgeSequence_gap_or_normal {last received : Nat} (h : received ≠ last) :
    judgeSequence (some last) received =
      if decide (received ≠ (last + 1) % 16) then .gap else .normal := by
  simp only [judgeSequence]
  by_cases hn : received = (last + 1) % 16
  · simp [hn]
  · simp [hn, h]

/-- Settles O22: a lemma for each judgment, on the record as it has joined the outcome and learned of the GOOD. -/
theorem supervisionStates : Obligations.SupervisionStates := by
  intro n k q r g window good fails
  refine ⟨fun h => ?_, fun h => ?_, fun h hm => ?_, fun h hm hf => ?_, fun h hf => ?_, fun h hf => ?_,
    fun h hl hf => ?_, fun h hsame => ?_, fun p h hpol hne => ?_, fun h => ?_, fun hp => ?_,
    ⟨rfl, fun last => ⟨judgeSequence_normal_iff _ _, judgeSequence_repeated_iff _ _,
      judgeSequence_gap_iff _ _⟩⟩, ?_⟩
  · rw [take_good (pollable_of_state (.inl h)), judge_first_good q (by exact h)]; rfl
  · rw [take_failed (pollable_of_state h), judge_jabber q (by exact h)]; rfl
  · have hmisses : (n.join .miss).misses = 8 := by
      simp [NodeRecord.join, satSucc, Config.missLimit, hm]
    have hstate : n.state = .unseen ∨ n.state = .active ∨ n.state = .suspect ∨ n.state = .lost := by tauto
    rw [take_failed (pollable_of_state hstate), judge_last_miss q (by exact h) hmisses, judged,
      ← hmisses]
    rfl
  · have hmisses : (n.join .miss).misses = n.misses + 1 := by
      simp only [NodeRecord.join, satSucc, Config.missLimit, if_true]; omega
    rw [take_failed (pollable_of_state (.inr (.inl h))),
      judge_active_failing q (by exact h) (by simp) (by omega) (by exact hf), judged, ← hmisses]
    rfl
  · rw [take_failed (pollable_of_state (.inr (.inl h))),
      judge_active_failing q (by exact h) (by simp) (by simp) (by exact hf)]
    rfl
  · rw [take_failed (pollable_of_state (.inr (.inl h))),
      judge_active_stays q (by exact h) (by simp) (by simp) (by exact hf)]
    rfl
  · rw [take_good (pollable_of_state (.inr (.inr (.inl h)))),
      judge_suspect_recovers q (by exact h) (by exact hl) (by exact hf)]
    rfl
  · rw [take_good (pollable_of_state (.inr (.inr (.inr h)))), judge_lost_good q (by exact h),
      not_flips_of_same hsame]
    simp [judged, NodeRecord.join, NodeRecord.learn, hsame, window, Config.windowLength]
  · have hflips : n.flips g = true := (flips_iff n g).2 (by simp [hpol, hne])
    rw [take_good (pollable_of_state (.inr (.inr (.inr h)))), judge_lost_good q (by exact h), hflips]
    rfl
  · rw [take_failed (pollable_of_state (.inr (.inr (.inr h)))), judge_lost_bad q (by exact h)]; rfl
  · obtain ⟨hseq, hpol, hnot⟩ := judge_keeps q ((n.join .good).learn g) .good
    rw [take_good hp]
    refine ⟨hseq, hpol, ?_⟩
    rw [← flips_iff]
    simp only [judged, List.mem_append, Option.mem_toList, Option.map_eq_some_iff]
    constructor
    · rintro (⟨e, he, heq⟩ | h)
      · cases heq; exact absurd he hnot
      · by_contra hf; simp [hf] at h
    · intro hf; simp [hf]
  · intro table nodes db slot sweep hslot after converted
    subst hslot
    refine ⟨readingAfter_kept rfl sweep, fun hk hnone => ?_, fun last hk hlast hne => ?_⟩
    · exact readingAfter_converted rfl sweep hk (by rw [hnone]; rfl)
    · exact readingAfter_converted rfl sweep hk (by rw [hlast]; exact judgeSequence_gap_or_normal hne)

end Sys2Proof.Machine.Supervision
end

section
/-! A READ outcome of a probe or an air point (R37, R45 to R49, R54). -/

namespace Sys2Proof.Machine.OutcomeDelivery

open Sys2Proof.Machine.LineSurvey Sys2Proof.Machine.Supervision

/-! ## What the owner makes of it, whatever the Monitor did before -/

/-- A conversion reads the air points alone of the Node Tables. -/
theorem readingAfter_congr {t u : NodeTables} (h : u.airs = t.airs) (table : List SpeciesGroup)
    (db : Option Nat) (p : ProbeRecord) (sweep : Nat) (o : OutcomeRecord) :
    readingAfter table u db p sweep o = readingAfter table t db p sweep o := by
  simp only [readingAfter, convert, NodeTables.zoneDb, h]

theorem takeProbe_monitored (o : OutcomeRecord) (s : State) (i : Nat) (p : ProbeRecord) :
    takeProbe (monitored o s) i p o = takeProbe s i p o := by
  have hairs : (monitored o s).nodes.airs = s.nodes.airs := by rw [monitored_nodes]
  simp only [takeProbe, monitored_lineParams, monitored_calibration, monitored_schedule, monitored_line,
    readingAfter_congr hairs]

theorem takeAir_monitored (o : OutcomeRecord) (s : State) (i : Nat) (a : AirRecord) :
    takeAir (monitored o s) i a o = takeAir s i a o := by
  simp only [takeAir, monitored_lineParams]

theorem ownerTook_probe_dropped {o : OutcomeRecord} {i : Nat} {s : State}
    (ho : o.request.owner = .probe i) (hd : s.nodes.dropMark = true) :
    (ownerTook o s).nodes = (monitored o s).nodes := by
  have hm : (monitored o s).nodes.dropMark = true := by rw [monitored_nodes]; exact hd
  rw [ownerTook, passThrough_nodes, deliverToOwner, ho]
  simp only [ownerProbe, hm, if_true]

theorem ownerTook_probe {o : OutcomeRecord} {i : Nat} {s : State} {p : ProbeRecord}
    (ho : o.request.owner = .probe i) (hp : s.nodes.probes[i]? = some p) (hd : s.nodes.dropMark = false) :
    (ownerTook o s).nodes =
        { (monitored o s).nodes with probes := s.nodes.probes.set i (takeProbe s i p o).1 } ∧
      (deliverToOwner o (monitored o s)).events =
        (takeProbe s i p o).2.foldl EventUnit.latch (monitored o s).events := by
  have hm : (monitored o s).nodes.dropMark = false := by rw [monitored_nodes]; exact hd
  have hprobes : (monitored o s).nodes.probes = s.nodes.probes := by rw [monitored_nodes]
  rw [ownerTook, passThrough_nodes, deliverToOwner, ho]
  simp only [ownerProbe, hm, hprobes, hp, takeProbe_monitored, Bool.false_eq_true, if_false,
    raiseAll_nodes, raiseAll_events, and_self]

theorem ownerTook_air_dropped {o : OutcomeRecord} {i : Nat} {s : State}
    (ho : o.request.owner = .air i) (hd : s.nodes.dropMark = true) :
    (ownerTook o s).nodes = (monitored o s).nodes := by
  have hm : (monitored o s).nodes.dropMark = true := by rw [monitored_nodes]; exact hd
  rw [ownerTook, passThrough_nodes, deliverToOwner, ho]
  simp only [ownerAir, hm, if_true]

theorem ownerTook_air {o : OutcomeRecord} {i : Nat} {s : State} {a : AirRecord}
    (ho : o.request.owner = .air i) (ha : s.nodes.airs[i]? = some a) (hd : s.nodes.dropMark = false) :
    (ownerTook o s).nodes =
        { (monitored o s).nodes with airs := s.nodes.airs.set i (takeAir s i a o).1 } ∧
      (deliverToOwner o (monitored o s)).events =
        (takeAir s i a o).2.foldl EventUnit.latch (monitored o s).events := by
  have hm : (monitored o s).nodes.dropMark = false := by rw [monitored_nodes]; exact hd
  have hairs : (monitored o s).nodes.airs = s.nodes.airs := by rw [monitored_nodes]
  rw [ownerTook, passThrough_nodes, deliverToOwner, ho]
  simp only [ownerAir, hm, hairs, ha, takeAir_monitored, Bool.false_eq_true, if_false,
    raiseAll_nodes, raiseAll_events, and_self]

/-- The supervision's events are latched as the owner takes the outcome. -/
theorem ownerTook_latched {o : OutcomeRecord} {s : State} {n : NodeRecord} {k q : Nat} {rs : List Raise}
    (hrs : rs = (n.take k q o).2) (hlen : s.events.flags.length = 25)
    (hevents : (deliverToOwner o (monitored o s)).events = rs.foldl EventUnit.latch (monitored o s).events)
    {e : Raise} (he : e ∈ (n.take k q o).2) : (ownerTook o s).events.latched e.1.number = true := by
  obtain ⟨hlow, hhigh⟩ := take_event_number he
  rw [latched_congr (ownerTook_flags o s (by omega)), hevents]
  refine foldl_latch_mem _ _ e (hrs ▸ he) ?_
  rw [monitored_flags_length, hlen]
  omega

/-! ## The temperature of an air point (R49) -/

theorem airTemperature_iff (payload : List Byte) (t : Int) :
    airTemperature payload = some t ↔
      (3 ≤ payload.length ∧ (byteAt payload 2).getLsbD 0 = false ∧
        -400 ≤ fieldSigned payload 0 ∧ fieldSigned payload 0 ≤ 1500) ∧ fieldSigned payload 0 = t := by
  unfold airTemperature
  by_cases hlen : payload.length < 3
  · simp [hlen]
  · by_cases hfault : (byteAt payload 2).getLsbD 0 = true
    · simp [hlen, hfault]
    · by_cases hrange : -400 ≤ fieldSigned payload 0 ∧ fieldSigned payload 0 ≤ 1500
      · simp [hlen, hrange, Nat.not_lt.1 hlen]
      · simp [hlen, hrange]

theorem temperatureBrought_iff {a : AirRecord} {o : OutcomeRecord} {g : GoodResponse}
    (hg : o.response = some g) (t : Int) :
    temperatureBrought a o = some t ↔
      g.kind = .reading ∧ a.node.lastSequence ≠ some g.sequence ∧ airTemperature g.payload = some t := by
  rw [temperatureBrought, hg]
  dsimp only
  split
  · next hk hj => simp [(judgeSequence_eq_repeated _ _).1 hj]
  · next hk hj =>
    have hne : a.node.lastSequence ≠ some g.sequence := mt (judgeSequence_eq_repeated _ _).2 hj
    simp only [hk, hne, ne_eq, not_false_eq_true, true_and]
  · next hk _ => simp only [reduceCtorEq, false_iff]; exact fun h => hk h.1

theorem takeAir_of_brought {s : State} {i : Nat} {a : AirRecord} {o : OutcomeRecord} {t : Int}
    (hp : a.node.pollable = true) (h : temperatureBrought a o = some t) :
    (takeAir s i a o).1 =
      { a with node := (a.node.take (i + 64) s.lineParams.quarantine o).1, lastTemp := some t, cycles := 0 } := by
  rw [takeAir, if_pos hp, h]

theorem takeAir_of_none {s : State} {i : Nat} {a : AirRecord} {o : OutcomeRecord}
    (h : temperatureBrought a o = none) :
    (takeAir s i a o).1 = { a with node := (a.node.take (i + 64) s.lineParams.quarantine o).1 } := by
  rw [takeAir, h, ite_self]

theorem takeAir_raises (s : State) (i : Nat) (a : AirRecord) (o : OutcomeRecord) :
    (takeAir s i a o).2 = (a.node.take (i + 64) s.lineParams.quarantine o).2 := by
  unfold takeAir
  dsimp only
  split <;> rfl

/-! ## The polarity search (R37) -/

theorem after_eq (q : Search) (o : LineOutcome) :
    q.after o =
      match o with
      | .miss =>
        if q.tally = 0 then { polarity := q.polarity, tally := 1 }
        else { polarity := if q.polarity = .normal then .reversed else .normal, tally := 0 }
      | .bad | .jabber => { polarity := q.polarity, tally := 0 }
      | .good => { polarity := .normal, tally := 0 } := by
  cases o with
  | miss =>
    simp only [Search.after]
    cases q.polarity <;> rfl
  | _ => rfl

/-- The search state of a record of polarity `known` after an outcome. -/
def searchedBy (drop : Bool) (known : Option Polarity) (o : LineOutcome) (q : Search) : Search :=
  if drop = false ∧ known = none then q.after o else q

theorem searchProbe_eq {t : NodeTables} {i : Nat} {p : ProbeRecord} (hp : t.probes[i]? = some p)
    (o : LineOutcome) (l : Arbiter) :
    searchProbe t i o l =
      { l with probeSearch := l.probeSearch.modify i (searchedBy t.dropMark p.node.polarity o) } := by
  unfold searchProbe searchedBy
  rw [hp]
  dsimp only
  split
  · rfl
  · rw [show (fun q : Search => q) = id from rfl, List.modify_id]

theorem searchAir_eq {t : NodeTables} {i : Nat} {a : AirRecord} (ha : t.airs[i]? = some a)
    (o : LineOutcome) (l : Arbiter) :
    searchAir t i o l =
      { l with airSearch := l.airSearch.modify i (searchedBy t.dropMark a.node.polarity o) } := by
  unfold searchAir searchedBy
  rw [ha]
  dsimp only
  split
  · rfl
  · rw [show (fun q : Search => q) = id from rfl, List.modify_id]

theorem searchedBy_eq (drop : Bool) (known : Option Polarity) (o : LineOutcome) (q : Search) :
    searchedBy drop known o q =
      if drop = false ∧ known = none then
        match o with
        | .miss =>
          if q.tally = 0 then { polarity := q.polarity, tally := 1 }
          else { polarity := if q.polarity = .normal then .reversed else .normal, tally := 0 }
        | .bad | .jabber => { polarity := q.polarity, tally := 0 }
        | .good => { polarity := .normal, tally := 0 }
      else q := if_congr Iff.rfl (after_eq q o) rfl

/-! ## The delivery -/

theorem deliver_probe_airs {o : OutcomeRecord} {i : Nat} (s : State) (ho : o.request.owner = .probe i) :
    (deliver o s).nodes.airs = s.nodes.airs := by
  have howner : (deliverToOwner o (monitored o s)).nodes.airs = (monitored o s).nodes.airs := by
    rw [deliverToOwner, ho]
    simp only [ownerProbe]
    (repeat' split) <;> simp
  rw [(deliver_probe_swept s ho).nodes]
  show (ownerTook o s).nodes.airs = _
  rw [ownerTook, passThrough_nodes, howner, monitored_nodes]

/-- What the delivery leaves of a record of the probe table, the age of its reading left out. -/
theorem deliver_probe_record {o : OutcomeRecord} {i : Nat} {s : State} {p : ProbeRecord}
    (ho : o.request.owner = .probe i) (hp : s.nodes.probes[i]? = some p) (hd : s.nodes.dropMark = false)
    {α : Type} (f : ProbeRecord → α) (hf : ∀ p, f (ageless p) = f p) :
    ((deliver o s).nodes.probes[i]?).map f = some (f (takeProbe s i p o).1) := by
  have hi : i < s.nodes.probes.length := (List.getElem?_eq_some_iff.1 hp).1
  rw [(deliver_probe_swept s ho).record f hf]
  show ((ownerTook o s).nodes.probes[i]?).map f = _
  rw [(ownerTook_probe ho hp hd).1, List.getElem?_set_self hi, Option.map_some]

theorem deliver_probe_search {o : OutcomeRecord} {i : Nat} {s : State} {p : ProbeRecord}
    (ho : o.request.owner = .probe i) (hp : s.nodes.probes[i]? = some p) :
    (deliver o s).line.probeSearch =
        s.line.probeSearch.modify i (searchedBy s.nodes.dropMark p.node.polarity o.outcome) ∧
      (deliver o s).line.airSearch = s.line.airSearch := by
  rw [(deliver_probe_swept s ho).line, searchProbe_eq hp]
  exact ⟨rfl, rfl⟩

theorem deliver_air_search {o : OutcomeRecord} {i : Nat} {s : State} {a : AirRecord}
    (ho : o.request.owner = .air i) (ha : s.nodes.airs[i]? = some a) :
    (deliver o s).line.airSearch =
        s.line.airSearch.modify i (searchedBy s.nodes.dropMark a.node.polarity o.outcome) ∧
      (deliver o s).line.probeSearch = s.line.probeSearch := by
  rw [deliver_air s ho, searchAir_eq ha]
  exact ⟨rfl, rfl⟩

/-- One search moves, and the others stay. -/
theorem searches_of_modify {l m : List Search} {i : Nat} {drop : Bool} {known : Option Polarity}
    {o : LineOutcome} (h : m = l.modify i (searchedBy drop known o)) :
    m[i]? = (l[i]?).map (searchedBy drop known o) ∧ ∀ j, j ≠ i → m[j]? = l[j]? := by
  rw [h]
  exact ⟨List.getElem?_modify_eq .., fun j hj => List.getElem?_modify_ne _ _ (Ne.symm hj)⟩

/-- Settles O21: the owner's step of each table, then the search; a sweep completion ages readings alone. -/
theorem probeOutcomeApplied : Obligations.ProbeOutcomeApplied := by
  refine ⟨fun o s i p ho hp => ?_, fun o s i a ho ha => ?_, fun o s => ⟨fun i p ho hp => ?_, fun i a ho ha => ?_⟩⟩
  · have hswept := deliver_probe_swept s ho
    refine ⟨fun hd => ?_, fun hd => ?_, fun hd hpoll => ?_, fun hd hlen e he => ?_, fun j hj => ?_, ?_⟩
    · rw [hswept.record ProbeRecord.node fun _ => rfl]
      show ((ownerTook o s).nodes.probes[i]?).map _ = _
      rw [ownerTook_probe_dropped ho hd, monitored_nodes]
      exact congrArg (Option.map _) hp
    · rw [deliver_probe_record ho hp hd _ fun _ => rfl]
      rfl
    · rw [deliver_probe_record ho hp hd _ fun p => by simp [ageless, Function.comp_def], takeProbe,
        if_pos hpoll]
    · obtain ⟨hlow, hhigh⟩ := take_event_number he
      rw [latched_congr (hswept.flags _ (by omega) (by omega) (by omega) (by omega))]
      exact ownerTook_latched rfl hlen (ownerTook_probe ho hp hd).2 he
    · rw [hswept.record ProbeRecord.node fun _ => rfl]
      show ((ownerTook o s).nodes.probes[j]?).map _ = _
      cases hd : s.nodes.dropMark with
      | true => rw [ownerTook_probe_dropped ho hd, monitored_nodes]
      | false => rw [(ownerTook_probe ho hp hd).1, List.getElem?_set_ne (Ne.symm hj)]
    · rw [deliver_probe_airs s ho]
  · have hi : i < s.nodes.airs.length := (List.getElem?_eq_some_iff.1 ha).1
    have happlied (hd : s.nodes.dropMark = false) :
        (deliver o s).nodes.airs = s.nodes.airs.set i (takeAir s i a o).1 := by
      rw [deliver_air s ho]
      exact congrArg NodeTables.airs (ownerTook_air ho ha hd).1
    intro t taken
    refine ⟨fun hd => ?_, fun hd hnone => ?_, fun g hd hpoll hg => ?_, fun hd hlen e he => ?_, ?_⟩
    · show (deliver o s).nodes.airs = _
      rw [deliver_air s ho]
      show (ownerTook o s).nodes.airs = _
      rw [ownerTook_air_dropped ho hd, monitored_nodes]
    · exact (happlied hd).trans (congrArg _ (takeAir_of_none (by rw [temperatureBrought, hnone])))
    · intro degrees brings
      have hbrings : brings ↔ temperatureBrought a o = some degrees := by
        rw [temperatureBrought_iff hg, airTemperature_iff]
        simp only [brings, degrees, and_true]
      refine ⟨fun hb => (happlied hd).trans (congrArg _ (takeAir_of_brought hpoll (hbrings.1 hb))),
        fun hb => (happlied hd).trans (congrArg _ (takeAir_of_none ?_))⟩
      refine Option.eq_none_iff_forall_ne_some.2 fun x hx => hb (hbrings.2 ?_)
      obtain ⟨_, _, htemp⟩ := (temperatureBrought_iff hg x).1 hx
      rw [hx, ← ((airTemperature_iff _ _).1 htemp).2]
    · show (deliver o s).events.latched _ = _
      rw [deliver_air s ho]
      exact ownerTook_latched (takeAir_raises s i a o) hlen (ownerTook_air ho ha hd).2 he
    · show (deliver o s).nodes.probes = _
      rw [deliver_air s ho]
      show (ownerTook o s).nodes.probes = _
      cases hd : s.nodes.dropMark with
      | true => rw [ownerTook_air_dropped ho hd, monitored_nodes]
      | false => rw [(ownerTook_air ho ha hd).1, monitored_nodes]
  · obtain ⟨hprobe, hair⟩ := deliver_probe_search ho hp
    obtain ⟨hself, hothers⟩ := searches_of_modify hprobe
    exact ⟨hself.trans (congrArg (Option.map · _) (funext fun q => searchedBy_eq _ _ _ q)), hothers, hair⟩
  · obtain ⟨hair, hprobe⟩ := deliver_air_search ho ha
    obtain ⟨hself, hothers⟩ := searches_of_modify hair
    exact ⟨hself.trans (congrArg (Option.map · _) (funext fun q => searchedBy_eq _ _ _ q)), hothers, hprobe⟩

end Sys2Proof.Machine.OutcomeDelivery
end

section
/-! Writes to the tables (R40 to R45, R167, R168): how a write is taken apart, and what one record does. -/

namespace Sys2Proof.Machine.TableWrites

open Sys2Proof.Machine.ProbeReception

/-! ## The rows of TABLE WRITE (R168) -/

theorem exec_tableWrite {s : State} {src tag : Byte} {args : List Byte}
    (h : s.carries (namedCommand src 1#8 tag args)) :
    exec (.tableWrite src tag args) s = .next (finish src 1#8 tag (tableWrite args s)) :=
  congrArg Host.Outcome.next (namedRow_of_carries h (tableWrite args))

/-- A row of TABLE WRITE with the table code set apart answers with that table's write. -/
theorem next_of_carries {s : State} {src tag table : Byte} {args : List Byte}
    (h : s.carries (namedCommand src 1#8 tag (table :: args))) (write : List Byte → State → Answer) :
    Host.Outcome.next (namedRow src 1#8 tag (table :: args) (write args) s) =
      (Host.Outcome.next (finish src 1#8 tag (write args s)) : Host.Outcome State Fault Refusal) :=
  congrArg Host.Outcome.next (namedRow_of_carries h (write args))

theorem exec_tableWriteSchedule {s : State} {src tag : Byte} {args : List Byte}
    (h : s.carries (namedCommand src 1#8 tag (4#8 :: args))) :
    exec (.tableWriteSchedule src tag args) s = .next (finish src 1#8 tag (scheduleWrite args s)) :=
  next_of_carries h scheduleWrite

theorem tableWrite_of_table {table : Byte} {write : List Byte → State → Answer}
    (h : tableWriteOf table.toNat = some write) (args : List Byte) (s : State) :
    tableWrite (table :: args) s = write args s := by
  rw [tableWrite, h]

theorem tableWrite_of_no_table {table : Byte} (h : 9 ≤ table.toNat) (args : List Byte) (s : State) :
    tableWrite (table :: args) s = .refuse .badArgument s := by
  have hnone : tableWriteOf table.toNat = none := by
    unfold tableWriteOf
    split <;> simp_all
  rw [tableWrite, hnone]

/-- The row of TABLE WRITE and the row of its table are one. -/
theorem exec_tableWrite_of_table {s : State} {src tag table : Byte} {args : List Byte}
    {write : List Byte → State → Answer} (h : tableWriteOf table.toNat = some write)
    (hc : s.carries (namedCommand src 1#8 tag (table :: args))) :
    exec (.tableWrite src tag (table :: args)) s =
      .next (namedRow src 1#8 tag (table :: args) (write args) s) := by
  rw [exec_tableWrite hc, tableWrite_of_table h, namedRow_of_carries hc]

/-! ## The records of a write (R167, R168) -/

theorem byte_toNat_of_lt {n : Nat} (h : n < 256) : (byte n).toNat = n := by
  rw [byte, BitVec.toNat_ofNat, Nat.mod_eq_of_lt h]

theorem writtenRecords_of_records {entries size : Nat} {first : Byte} {records : List (List Byte)}
    (h1 : 1 ≤ records.length) (hl : first.toNat + records.length ≤ entries) (h256 : entries < 256)
    (hb : ∀ b ∈ records, b.length = size) :
    writtenRecords entries size (first :: byte records.length :: records.flatten) =
      some (indexed first.toNat records) := by
  have hcount : (byte records.length).toNat = records.length := byte_toNat_of_lt (by omega)
  rw [writtenRecords, hcount, if_neg (by omega), splitRecords_flatten size records hb]
  rfl

/-- A write of one record of the right size. -/
theorem writtenRecords_one {entries size : Nat} {i : Byte} {bytes : List Byte} (hi : i.toNat < entries)
    (h256 : entries < 256) (hb : bytes.length = size) :
    writtenRecords entries size ([i, 1#8] ++ bytes) = some [(i.toNat, bytes)] := by
  have h := writtenRecords_of_records (first := i) (records := [bytes]) (entries := entries)
    (Nat.le_refl 1) hi h256 (by simpa using hb)
  rwa [List.flatten_singleton] at h

theorem judgeAll_one {α β : Type} (parse : Nat → α → Option (β × Bool)) (i : Nat) (a : α) :
    judgeAll parse [(i, a)] = (parse i a).map fun v => ([(i, v.1)], v.2) := by
  rw [judgeAll, judgeAll]
  cases parse i a <;> simp

/-- The judgment of a write of one record is that of the record. -/
theorem judged_one {β : Type} {entries size : Nat} {i : Byte} {bytes : List Byte} (hi : i.toNat < entries)
    (h256 : entries < 256) (hb : bytes.length = size) (parse : Nat → List Byte → Option (β × Bool)) :
    (writtenRecords entries size ([i, 1#8] ++ bytes)).bind (judgeAll parse) =
      (parse i.toNat bytes).map fun v => ([(i.toNat, v.1)], v.2) := by
  rw [writtenRecords_one hi h256 hb]
  exact judgeAll_one parse _ _

theorem changedIndices_one {β : Type} (before : Nat → Option Nat) (after : β → Option Nat) (i : Nat) (v : β) :
    changedIndices before after [(i, v)] = if before i = after v then [] else [i] := by
  by_cases h : before i = after v <;> simp [changedIndices, h]

/-! ## Clamped fields (R167) -/

theorem clampField_fst (low high n : Nat) : (clampField low high n).1 = max low (min high n) := rfl

theorem clampField_snd {low high : Nat} (h : low ≤ high) (n : Nat) :
    (clampField low high n).2 = decide (n < low ∨ high < n) := by
  rw [clampField, clampNat, Bool.eq_iff_iff]
  simp only [bne_iff_ne, decide_eq_true_eq]
  omega

theorem parseAddress_of_le {a : Byte} (h : a.toNat ≤ 126) :
    parseAddress a = some (if a.toNat = 0 then none else some a.toNat) := by
  unfold parseAddress
  by_cases h0 : a.toNat = 0
  · simp [h0]
  · simp [h0, Config.lineAddresses, h]

theorem parseAddress_of_gt {a : Byte} (h : 126 < a.toNat) : parseAddress a = none := by
  exact (if_neg (by omega)).trans (if_neg (show ¬a.toNat ≤ 126 by omega))

theorem parseMark_of_le {y : Byte} (h : y.toNat ≤ 1) : parseMark y = some (decide (y.toNat = 1)) := by
  unfold parseMark
  rcases Nat.le_one_iff_eq_zero_or_eq_one.1 h with h | h <;> rw [h] <;> rfl

/-! ## PROBE (R40, R41, R45) -/

theorem parseProbe_eq {a g z y : Byte} (rest : List Byte) (ha : a.toNat ≤ 126) (hy : y.toNat ≤ 1) :
    parseProbe ([a, g, z, y] ++ rest) =
      some
        ({ address := if a.toNat = 0 then none else some a.toNat, group := min 7 g.toNat,
           zone := max 1 (min 4 z.toNat), incl := decide (y.toNat = 1) },
          decide (7 < g.toNat ∨ z.toNat < 1 ∨ 4 < z.toNat)) := by
  have hmatch : parseProbe ([a, g, z, y] ++ rest) =
      match parseAddress a, parseMark y with
      | some address, some incl =>
        some ({ address := address, group := (clampField 0 7 g.toNat).1,
                zone := (clampField 1 4 z.toNat).1, incl := incl },
          (clampField 0 7 g.toNat).2 || (clampField 1 4 z.toNat).2)
      | _, _ => none := rfl
  rw [hmatch, parseAddress_of_le ha, parseMark_of_le hy]
  simp only [clampField_fst, clampField_snd (Nat.zero_le 7), clampField_snd (show 1 ≤ 4 by decide),
    Nat.not_lt_zero, false_or, Nat.zero_max, Bool.decide_or]

theorem parseProbe_of_gt {a : Byte} (bytes : List Byte) (ha : 126 < a.toNat) :
    parseProbe (a :: bytes) = none := by
  rw [parseProbe, show byteAt (a :: bytes) 0 = a from rfl, parseAddress_of_gt ha]

section Probe

variable {s : State} {src tag i : Byte} {bytes : List Byte} (hi : i.toNat < Config.probeSlots) (hb : bytes.length = 35)

include hi hb

theorem probeWrite_of_fault (h : parseProbe bytes = none) :
    probeWrite ([i, 1#8] ++ bytes) s = .refuse .badArgument s := by
  rw [probeWrite, judged_one hi (by decide) hb, h]
  rfl

theorem probeWrite_of_config {c : ProbeConfig} {adjusted : Bool} {p : ProbeRecord}
    (h : parseProbe bytes = some (c, adjusted)) (hp : s.nodes.probes[i.toNat]? = some p) :
    probeWrite ([i, 1#8] ++ bytes) s =
      if uniqueAddresses
          (configuredRecords (s.nodes.probes.set i.toNat (p.write c)) s.nodes.airs s.outputs.entries)
      then .done adjusted (writeProbes [(i.toNat, c)] s)
      else .refuse .badArgument s := by
  have hwritten : s.probesWritten [(i.toNat, c)] = s.nodes.probes.set i.toNat (p.write c) := by
    rw [State.probesWritten, putAll_one, modify_of_getElem? _ hp]
  rw [probeWrite, judged_one hi (by decide) hb, h, ← hwritten]
  rfl

end Probe

theorem probeWritten_of_same {c : ProbeConfig} {p : ProbeRecord} (h : p.node.address = c.address) :
    p.write c = { p with group := c.group, zone := c.zone, incl := c.incl } := if_pos h

theorem probeWritten_of_other {c : ProbeConfig} {p : ProbeRecord} (h : p.node.address ≠ c.address) :
    p.write c =
      { node := .readdress c.address, group := c.group, zone := c.zone, incl := c.incl,
        reading := none } := if_neg h

theorem probeInFlight_nil (s : State) : s.probeInFlight [] = false := by
  unfold State.probeInFlight
  split <;> rfl

theorem probeInFlight_one (s : State) (i : Nat) :
    s.probeInFlight [i] = decide (s.plp.request.map Request.owner = some (.probe i)) := by
  unfold State.probeInFlight
  split
  · next j h => simp [h, eq_comm]
  · next h => exact (decide_eq_false fun hi => h i hi).symm

theorem writeProbes_of_same {s : State} {i : Nat} {c : ProbeConfig} {p : ProbeRecord}
    (hp : s.nodes.probes[i]? = some p) (h : p.node.address = c.address) :
    writeProbes [(i, c)] s = { s with nodes := { s.nodes with probes := s.nodes.probes.set i (p.write c) } } := by
  have haddress : s.probeAddress i = c.address := by rw [State.probeAddress, hp]; exact h
  simp only [writeProbes, changedIndices_one, haddress, if_true, probeInFlight_nil, Bool.or_false,
    State.probesWritten, putAll_one, modify_of_getElem? _ hp]
  rfl

theorem writeProbes_of_other {s : State} {i : Nat} {c : ProbeConfig} {p : ProbeRecord}
    (hp : s.nodes.probes[i]? = some p) (h : p.node.address ≠ c.address) :
    writeProbes [(i, c)] s =
      { s with
        nodes :=
          { s.nodes with
            probes := s.nodes.probes.set i (p.write c),
            dropMark :=
              s.nodes.dropMark || decide (s.plp.request.map Request.owner = some (.probe i)) },
        line := { s.line with probeSearch := s.line.probeSearch.set i .start } } := by
  have haddress : s.probeAddress i ≠ c.address := by rw [State.probeAddress, hp]; exact h
  simp only [writeProbes, changedIndices_one, haddress, if_false, probeInFlight_one,
    State.probesWritten, putAll_one, modify_of_getElem? _ hp]
  rfl

theorem readdress_of_byte (a : Byte) :
    NodeRecord.readdress (if a.toNat = 0 then none else some a.toNat) =
      { NodeRecord.blank with
        address := if a.toNat = 0 then none else some a.toNat,
        state := if a.toNat = 0 then .empty else .unseen } := by
  by_cases h : a.toNat = 0 <;> simp [NodeRecord.readdress, NodeRecord.fresh, h]

/-- Settles O46: the record judged, then the slot kept or cleared by its address. -/
theorem probeRecordWritten : Obligations.ProbeRecordWritten := by
  intro s src tag i a g z y rest p record hc hrest hp hi hy address adjusted kept fresh unique
  have hexec : exec (.tableWriteProbe src tag record) s =
      .next (finish src 1#8 tag (probeWrite ([i, 1#8] ++ ([a, g, z, y] ++ rest)) s)) :=
    next_of_carries hc probeWrite
  have hb : ([a, g, z, y] ++ rest).length = 35 := by simp [hrest]
  rw [hexec]
  refine ⟨fun ha hsame hu => ?_, fun ha hother hu => ?_, fun ha hother hu => ?_, fun ha => ?_⟩
  · rw [probeWrite_of_config hi hb (parseProbe_eq rest ha hy) hp, probeWritten_of_same (by exact hsame),
      if_pos (by exact hu), writeProbes_of_same hp (by exact hsame), probeWritten_of_same (by exact hsame)]
  · have hwritten := probeWritten_of_other (c := ⟨address, min 7 g.toNat, max 1 (min 4 z.toNat),
      decide (y.toNat = 1)⟩) hother
    rw [readdress_of_byte] at hwritten
    rw [probeWrite_of_config hi hb (parseProbe_eq rest ha hy) hp, writeProbes_of_other hp (by exact hother),
      hwritten, if_pos (by exact hu)]
    rfl
  · have hwritten := probeWritten_of_other (c := ⟨address, min 7 g.toNat, max 1 (min 4 z.toNat),
      decide (y.toNat = 1)⟩) hother
    rw [readdress_of_byte] at hwritten
    rw [probeWrite_of_config hi hb (parseProbe_eq rest ha hy) hp, hwritten,
      if_neg (by exact Bool.eq_false_iff.1 hu)]
  · rw [probeWrite_of_fault hi hb (parseProbe_of_gt _ ha)]

end Sys2Proof.Machine.TableWrites
end

section
/-! Writes of AIRPOINT records (R31, R41, R42, R44, R45). -/

namespace Sys2Proof.Machine.TableWrites

/-! ## The record judged (R42) -/

theorem parseAir_zoneDb {a r z : Byte} (rest : List Byte) (ha : a.toNat ≤ 126)
    (hr : roleOf r = some .zoneDb) :
    parseAir ([a, r, z] ++ rest) =
      if 1 ≤ z.toNat ∧ z.toNat ≤ 4 then
        some
          ({ address := if a.toNat = 0 then none else some a.toNat, role := .zoneDb,
             zone := some z.toNat }, false)
      else none := by
  rw [parseAir, show byteAt ([a, r, z] ++ rest) 0 = a from rfl,
    show byteAt ([a, r, z] ++ rest) 1 = r from rfl, parseAddress_of_le ha, hr]
  rfl

theorem parseAir_other {a r z : Byte} {role : AirRole} (rest : List Byte) (ha : a.toNat ≤ 126)
    (hr : roleOf r = some role) (hrole : role ≠ .zoneDb) :
    parseAir ([a, r, z] ++ rest) =
      some
        ({ address := if a.toNat = 0 then none else some a.toNat, role := role, zone := none }, false) := by
  rw [parseAir, show byteAt ([a, r, z] ++ rest) 0 = a from rfl,
    show byteAt ([a, r, z] ++ rest) 1 = r from rfl, parseAddress_of_le ha, hr]
  cases role with
  | zoneDb => exact absurd rfl hrole
  | wb | reference => rfl

/-- A record of a role with the zone that the role takes. -/
theorem parseAir_eq {a r z : Byte} {role : AirRole} (rest : List Byte) (ha : a.toNat ≤ 126)
    (hr : roleOf r = some role) (hz : role ≠ .zoneDb ∨ (1 ≤ z.toNat ∧ z.toNat ≤ 4)) :
    parseAir ([a, r, z] ++ rest) =
      some
        ({ address := if a.toNat = 0 then none else some a.toNat, role := role,
           zone := if role = .zoneDb then some z.toNat else none }, false) := by
  by_cases hrole : role = .zoneDb
  · subst hrole
    rw [parseAir_zoneDb rest ha hr, if_pos (hz.resolve_left (not_not.2 rfl)), if_pos rfl]
  · rw [parseAir_other rest ha hr hrole, if_neg hrole]

/-! ## The write -/

section Air

variable {s : State} {i : Byte} {bytes : List Byte} (hi : i.toNat < Config.airEntries)
  (hb : bytes.length = 20)

include hi hb

theorem airWrite_of_fault (h : parseAir bytes = none) :
    airWrite ([i, 1#8] ++ bytes) s = .refuse .badArgument s := by
  rw [airWrite, judged_one hi (by decide) hb, h]
  rfl

/-- The tables that a write of one record would leave are legal (R41, R42). -/
theorem airWrite_of_config {c : AirConfig} {adjusted : Bool} {p : AirRecord}
    (h : parseAir bytes = some (c, adjusted)) (hp : s.nodes.airs[i.toNat]? = some p) :
    airWrite ([i, 1#8] ++ bytes) s =
      if uniqueAddresses
            (configuredRecords s.nodes.probes (s.nodes.airs.set i.toNat (p.write c)) s.outputs.entries) &&
          allDistinct (zoneDbZones (s.nodes.airs.set i.toNat (p.write c)))
      then .done adjusted (writeAirs [(i.toNat, c)] s)
      else .refuse .badArgument s := by
  have hwritten : s.airsWritten [(i.toNat, c)] = s.nodes.airs.set i.toNat (p.write c) := by
    rw [State.airsWritten, putAll_one, modify_of_getElem? _ hp]
  rw [airWrite, judged_one hi (by decide) hb, h, ← hwritten]
  rfl

end Air

theorem airWritten_of_same {c : AirConfig} {p : AirRecord} (h : p.node.address = c.address) :
    p.write c = { p with role := c.role, zone := c.zone } := if_pos h

theorem airWritten_of_other {c : AirConfig} {p : AirRecord} (h : p.node.address ≠ c.address) :
    p.write c =
      { node := .readdress c.address, role := c.role, zone := c.zone, lastTemp := none,
        cycles := 255 } := if_neg h

theorem airInFlight_nil (s : State) : s.airInFlight [] = false := by
  unfold State.airInFlight
  split <;> rfl

theorem airInFlight_one (s : State) (i : Nat) :
    s.airInFlight [i] = decide (s.plp.request.map Request.owner = some (.air i)) := by
  unfold State.airInFlight
  split
  · next j h => simp [h, eq_comm]
  · next h => exact (decide_eq_false fun hi => h i hi).symm

/-- An EXPLICIT selection ends where an entry it names is written out of the WB points (R44). -/
theorem wbWritten_explicit (x y i : Nat) (c : AirConfig) :
    (WbSelection.explicit x y).written [(i, c)] =
      if (i = x ∨ i = y) ∧ (c.address = none ∨ c.role ≠ .wb) then .default else .explicit x y := by
  simp only [WbSelection.written, List.any_cons, List.any_nil, Bool.or_false, Bool.and_eq_true,
    Bool.or_eq_true, beq_iff_eq, AirConfig.leavesWb, Option.isNone_iff_eq_none, bne_iff_ne]

theorem writeAirs_of_same {s : State} {i : Nat} {c : AirConfig} {p : AirRecord}
    (hp : s.nodes.airs[i]? = some p) (h : p.node.address = c.address) :
    writeAirs [(i, c)] s =
      { s with
        nodes :=
          { s.nodes with
            airs := s.nodes.airs.set i (p.write c), wb := s.nodes.wb.written [(i, c)] } } := by
  have haddress : s.airAddress i = c.address := by rw [State.airAddress, hp]; exact h
  simp only [writeAirs, changedIndices_one, haddress, if_true, airInFlight_nil, Bool.or_false,
    State.airsWritten, putAll_one, modify_of_getElem? _ hp]
  rfl

theorem writeAirs_of_other {s : State} {i : Nat} {c : AirConfig} {p : AirRecord}
    (hp : s.nodes.airs[i]? = some p) (h : p.node.address ≠ c.address) :
    writeAirs [(i, c)] s =
      { s with
        nodes :=
          { s.nodes with
            airs := s.nodes.airs.set i (p.write c), wb := s.nodes.wb.written [(i, c)],
            dropMark := s.nodes.dropMark || decide (s.plp.request.map Request.owner = some (.air i)) },
        line :=
          { s.line with
            airSearch := s.line.airSearch.set i .start, pollDue := s.line.pollDue.set i false } } := by
  have haddress : s.airAddress i ≠ c.address := by rw [State.airAddress, hp]; exact h
  simp only [writeAirs, changedIndices_one, haddress, if_false, airInFlight_one,
    State.airsWritten, putAll_one, modify_of_getElem? _ hp]
  rfl

/-- Settles O47: the record judged by its role, then the entry kept or cleared by its address. -/
theorem airRecordWritten : Obligations.AirRecordWritten := by
  intro s src tag i a r z rest p role record hc hrest hp hi ha hr address zone kept fresh legal wb
  have hexec : exec (.tableWriteAirpoint src tag record) s =
      .next (finish src 1#8 tag (airWrite ([i, 1#8] ++ ([a, r, z] ++ rest)) s)) :=
    next_of_carries hc airWrite
  have hb : ([a, r, z] ++ rest).length = 20 := by simp [hrest]
  let c : AirConfig := { address := address, role := role, zone := zone }
  have hwb : s.nodes.wb.written [(i.toNat, c)] = wb := by
    have hnone : address = none ↔ a.toNat = 0 := by simp [address]
    cases hw : s.nodes.wb with
    | default => simp only [wb, hw]; rfl
    | explicit x y =>
      simp only [wb, hw]
      rw [wbWritten_explicit]
      exact if_congr (by simp only [c, hnone]) rfl rfl
  rw [hexec]
  refine ⟨fun hrole hz => ?_, fun hz => ⟨fun hsame hl => ?_, fun hother hl => ?_, fun hother hl => ?_⟩⟩
  · subst hrole
    rw [airWrite_of_fault hi hb]
    rw [parseAir_zoneDb rest ha hr, if_neg (by omega)]
  · have hwritten : p.write c = kept := airWritten_of_same hsame
    rw [airWrite_of_config hi hb (parseAir_eq rest ha hr hz) hp, hwritten,
      if_pos (Bool.and_eq_true_iff.2 hl), writeAirs_of_same hp (by exact hsame), hwb, hwritten]
    rfl
  · have hwritten : p.write c = fresh := by
      rw [airWritten_of_other (by exact hother), show c.address = address from rfl, readdress_of_byte]
    rw [airWrite_of_config hi hb (parseAir_eq rest ha hr hz) hp, hwritten,
      if_pos (Bool.and_eq_true_iff.2 hl), writeAirs_of_other hp (by exact hother), hwb, hwritten]
    rfl
  · have hwritten : p.write c = fresh := by
      rw [airWritten_of_other (by exact hother), show c.address = address from rfl, readdress_of_byte]
    rw [airWrite_of_config hi hb (parseAir_eq rest ha hr hz) hp, hwritten,
      if_neg (mt Bool.and_eq_true_iff.1 hl)]

end Sys2Proof.Machine.TableWrites
end

section
/-! Writes of parameters, step records, species groups and Pass-through entries (R4, R70, R97, R99, R126, R164), and
TABLE WRITE by table code (R168). -/

namespace Sys2Proof.Machine.TableWrites

/-! ## A two-byte parameter (R183) -/

theorem fromBytes_le16 {v : Nat} (h : v < 65536) :
    (byte (v % 256)).toNat + 256 * (byte (v / 256)).toNat = v := by
  rw [byte_toNat_of_lt (by omega), byte_toNat_of_lt (by omega)]
  omega

theorem paramValue_le16 {v : Nat} (h : v < 65536) : paramValue (le16 v) = v := fromBytes_le16 h

theorem clampField_eq (low high v : Nat) :
    clampField low high v =
      (max low (min high v), decide (v ≠ max low (min high v))) := by
  have h : (v != max low (min high v)) = decide (v ≠ max low (min high v)) := by
    rw [Bool.eq_iff_iff]
    simp only [bne_iff_ne, decide_eq_true_eq]
  exact Prod.ext rfl h

/-! ## LINE_PARAMS (R4, R24, R56) -/

section LineParam

variable {s : State} {i : Byte} {v : Nat} (hi : i.toNat < 10) (hv : v < 65536)

include hi hv

theorem lineParamsWrite_of_value {w : Nat} {adjusted : Bool} (h : parseLineParam i.toNat v = some (w, adjusted)) :
    lineParamsWrite ([i, 1#8] ++ le16 v) s = .done adjusted { s with lineParams := s.lineParams.set i.toNat w } := by
  have hjudge : judgeLineParam i.toNat (le16 v) = some (w, adjusted) := by
    rw [judgeLineParam, paramValue_le16 hv, h]
  rw [lineParamsWrite, judged_one hi (by decide) (CommandAnswers.le16_length v), hjudge]
  rfl

theorem lineParamsWrite_of_fault (h : parseLineParam i.toNat v = none) :
    lineParamsWrite ([i, 1#8] ++ le16 v) s = .refuse .badArgument s := by
  have hjudge : judgeLineParam i.toNat (le16 v) = none := by
    rw [judgeLineParam, paramValue_le16 hv, h]
  rw [lineParamsWrite, judged_one hi (by decide) (CommandAnswers.le16_length v), hjudge]
  rfl

end LineParam

theorem parseLineParam_numeric {i : Nat} (h : i < 9) (v : Nat) :
    parseLineParam i v =
      some (max (lineRange i).1 (min (lineRange i).2 v),
        decide (v ≠ max (lineRange i).1 (min (lineRange i).2 v))) := by
  rw [parseLineParam, if_neg (by omega), clampField_eq]

/-! ## CLIMATE_PARAMS (R126, R137) -/

theorem climateParamsWrite_of_value {s : State} {i : Byte} {v : Nat} (hi : i.toNat < 9) (hv : v < 65536) :
    climateParamsWrite ([i, 1#8] ++ le16 v) s =
      .done (decide (v ≠ climateClamp i.toNat v))
        { s with climate := s.climate.written [(i.toNat, climateClamp i.toNat v)] } := by
  have hjudge : judgeClimateParam i.toNat (le16 v) =
      some (climateClamp i.toNat v, decide (v ≠ climateClamp i.toNat v)) := by
    rw [judgeClimateParam, paramValue_le16 hv, Option.some.injEq, Prod.mk.injEq]
    refine ⟨rfl, ?_⟩
    rw [Bool.eq_iff_iff]
    simp only [bne_iff_ne, decide_eq_true_eq]
  rw [climateParamsWrite, judged_one hi (by decide) (CommandAnswers.le16_length v), hjudge]
  rfl

theorem reversal_set_seven (p : ClimateParams) (w : Nat) : (p.set 7 w).reversal = w := rfl

theorem running_iff (f : FanState) : f.running = true ↔ f = .forward ∨ f = .reverse := by
  cases f <;> decide

/-- A write of the reversal interval starts or stops the reversal timer with the fans running (R137). -/
theorem writeReversal_eq (c : Climate) (w : Nat) :
    c.writeReversal w =
      if c.fan = .forward ∨ c.fan = .reverse then
        (if w = 0 then none else some (c.reversalTimer.getD w))
      else c.reversalTimer := by
  unfold Climate.writeReversal
  refine if_congr (running_iff _) (if_congr Iff.rfl rfl ?_) rfl
  cases c.reversalTimer <;> rfl

theorem climateWritten_one (c : Climate) (i w : Nat) :
    c.written [(i, w)] =
      { c with
        params := c.params.set i w,
        reversalTimer :=
          if i = 7 ∧ (c.fan = .forward ∨ c.fan = .reverse) then
            (if w = 0 then none else some (c.reversalTimer.getD w))
          else c.reversalTimer } := by
  have htimer : (if writesReversal [(i, w)] then c.writeReversal (c.params.set i w).reversal
      else c.reversalTimer) =
        if i = 7 ∧ (c.fan = .forward ∨ c.fan = .reverse) then
          (if w = 0 then none else some (c.reversalTimer.getD w))
        else c.reversalTimer := by
    by_cases h : i = 7
    · subst h
      rw [if_pos (by rfl), reversal_set_seven, writeReversal_eq]
      exact if_congr (by simp only [true_and]) rfl rfl
    · rw [if_neg (by simp [writesReversal, h]), if_neg fun hn => h hn.1]
  exact congrArg (fun t => { c with params := c.params.set i w, reversalTimer := t }) htimer

/-! ## CHARGE_PARAMS (R84, R99) -/

theorem countInUse_one (e : Schedule) (i w : Nat) :
    countInUse e [(i, w)] = true ↔
      i = 3 ∧ e.charge.state.active = true ∧
        ¬(e.charge.step < w ∧ ∀ k, k < w → e.stepAt k ≠ none) := by
  rw [← ChargeStart.loadedBelow_iff]
  simp only [countInUse, List.any_cons, List.any_nil, Bool.or_false, Bool.and_eq_true, beq_iff_eq,
    Bool.not_eq_true', Bool.and_eq_false_iff, decide_eq_false_iff_not, not_and_or, Bool.not_eq_true]
  tauto

theorem chargeParamsWrite_of_value {s : State} {i : Byte} {v : Nat} (hi : i.toNat < 13) (hv : v < 65536) :
    chargeParamsWrite ([i, 1#8] ++ le16 v) s =
      if countInUse s.schedule
          [(i.toNat, max (chargeRange i.toNat).1 (min (chargeRange i.toNat).2 v))]
      then .refuse .refusedInUse s
      else
        .done (decide (v ≠ max (chargeRange i.toNat).1 (min (chargeRange i.toNat).2 v)))
          (writeChargeParams [(i.toNat, max (chargeRange i.toNat).1 (min (chargeRange i.toNat).2 v))] s) := by
  have hjudge : judgeChargeParam i.toNat (le16 v) =
      some (max (chargeRange i.toNat).1 (min (chargeRange i.toNat).2 v),
        decide (v ≠ max (chargeRange i.toNat).1 (min (chargeRange i.toNat).2 v))) := by
    rw [judgeChargeParam, paramValue_le16 hv, clampField_eq]
  rw [chargeParamsWrite, judged_one hi (by decide) (CommandAnswers.le16_length v), hjudge]
  rfl

/-! ## CALIBRATION, SCHEDULE and PASS_LIST, one record (R70, R97, R164) -/

section Records

variable {s : State} {i : Byte} {bytes : List Byte}

theorem calibrationWrite_of_group (hi : i.toNat < Config.speciesGroups) (hb : bytes.length = 50)
    {g : SpeciesGroup} {adjusted : Bool} (h : parseGroup bytes = some (g, adjusted)) :
    calibrationWrite ([i, 1#8] ++ bytes) s =
      .done adjusted { s with calibration := s.calibration.set i.toNat g } := by
  rw [calibrationWrite, judged_one hi (by decide) hb, h, ← modify_const]
  rfl

theorem calibrationWrite_of_fault (hi : i.toNat < Config.speciesGroups) (hb : bytes.length = 50)
    (h : parseGroup bytes = none) :
    calibrationWrite ([i, 1#8] ++ bytes) s = .refuse .badArgument s := by
  rw [calibrationWrite, judged_one hi (by decide) hb, h]
  rfl

theorem stepInUse_one (i : Nat) (r : StepRecord) :
    stepInUse s [(i, r)] = true ↔ s.schedule.charge.state.active = true ∧ i = s.schedule.charge.step := by
  rw [eq_comm (a := i)]
  simp [stepInUse]

theorem scheduleWrite_of_step (hi : i.toNat < Config.scheduleSteps) (hb : bytes.length = 15)
    {r : StepRecord} {adjusted : Bool} (h : parseStep bytes = some (r, adjusted)) :
    scheduleWrite ([i, 1#8] ++ bytes) s =
      if stepInUse s [(i.toNat, r)] then .refuse .refusedInUse s
      else
        .done adjusted
          { s with schedule := { s.schedule with steps := s.schedule.steps.set i.toNat (some r) } } := by
  rw [scheduleWrite, judged_one hi (by decide) hb, h, ← modify_const]
  rfl

theorem scheduleWrite_of_fault (hi : i.toNat < Config.scheduleSteps) (hb : bytes.length = 15)
    (h : parseStep bytes = none) : scheduleWrite ([i, 1#8] ++ bytes) s = .refuse .badArgument s := by
  rw [scheduleWrite, judged_one hi (by decide) hb, h]
  rfl

theorem passListWrite_of_entry (hi : i.toNat < Config.passEntries) (hb : bytes.length = 2)
    {e : Option (NodeKind × ResponseKind)} {adjusted : Bool} (h : parsePass bytes = some (e, adjusted)) :
    passListWrite ([i, 1#8] ++ bytes) s =
      .done adjusted { s with loop := { s.loop with passList := s.loop.passList.set i.toNat e } } := by
  rw [passListWrite, judged_one hi (by decide) hb, h, ← modify_const]
  rfl

theorem passListWrite_of_fault (hi : i.toNat < Config.passEntries) (hb : bytes.length = 2)
    (h : parsePass bytes = none) : passListWrite ([i, 1#8] ++ bytes) s = .refuse .badArgument s := by
  rw [passListWrite, judged_one hi (by decide) hb, h]
  rfl

end Records

/-! ## A Pass-through entry judged (R164, R180) -/

theorem nodeKindOf_absent : nodeKindOf 0xFF#8 = none := rfl

theorem parsePass_of_kinds {k r : Byte} {kind : NodeKind} {response : ResponseKind}
    (hk : nodeKindOf k = some kind) (hr : responseOf r = some response) :
    parsePass [k, r] = some (some (kind, response), false) := by
  have hne : ¬(k = 0xFF#8 ∧ r = 0xFF#8) := by
    rintro ⟨rfl, _⟩
    rw [nodeKindOf_absent] at hk
    cases hk
  rw [parsePass, show byteAt [k, r] 0 = k from rfl, show byteAt [k, r] 1 = r from rfl, if_neg hne, hk, hr]

theorem nodeKindOf_of_gt {k : Byte} (h : 2 < k.toNat) : nodeKindOf k = none := by
  unfold nodeKindOf
  split <;> simp_all

theorem responseOf_of_gt {r : Byte} (h : 3 < r.toNat) : responseOf r = none := by
  unfold responseOf
  split <;> simp_all

theorem parsePass_of_fault {k r : Byte} (hne : ¬(k = 0xFF#8 ∧ r = 0xFF#8))
    (h : 2 < k.toNat ∨ 3 < r.toNat) : parsePass [k, r] = none := by
  rw [parsePass, show byteAt [k, r] 0 = k from rfl, show byteAt [k, r] 1 = r from rfl, if_neg hne]
  rcases h with h | h
  · rw [nodeKindOf_of_gt h]
  · rw [responseOf_of_gt h]
    cases nodeKindOf k <;> rfl

/-! ## Several records of one table (R97, R164, R167) -/

theorem scheduleWrite_of_records {s : State} {first : Byte} {records : List (List Byte)}
    (h1 : 1 ≤ records.length) (hl : first.toNat + records.length ≤ 24) (hb : ∀ b ∈ records, b.length = 15) :
    scheduleWrite (first :: byte records.length :: records.flatten) s =
      match judgeAll (fun _ b => parseStep b) (indexed first.toNat records) with
      | none => .refuse .badArgument s
      | some (values, adjusted) =>
        if stepInUse s values then .refuse .refusedInUse s else .done adjusted (writeSteps values s) := by
  rw [scheduleWrite, writtenRecords_of_records (entries := Config.scheduleSteps) h1 hl (by decide) hb]
  rfl

/-- No current step of an active charge among records that stand in a row. -/
theorem not_stepInUse_of_range {s : State} {values : List (Nat × StepRecord)} {first n : Nat}
    (hv : values.map Prod.fst = List.range' first n)
    (h : s.schedule.charge.state.active = false ∨ s.schedule.charge.step < first ∨
      first + n ≤ s.schedule.charge.step) : stepInUse s values = false := by
  rw [stepInUse, hv]
  rcases h with h | h
  · rw [h, Bool.false_and]
  · rw [Bool.and_eq_false_iff]
    refine .inr (Bool.eq_false_iff.2 fun hc => ?_)
    have hmem := List.mem_range'_1.1 (List.contains_iff_mem.1 hc)
    omega

/-- A write of several step records puts each in its place and touches no other. -/
theorem scheduleWrite_puts {s : State} {first : Byte} {records : List (List Byte)}
    (hsteps : s.schedule.steps.length = 24) (h1 : 1 ≤ records.length)
    (hl : first.toNat + records.length ≤ 24) (hb : ∀ b ∈ records, b.length = 15)
    (hk : s.schedule.charge.state.active = false ∨ s.schedule.charge.step < first.toNat ∨
      first.toNat + records.length ≤ s.schedule.charge.step)
    (hparse : ∀ b ∈ records, ∃ r, parseStep b = some (r, false)) :
    ∃ t, scheduleWrite (first :: byte records.length :: records.flatten) s = .ok t ∧
      { t with schedule := { t.schedule with steps := s.schedule.steps } } = s ∧
      (∀ j, j < first.toNat ∨ first.toNat + records.length ≤ j →
        t.schedule.steps[j]? = s.schedule.steps[j]?) ∧
      ∀ j b r, records[j]? = some b → parseStep b = some (r, false) →
        t.schedule.steps[first.toNat + j]? = some (some r) := by
  obtain ⟨values, hjudged, hindices, hplaces⟩ :=
    judgeAll_indexed_some (parse := parseStep) first.toNat hparse
  have hlength : values.length = records.length := by
    simpa using congrArg List.length hindices
  obtain ⟨hothers, hputs⟩ := putAll_range some values first.toNat (by rw [hindices, hlength])
    s.schedule.steps (by omega)
  refine ⟨writeSteps values s, ?_, rfl, fun j hj => hothers j (by omega), fun j b r hj hr => ?_⟩
  · rw [scheduleWrite_of_records h1 hl hb, hjudged]
    dsimp only
    rw [not_stepInUse_of_range hindices hk]
    rfl
  · exact hputs j r (hplaces j b r hj hr)

theorem scheduleWrite_of_faulty {s : State} {first : Byte} {records : List (List Byte)}
    (h1 : 1 ≤ records.length) (hl : first.toNat + records.length ≤ 24) (hb : ∀ b ∈ records, b.length = 15)
    (hfault : ∃ b ∈ records, parseStep b = none) :
    scheduleWrite (first :: byte records.length :: records.flatten) s = .refuse .badArgument s := by
  rw [scheduleWrite_of_records h1 hl hb, judgeAll_indexed_none first.toNat hfault]

/-- Two Pass-through entries in a row. -/
theorem passListWrite_two {s : State} {i k k' r r' : Byte} {e e' : Option (NodeKind × ResponseKind)}
    (hi : i.toNat + 2 ≤ Config.passEntries) (h : parsePass [k, r] = some (e, false))
    (h' : parsePass [k', r'] = some (e', false)) :
    passListWrite [i, 2#8, k, r, k', r'] s =
      .ok
        { s with
          loop :=
            { s.loop with passList := (s.loop.passList.set i.toNat e).set (i.toNat + 1) e' } } := by
  have hwritten := writtenRecords_of_records (size := 2) (first := i) (records := [[k, r], [k', r']])
    (entries := Config.passEntries) (by simp) hi (by decide) (by simp)
  have hargs : [i, 2#8, k, r, k', r'] = i :: byte [[k, r], [k', r']].length :: [[k, r], [k', r']].flatten := rfl
  have hjudged : judgeAll (fun _ b => parsePass b) (indexed i.toNat [[k, r], [k', r']]) =
      some ([(i.toNat, e), (i.toNat + 1, e')], false) := by
    simp only [indexed, judgeAll, h, h', Bool.or_false]
  rw [passListWrite, hargs, hwritten, Option.bind_some, hjudged, ← modify_const, ← modify_const]
  rfl

/-! ## A COMMAND of no kind (R167, R182) -/

theorem exec_unknownCommand {s : State} {src : Byte} {payload : List Byte}
    (h : s.carries { source := src, payload := payload }) :
    exec (.unknownCommand src payload) s = .next (carryOut { source := src, payload := payload } s) :=
  congrArg Host.Outcome.next (commandRow_of_carries h _)

theorem answerOf_of_ge {kind : Nat} (h : 20 ≤ kind) : answerOf kind = none := by
  unfold answerOf
  split <;> simp_all

theorem carryOut_of_no_kind {kind : Byte} (h : 20 ≤ kind.toNat) (src tag : Byte) (args : List Byte) (s : State) :
    carryOut { source := src, payload := kind :: tag :: args } s =
      finish src kind tag (.refuse .unknownCommand s) := by
  have hne : kind ≠ restartKind := fun hk => by rw [hk] at h; exact absurd h (by decide)
  simp only [carryOut, if_neg hne, answerOf_of_ge h]

/-- Settles O45: each code by its table, then writes of several records, and the payloads that name no command. -/
theorem writesGoToTheirTables : Obligations.WritesGoToTheirTables := by
  intro s src tag args
  refine ⟨exec_tableWrite_of_table rfl, exec_tableWrite_of_table rfl, exec_tableWrite_of_table rfl,
    exec_tableWrite_of_table rfl, exec_tableWrite_of_table rfl, exec_tableWrite_of_table rfl,
    exec_tableWrite_of_table rfl, exec_tableWrite_of_table rfl, exec_tableWrite_of_table rfl,
    fun i v hi hv hc => ?_, fun k k' r r' kind kind' response response' hk hk' hr hr' hc => ?_,
    fun k r kind response hk hr hc => ?_, fun table ht hc => ?_, ?_, fun kind hkind hc => ?_,
    fun kind hc => ?_, fun hc => ?_⟩
  · rw [exec_tableWrite hc]
    exact congrArg (fun a => Host.Outcome.next (finish src 1#8 tag a))
      (lineParamsWrite_of_value (Nat.lt_succ_of_lt hi) hv (parseLineParam_numeric hi v))
  · rw [exec_tableWrite hc]
    exact congrArg (fun a => Host.Outcome.next (finish src 1#8 tag a))
      (passListWrite_two (i := 3#8) (by decide) (parsePass_of_kinds hk hr) (parsePass_of_kinds hk' hr'))
  · rw [exec_tableWrite hc]
    exact congrArg (fun a => Host.Outcome.next (finish src 1#8 tag a))
      (passListWrite_of_entry (i := 0#8) (by decide) rfl (parsePass_of_kinds hk hr))
  · rw [exec_tableWrite hc, tableWrite_of_no_table ht]
  · intro first records write last k hc hsteps h1 hl hb hk
    have hrow : exec (.tableWrite src tag (4#8 :: write)) s = exec (.tableWriteSchedule src tag write) s :=
      exec_tableWrite_of_table rfl hc
    rw [hrow, exec_tableWriteSchedule hc]
    refine ⟨fun hparse => ?_, fun hfault => ?_⟩
    · obtain ⟨t, hwrite, hrest⟩ := scheduleWrite_puts hsteps h1 hl hb hk hparse
      have hfinish := congrArg (fun a => (.next (finish src 1#8 tag a) : Host.Outcome State Fault Refusal)) hwrite
      exact ⟨t, hfinish, hfinish, hrest⟩
    · exact congrArg (fun a => Host.Outcome.next (finish src 1#8 tag a))
        (scheduleWrite_of_faulty h1 hl hb hfault)
  · rw [exec_unknownCommand hc, carryOut_of_no_kind hkind]
  · rw [exec_unknownCommand hc]; rfl
  · rw [exec_unknownCommand hc]; rfl

end Sys2Proof.Machine.TableWrites
end

section
/-! How a CALIBRATION record and a step record are judged (R70, R97, R98, R183). -/

namespace Sys2Proof.Machine.TableWrites

/-! ## The breakpoint positions of a record (R183) -/

/-- The four bytes of a breakpoint position. -/
def positionBytes (p : Nat × Nat) : List Byte := le16 p.1 ++ le16 p.2

/-- The bytes of a CALIBRATION record. -/
def groupRecord (count slope : Byte) (positions : List (Nat × Nat)) : List Byte :=
  [count] ++ positions.flatMap positionBytes ++ [slope]

/-- An unused position carries no breakpoint. -/
def breakpointOf (p : Nat × Nat) : Option (Nat × Nat) :=
  if p = (65535, 65535) then none else some p

/-- The bytes of a position stand in its place. -/
theorem byteAt_flatMap_positions (positions : List (Nat × Nat)) (tail : List Byte) (i k : Nat) (hk : k < 4)
    {p : Nat × Nat} (hp : positions[i]? = some p) :
    byteAt (positions.flatMap positionBytes ++ tail) (4 * i + k) = byteAt (positionBytes p) k := by
  induction positions generalizing i with
  | nil => simp at hp
  | cons q positions ih =>
    rw [List.flatMap_cons, List.append_assoc]
    have hlen : (positionBytes q).length = 4 := rfl
    cases i with
    | zero =>
      cases hp
      simp only [byteAt, Nat.mul_zero, Nat.zero_add]
      exact List.getD_append _ _ _ _ (by omega)
    | succ i =>
      have hskip : byteAt (positionBytes q ++ (positions.flatMap positionBytes ++ tail)) (4 * (i + 1) + k) =
          byteAt (positions.flatMap positionBytes ++ tail) (4 * i + k) := by
        simp only [byteAt]
        rw [List.getD_append_right _ _ _ _ (by omega), hlen]
        congr 1
        omega
      rw [hskip]
      exact ih i hp

theorem field16_positions {count slope : Byte} {positions : List (Nat × Nat)} {i : Nat} {p : Nat × Nat}
    (hp : positions[i]? = some p) (hb : p.1 < 65536 ∧ p.2 < 65536) :
    field16 (groupRecord count slope positions) (1 + 4 * i) = p.1 ∧
      field16 (groupRecord count slope positions) (3 + 4 * i) = p.2 := by
  have hbyte (k : Nat) (hk : k < 4) :
      byteAt (groupRecord count slope positions) (4 * i + k + 1) = byteAt (positionBytes p) k :=
    byteAt_flatMap_positions positions [slope] i k hk hp
  rw [field16, field16, show 1 + 4 * i = 4 * i + 0 + 1 by omega, show 3 + 4 * i = 4 * i + 2 + 1 by omega,
    hbyte 0 (by decide), show 4 * i + 0 + 1 + 1 = 4 * i + 1 + 1 by omega, hbyte 1 (by decide),
    hbyte 2 (by decide), show 4 * i + 2 + 1 + 1 = 4 * i + 3 + 1 by omega, hbyte 3 (by decide)]
  exact ⟨fromBytes_le16 hb.1, fromBytes_le16 hb.2⟩

theorem breakpointPositions_eq {count slope : Byte} {positions : List (Nat × Nat)}
    (hlen : positions.length = 12) (hb : ∀ p ∈ positions, p.1 < 65536 ∧ p.2 < 65536) :
    breakpointPositions (groupRecord count slope positions) = positions.map breakpointOf := by
  refine List.ext_getElem (by simp [breakpointPositions, hlen]) fun i hi hi' => ?_
  have hi : i < positions.length := by simpa using hi'
  obtain ⟨hl, hm⟩ := field16_positions (count := count) (slope := slope)
    (List.getElem?_eq_getElem hi) (hb _ (List.getElem_mem hi))
  simp only [breakpointPositions, List.getElem_map, List.getElem_range, hl, hm, breakpointOf, Prod.ext_iff]

theorem groupRecord_slope {count slope : Byte} {positions : List (Nat × Nat)} (hlen : positions.length = 12) :
    byteAt (groupRecord count slope positions) 49 = slope := by
  have hflat : (positions.flatMap positionBytes).length = 48 := by
    rw [List.length_flatMap, show (fun p => (positionBytes p).length) = fun _ => 4 from rfl,
      List.map_const', List.sum_replicate, hlen]
    rfl
  simp only [groupRecord, byteAt]
  rw [List.getD_append_right _ _ _ _ (by simp [hflat])]
  simp [hflat]

/-! ## Gaps and order (R70) -/

theorem noGap_iff (l : List (Option (Nat × Nat))) :
    noGap l = true ↔ ∀ (i j : Nat) (x : Option (Nat × Nat)), i < j → l[i]? = some none → l[j]? = some x → x = none := by
  induction l with
  | nil => simp [noGap]
  | cons a l ih =>
    cases a with
    | some p =>
      rw [noGap, ih]
      constructor
      · intro h i j x hij hi hj
        cases i with
        | zero => cases hi
        | succ i =>
          obtain ⟨j, rfl⟩ : ∃ k, j = k + 1 := ⟨j - 1, by omega⟩
          exact h i j x (by omega) hi hj
      · exact fun h i j x hij hi hj => h (i + 1) (j + 1) x (by omega) hi hj
    | none =>
      rw [noGap, List.all_eq_true]
      constructor
      · intro h i j x hij hi hj
        obtain ⟨j, rfl⟩ : ∃ k, j = k + 1 := ⟨j - 1, by omega⟩
        exact Option.isNone_iff_eq_none.1 (h x (List.mem_of_getElem? hj))
      · intro h x hx
        obtain ⟨j, hj⟩ := List.mem_iff_getElem?.1 hx
        exact Option.isNone_iff_eq_none.2 (h 0 (j + 1) x (by omega) rfl hj)

theorem curveOrdered_iff (l : List (Nat × Nat)) :
    curveOrdered l = true ↔
      ∀ i a b, l[i]? = some a → l[i + 1]? = some b → a.1 < b.1 ∧ b.2 ≤ a.2 := by
  induction l with
  | nil => simp [curveOrdered]
  | cons p l ih =>
    cases l with
    | nil => simp [curveOrdered]
    | cons q rest =>
      simp only [curveOrdered, Bool.and_eq_true, decide_eq_true_eq, ih]
      constructor
      · rintro ⟨hpq, hrest⟩ i a b ha hb
        cases i with
        | zero => cases ha; cases hb; exact hpq
        | succ i => exact hrest i a b ha hb
      · exact fun h => ⟨h 0 p q rfl rfl, fun i a b ha hb => h (i + 1) a b ha hb⟩

/-! ## A CALIBRATION record judged (R70) -/

/-- The breakpoints that a record carries. -/
def carried (positions : List (Nat × Nat)) : List (Nat × Nat) :=
  positions.filter fun p => decide (p ≠ (65535, 65535))

theorem filterMap_breakpointOf (positions : List (Nat × Nat)) :
    (positions.map breakpointOf).filterMap id = carried positions := by
  rw [List.filterMap_map, carried, ← List.filterMap_eq_filter]
  refine List.filterMap_congr fun p _ => ?_
  by_cases h : p = (65535, 65535) <;> simp [breakpointOf, Option.guard, h]

theorem noGap_breakpoints (positions : List (Nat × Nat)) :
    noGap (positions.map breakpointOf) = false ↔
      ∃ (i j : Nat) (p : Nat × Nat),
        i < j ∧ positions[i]? = some (65535, 65535) ∧ positions[j]? = some p ∧ p ≠ (65535, 65535) := by
  have hnone (p : Nat × Nat) : breakpointOf p = none ↔ p = (65535, 65535) := by
    simp [breakpointOf]
  rw [← Bool.not_eq_true, noGap_iff]
  simp only [List.getElem?_map, Option.map_eq_some_iff, hnone]
  push Not
  constructor
  · rintro ⟨i, j, x, hij, ⟨p, hi, rfl⟩, ⟨q, hj, rfl⟩, hne⟩
    exact ⟨i, j, q, hij, hi, hj, mt (hnone q).2 hne⟩
  · rintro ⟨i, j, q, hij, hi, hj, hne⟩
    exact ⟨i, j, _, hij, ⟨_, hi, rfl⟩, ⟨q, hj, rfl⟩, mt (hnone q).1 hne⟩

/-- The faults of R70. -/
def GroupFault (count : Nat) (positions : List (Nat × Nat)) : Prop :=
  count = 1 ∨ 12 < count ∨ (carried positions).length ≠ count ∨
    (∃ (i j : Nat) (p : Nat × Nat),
      i < j ∧ positions[i]? = some (65535, 65535) ∧ positions[j]? = some p ∧ p ≠ (65535, 65535)) ∨
    (∃ p ∈ carried positions, p.1 < 1 ∨ 4094 < p.1 ∨ 999 < p.2) ∨
    (∃ (i : Nat) (a b : Nat × Nat),
      (carried positions)[i]? = some a ∧ (carried positions)[i + 1]? = some b ∧ (b.1 ≤ a.1 ∨ a.2 < b.2))

theorem outOfRange_iff (l : List (Nat × Nat)) :
    l.all (fun p => decide (1 ≤ p.1 ∧ p.1 ≤ 4094 ∧ p.2 ≤ 999)) = false ↔
      ∃ p ∈ l, p.1 < 1 ∨ 4094 < p.1 ∨ 999 < p.2 := by
  rw [List.all_eq_false]
  refine exists_congr fun p => and_congr_right fun _ => ?_
  rw [decide_eq_true_iff]
  omega

theorem not_curveOrdered_iff (l : List (Nat × Nat)) :
    curveOrdered l = false ↔
      ∃ (i : Nat) (a b : Nat × Nat), l[i]? = some a ∧ l[i + 1]? = some b ∧ (b.1 ≤ a.1 ∨ a.2 < b.2) := by
  rw [← Bool.not_eq_true, curveOrdered_iff]
  push Not
  refine exists_congr fun i => exists_congr fun a => exists_congr fun b => and_congr_right fun _ =>
    and_congr_right fun _ => ?_
  omega

theorem parseGroup_eq {count slope : Byte} {positions : List (Nat × Nat)} (hlen : positions.length = 12)
    (hb : ∀ p ∈ positions, p.1 < 65536 ∧ p.2 < 65536) :
    (GroupFault count.toNat positions → parseGroup (groupRecord count slope positions) = none) ∧
      (¬GroupFault count.toNat positions →
        parseGroup (groupRecord count slope positions) =
          some
            ({ points := carried positions, slope := min 15 slope.toNat }, decide (15 < slope.toNat))) := by
  have hcount : byteAt (groupRecord count slope positions) 0 = count := rfl
  rw [parseGroup, hcount, groupRecord_slope hlen, breakpointPositions_eq hlen hb,
    filterMap_breakpointOf]
  refine ⟨fun hfault => ?_, fun hfault => ?_⟩
  · rcases hfault with h | h | h | h | h | h
    · rw [if_pos (.inl h)]
    · rw [if_pos (.inr h)]
    · rw [if_pos h, ite_self]
    · rw [if_pos ((noGap_breakpoints positions).2 h), ite_self, ite_self]
    · rw [if_pos ((outOfRange_iff _).2 h), ite_self, ite_self, ite_self]
    · rw [if_pos ((not_curveOrdered_iff _).2 h), ite_self, ite_self, ite_self, ite_self]
  · simp only [GroupFault, not_or] at hfault
    obtain ⟨hone, hhigh, hnumber, hgap, hrange, horder⟩ := hfault
    rw [if_neg (not_or.2 ⟨hone, hhigh⟩), if_neg hnumber, if_neg (mt (noGap_breakpoints _).1 hgap),
      if_neg (mt (outOfRange_iff _).1 hrange), if_neg (mt (not_curveOrdered_iff _).1 horder), clampField_snd (Nat.zero_le 15), clampField_fst, Nat.zero_max]
    simp only [Nat.not_lt_zero, false_or]

/-! ## A step record judged (R97, R98) -/

theorem phaseOf_eq (b : Byte) :
    phaseOf b =
      if b.toNat ≤ 2 then
        some (if b.toNat = 0 then .dry else if b.toNat = 1 then .equalize else .condition)
      else none := by
  unfold phaseOf
  split <;> simp_all
  omega

theorem criterionOf_eq (b : Byte) :
    criterionOf b =
      if b.toNat ≤ 3 then
        some
          (if b.toNat = 0 then .ctrlBelow
            else if b.toNat = 1 then .wettestBelow
            else if b.toNat = 2 then .driestBelow
            else .dwell)
      else none := by
  unfold criterionOf
  split <;> simp_all
  omega

theorem overdueOf_eq (b : Byte) :
    overdueOf b = if b.toNat ≤ 1 then some (if b.toNat = 0 then .alarm else .advance) else none := by
  unfold overdueOf
  split <;> simp_all
  omega

/-- The phases and criteria of R98, by their codes. -/
def AllowedCodes (ph cr : Byte) : Prop :=
  (ph.toNat ≤ 2 ∧ cr.toNat = 3) ∨ (ph.toNat = 0 ∧ (cr.toNat = 0 ∨ cr.toNat = 2)) ∨
    (ph.toNat = 1 ∧ cr.toNat = 1)

/-- The phase of a code up to 2. -/
def phaseAt (n : Nat) : Phase := if n = 0 then .dry else if n = 1 then .equalize else .condition

/-- The criterion of a code up to 3. -/
def criterionAt (n : Nat) : Criterion :=
  if n = 0 then .ctrlBelow else if n = 1 then .wettestBelow else if n = 2 then .driestBelow else .dwell

theorem allows_codes : ∀ m, m ≤ 2 → ∀ n, n ≤ 3 →
    ((phaseAt m).allows (criterionAt n) = true ↔
      (m ≤ 2 ∧ n = 3) ∨ (m = 0 ∧ (n = 0 ∨ n = 2)) ∨ (m = 1 ∧ n = 1)) := by decide

theorem criterionAt_dwell {n : Nat} (h : n ≤ 3) : criterionAt n = .dwell ↔ n = 3 := by
  have hall : ∀ n, n ≤ 3 → (criterionAt n = .dwell ↔ n = 3) := by decide
  exact hall n h

/-- A step's value is clamped by its criterion (R97). -/
def valueField (c : Criterion) (v : Nat) : Nat × Bool :=
  if c = .dwell then clampField 1 9999 v else clampField 0 999 v

/-- The fields of a step record, as R183 lays them out. -/
def stepRecord (ph cr od limit trim : Byte) (v db dep least most : Nat) : List Byte :=
  [ph, cr] ++ le16 v ++ le16 db ++ le16 dep ++ le16 least ++ le16 most ++ [od, limit, trim]

section Step

variable {ph cr od limit trim : Byte} {v db dep least most : Nat}

/-- A step record of no allowed phase, criterion and overdue action is a fault. -/
theorem parseStep_fault (h : ¬AllowedCodes ph cr ∨ 1 < od.toNat) :
    parseStep (stepRecord ph cr od limit trim v db dep least most) = none := by
  have hph : byteAt (stepRecord ph cr od limit trim v db dep least most) 0 = ph := rfl
  have hcr : byteAt (stepRecord ph cr od limit trim v db dep least most) 1 = cr := rfl
  have hod : byteAt (stepRecord ph cr od limit trim v db dep least most) 12 = od := rfl
  rw [parseStep, hph, hcr, hod]
  split
  · next phase criterion overdue hphase hcriterion hoverdue =>
    refine if_neg fun hallows => ?_
    rw [phaseOf_eq, Option.ite_none_right_eq_some] at hphase
    rw [criterionOf_eq, Option.ite_none_right_eq_some] at hcriterion
    rw [overdueOf_eq, Option.ite_none_right_eq_some] at hoverdue
    obtain ⟨hple, hphase⟩ := hphase
    obtain ⟨hcle, hcriterion⟩ := hcriterion
    cases hphase
    cases hcriterion
    exact h.elim (fun hn => hn ((allows_codes _ hple _ hcle).1 hallows)) fun hn => absurd hoverdue.1 (by omega)
  · rfl

theorem parseStep_allowed (h : AllowedCodes ph cr) (ho : od.toNat ≤ 1) (hv : v < 65536) (hdb : db < 65536)
    (hdep : dep < 65536) (hleast : least < 65536) (hmost : most < 65536) :
    parseStep (stepRecord ph cr od limit trim v db dep least most) =
      some
        ({ phase := phaseAt ph.toNat, criterion := criterionAt cr.toNat,
           value := (valueField (criterionAt cr.toNat) v).1,
           dbTarget := (clampField 0 1200 db).1, depTarget := (clampField 0 400 dep).1,
           minDwell := (clampField 0 9999 least).1, maxDwell := (clampField 0 9999 most).1,
           overdue := if od.toNat = 0 then .alarm else .advance,
           rateLimit := (clampField 0 200 limit.toNat).1, rateTrim := (clampField 0 100 trim.toNat).1 },
          (valueField (criterionAt cr.toNat) v).2 || (clampField 0 1200 db).2 || (clampField 0 400 dep).2 ||
            (clampField 0 9999 least).2 || (clampField 0 9999 most).2 || (clampField 0 200 limit.toNat).2 ||
            (clampField 0 100 trim.toNat).2) := by
  have hple : ph.toNat ≤ 2 := by rcases h with h | h | h <;> omega
  have hcle : cr.toNat ≤ 3 := by rcases h with h | h | h <;> omega
  have hvalue (n : Nat) : (match criterionAt cr.toNat with
      | .dwell => clampField 1 9999 n
      | _ => clampField 0 999 n) = valueField (criterionAt cr.toNat) n := by
    cases criterionAt cr.toNat <;> rfl
  have hf2 : field16 (stepRecord ph cr od limit trim v db dep least most) 2 = v := fromBytes_le16 hv
  have hf4 : field16 (stepRecord ph cr od limit trim v db dep least most) 4 = db := fromBytes_le16 hdb
  have hf6 : field16 (stepRecord ph cr od limit trim v db dep least most) 6 = dep := fromBytes_le16 hdep
  have hf8 : field16 (stepRecord ph cr od limit trim v db dep least most) 8 = least := fromBytes_le16 hleast
  have hf10 : field16 (stepRecord ph cr od limit trim v db dep least most) 10 = most := fromBytes_le16 hmost
  have hph : phaseOf (byteAt (stepRecord ph cr od limit trim v db dep least most) 0) =
      some (phaseAt ph.toNat) := (phaseOf_eq ph).trans (if_pos hple)
  have hcr : criterionOf (byteAt (stepRecord ph cr od limit trim v db dep least most) 1) =
      some (criterionAt cr.toNat) := (criterionOf_eq cr).trans (if_pos hcle)
  have hod : overdueOf (byteAt (stepRecord ph cr od limit trim v db dep least most) 12) =
      some (if od.toNat = 0 then .alarm else .advance) := (overdueOf_eq od).trans (if_pos ho)
  rw [parseStep, hph, hcr, hod]
  dsimp only
  rw [if_pos ((allows_codes _ hple _ hcle).2 h), hf2, hf4, hf6, hf8, hf10, ← hvalue]
  rfl

end Step

end Sys2Proof.Machine.TableWrites
end

section
/-! The obligation about writes to the parameter tables and of single records (R4, R70, R97, R99, R126, R164). -/

namespace Sys2Proof.Machine.TableWrites

theorem autoSurvey_of_le {v : Nat} (h : v ≤ 1) : parseLineParam 9 v = some (v, false) := if_pos h

theorem autoSurvey_of_gt {v : Nat} (h : 1 < v) : parseLineParam 9 v = none := if_neg (Nat.not_le.2 h)

theorem set_autoSurvey (p : LineParams) {v : Nat} (h : v ≤ 1) :
    p.set 9 v = { p with autoSurvey := decide (v = 1) } := by
  rcases Nat.le_one_iff_eq_zero_or_eq_one.1 h with rfl | rfl <;> rfl

theorem writeChargeParams_one (s : State) (i w : Nat) :
    writeChargeParams [(i, w)] s =
      { s with
        schedule :=
          { s.schedule with
            params := s.schedule.params.set i w,
            charge :=
              { s.schedule.charge with
                confirmation := min (s.schedule.params.set i w).c s.schedule.charge.confirmation,
                blinds := min (s.schedule.params.set i w).b s.schedule.charge.blinds } } } := rfl

/-- The clamped fields of a step record lie outside their ranges where the statement says so. -/
theorem valueField_eq {n : Nat} (hn : n ≤ 3) (v : Nat) :
    valueField (criterionAt n) v =
      (max (if n = 3 then 1 else 0) (min (if n = 3 then 9999 else 999) v),
        decide (v < (if n = 3 then 1 else 0) ∨ (if n = 3 then 9999 else 999) < v)) := by
  unfold valueField
  by_cases h : n = 3
  · rw [if_pos ((criterionAt_dwell hn).2 h), if_pos h, if_pos h]
    exact Prod.ext rfl (clampField_snd (by decide) v)
  · rw [if_neg (mt (criterionAt_dwell hn).1 h), if_neg h, if_neg h]
    exact Prod.ext rfl (clampField_snd (Nat.zero_le 999) v)

theorem parseStep_table {ph cr od limit trim : Byte} {v db dep least most : Nat} (h : AllowedCodes ph cr)
    (ho : od.toNat ≤ 1) (hv : v < 65536) (hdb : db < 65536) (hdep : dep < 65536) (hleast : least < 65536)
    (hmost : most < 65536) :
    parseStep (stepRecord ph cr od limit trim v db dep least most) =
      some
        ({ phase := phaseAt ph.toNat, criterion := criterionAt cr.toNat,
           value := max (if cr.toNat = 3 then 1 else 0) (min (if cr.toNat = 3 then 9999 else 999) v),
           dbTarget := min 1200 db, depTarget := min 400 dep, minDwell := min 9999 least,
           maxDwell := min 9999 most, overdue := if od.toNat = 0 then .alarm else .advance,
           rateLimit := min 200 limit.toNat, rateTrim := min 100 trim.toNat },
          decide
            (v < (if cr.toNat = 3 then 1 else 0) ∨ (if cr.toNat = 3 then 9999 else 999) < v ∨ 1200 < db ∨
              400 < dep ∨ 9999 < least ∨ 9999 < most ∨ 200 < limit.toNat ∨ 100 < trim.toNat)) := by
  have hcle : cr.toNat ≤ 3 := by rcases h with h | h | h <;> omega
  rw [parseStep_allowed h ho hv hdb hdep hleast hmost, valueField_eq hcle]
  simp only [clampField_snd (Nat.zero_le _), clampField_fst, Nat.zero_max, Nat.not_lt_zero, false_or,
    Bool.decide_or, Bool.or_assoc]

/-- Nothing of a Pass-through entry is clamped. -/
theorem parsePass_unadjusted {bytes : List Byte} {e : Option (NodeKind × ResponseKind)} {adjusted : Bool}
    (h : parsePass bytes = some (e, adjusted)) : adjusted = false := by
  unfold parsePass at h
  split at h
  · cases h; rfl
  · split at h
    · cases h; rfl
    · cases h

/-- An answer, as the step that a row of TABLE WRITE makes of it. -/
theorem next_finish {src tag : Byte} {a b : Answer} (h : a = b) :
    (Host.Outcome.next (finish src 1#8 tag a) : Host.Outcome State Fault Refusal) =
      .next (finish src 1#8 tag b) := by rw [h]

/-- Settles O49: each table's write of one record, and the tables by which records are judged. -/
theorem parametersAndRecordsWritten : Obligations.ParametersAndRecordsWritten := by
  refine ⟨fun s src tag i v hv => ⟨fun hc hi => ?_, fun hc => ⟨fun h => ?_, fun h => ?_⟩, fun hc hi => ?_,
      fun hc hi => ?_⟩,
    fun s src tag i bytes => ⟨fun hc hi hb => ⟨fun g adjusted h => ?_, fun h => ?_⟩, fun hc hi hb => ?_,
      fun hc hi hb => ⟨fun e adjusted h => ?_, fun h => ?_⟩⟩,
    fun count slope positions hlen hb => parseGroup_eq hlen hb, ?_, fun k r => ⟨?_, fun kind response => parsePass_of_kinds,
      parsePass_of_fault⟩⟩
  · exact (next_of_carries hc lineParamsWrite).trans (next_finish
      (lineParamsWrite_of_value (Nat.lt_succ_of_lt hi) hv (parseLineParam_numeric hi v)))
  · refine (next_of_carries hc lineParamsWrite).trans (next_finish
      ((lineParamsWrite_of_value (i := 9#8) (by decide) hv (autoSurvey_of_le h)).trans ?_))
    rw [show (9#8 : Byte).toNat = 9 from rfl, set_autoSurvey _ h]
    rfl
  · exact (next_of_carries hc lineParamsWrite).trans (next_finish
      (lineParamsWrite_of_fault (i := 9#8) (by decide) hv (autoSurvey_of_gt h)))
  · refine (next_of_carries hc climateParamsWrite).trans (next_finish
      ((climateParamsWrite_of_value hi hv).trans ?_))
    rw [climateWritten_one]
  · have hwrite := (next_of_carries (src := src) hc chargeParamsWrite).trans
      (next_finish (chargeParamsWrite_of_value hi hv))
    refine ⟨fun hfree => hwrite.trans (next_finish ((if_neg ?_).trans ?_)), fun hused =>
      hwrite.trans (next_finish (if_pos ?_))⟩
    · exact mt (countInUse_one _ _ _).1 hfree
    · rw [writeChargeParams_one]
    · exact (countInUse_one _ _ _).2 hused
  · exact (next_of_carries hc calibrationWrite).trans (next_finish (calibrationWrite_of_group hi hb h))
  · exact (next_of_carries hc calibrationWrite).trans (next_finish (calibrationWrite_of_fault hi hb h))
  · have hrow := next_of_carries (src := src) hc scheduleWrite
    refine ⟨fun r adjusted h hfree => ?_, fun r adjusted h hused => ?_, fun h => ?_⟩
    · exact hrow.trans (next_finish ((scheduleWrite_of_step hi hb h).trans
        (if_neg (mt (stepInUse_one _ r).1 hfree))))
    · exact hrow.trans (next_finish ((scheduleWrite_of_step hi hb h).trans
        (if_pos ((stepInUse_one _ r).2 hused))))
    · exact hrow.trans (next_finish (scheduleWrite_of_fault hi hb h))
  · cases parsePass_unadjusted h
    exact (next_of_carries hc passListWrite).trans (next_finish (passListWrite_of_entry hi hb h))
  · exact (next_of_carries hc passListWrite).trans (next_finish (passListWrite_of_fault hi hb h))
  · intro ph cr od limit trim v db dep least most hv hdb hdep hleast hmost
    exact ⟨parseStep_fault, fun h ho => parseStep_table h ho hv hdb hdep hleast hmost⟩
  · rintro rfl rfl
    rfl

end Sys2Proof.Machine.TableWrites
end

section
/-! Writes of ACTUATOR records (R36, R142, R145, R146, R183). -/

namespace Sys2Proof.Machine.TableWrites

/-! ## The write of one record -/

section Actuator

variable {s : State} {i : Byte} {bytes : List Byte} {a : Actuator} (hi : i.toNat < Config.actuatorEntries)
  (hb : bytes.length = 13) (ha : s.outputs.entries[i.toNat]? = some a)

include hi hb ha

theorem actuatorWrite_of_fault (h : parseActuator a bytes = none) :
    actuatorWrite ([i, 1#8] ++ bytes) s = .refuse .badArgument s := by
  have hjudge : judgeActuator s i.toNat bytes = none := by rw [judgeActuator, ha]; exact h
  rw [actuatorWrite, judged_one hi (by decide) hb, hjudge]
  rfl

theorem actuatorWrite_of_config {c : ActuatorConfig} {adjusted : Bool}
    (h : parseActuator a bytes = some (c, adjusted))
    (hu : uniqueAddresses
      (configuredRecords s.nodes.probes s.nodes.airs (s.outputs.entries.set i.toNat (a.write c))) = true) :
    actuatorWrite ([i, 1#8] ++ bytes) s = .done adjusted (writeActuators [(i.toNat, c)] s) := by
  have hjudge : judgeActuator s i.toNat bytes = some (c, adjusted) := by rw [judgeActuator, ha]; exact h
  have hwritten : s.actuatorsWritten [(i.toNat, c)] = s.outputs.entries.set i.toNat (a.write c) := by
    rw [State.actuatorsWritten, putAll_one, modify_of_getElem? _ ha]
  rw [← hwritten] at hu
  rw [actuatorWrite, judged_one hi (by decide) hb, hjudge]
  exact if_pos hu

end Actuator

theorem actuatorInFlight_nil (s : State) : s.actuatorInFlight [] = false := by
  unfold State.actuatorInFlight
  split <;> rfl

theorem actuatorInFlight_one (s : State) (i : Nat) :
    s.actuatorInFlight [i] = decide (s.plp.request.map Request.owner = some (.actuator i)) := by
  unfold State.actuatorInFlight
  split
  · next j h => simp [h, eq_comm]
  · next h => exact (decide_eq_false fun hi => h i hi).symm

/-- The kind mark after a write of one entry (R146). -/
theorem kindsInFlight_one {s : State} {i : Nat} {a : Actuator} (ha : s.outputs.entries[i]? = some a)
    (c : ActuatorConfig) :
    s.actuatorInFlight (changedKinds s [(i, c)]) =
      (decide (a.function.isFan ≠ c.function.isFan) &&
        decide (s.plp.request.map Request.owner = some (.actuator i))) := by
  have hkinds : changedKinds s [(i, c)] = if a.function.isFan ≠ c.function.isFan then [i] else [] := by
    by_cases h : a.function.isFan ≠ c.function.isFan <;>
      simp [changedKinds, ha, Actuator.changesKind, h]
  rw [hkinds]
  split
  · next h => rw [actuatorInFlight_one, decide_eq_true h, Bool.true_and]
  · next h => rw [actuatorInFlight_nil, decide_eq_false h, Bool.false_and]

theorem writeActuators_of_same {s : State} {i : Nat} {c : ActuatorConfig} {a : Actuator}
    (ha : s.outputs.entries[i]? = some a) (h : a.address = c.address) :
    writeActuators [(i, c)] s =
      formAll
        { s with
          outputs :=
            { s.outputs with
              entries := s.outputs.entries.set i (a.write c),
              kindMark :=
                s.outputs.kindMark ||
                  (decide (a.function.isFan ≠ c.function.isFan) &&
                    decide (s.plp.request.map Request.owner = some (.actuator i))) } } := by
  have haddress : s.actuatorAddress i = c.address := by rw [State.actuatorAddress, ha]; exact h
  simp only [writeActuators, changedIndices_one, haddress, if_true, actuatorInFlight_nil, Bool.or_false,
    kindsInFlight_one ha, State.actuatorsWritten, putAll_one, modify_of_getElem? _ ha, writeTimers,
    List.foldl_cons, List.foldl_nil]
  rfl

theorem writeActuators_of_other {s : State} {i : Nat} {c : ActuatorConfig} {a : Actuator}
    (ha : s.outputs.entries[i]? = some a) (h : a.address ≠ c.address) :
    writeActuators [(i, c)] s =
      formAll
        { s with
          outputs :=
            { s.outputs with
              entries := s.outputs.entries.set i (a.write c),
              dropMark :=
                s.outputs.dropMark || decide (s.plp.request.map Request.owner = some (.actuator i)),
              kindMark :=
                s.outputs.kindMark ||
                  (decide (a.function.isFan ≠ c.function.isFan) &&
                    decide (s.plp.request.map Request.owner = some (.actuator i))) },
          line :=
            { s.line with
              refreshTimers :=
                s.line.refreshTimers.set i (c.address.map fun _ => s.lineParams.refresh),
              retryWait := s.line.retryWait.set i false } } := by
  have haddress : s.actuatorAddress i ≠ c.address := by rw [State.actuatorAddress, ha]; exact h
  have htimer : (if c.address.isSome = true then some s.lineParams.refresh else none) =
      c.address.map fun _ => s.lineParams.refresh := by cases c.address <;> rfl
  simp only [writeActuators, changedIndices_one, haddress, if_false, actuatorInFlight_one,
    kindsInFlight_one ha, State.actuatorsWritten, putAll_one, modify_of_getElem? _ ha, writeTimers,
    List.foldl_cons, List.foldl_nil, htimer]
  rfl

/-- The entry with its configuration replaced. -/
def stored (a : Actuator) (c : ActuatorConfig) : Actuator :=
  { a with address := c.address, function := c.function, safe := c.safe, override := c.override }

theorem actuatorWritten_of_other {a : Actuator} {c : ActuatorConfig} (h : a.address ≠ c.address) :
    a.write c =
      { stored a c with
        acknowledged := none, echoed := none, state := .unseen, mismatches := 0, failed := 0,
        owed := 0 } := if_pos h

theorem changesKind_iff (a : Actuator) (c : ActuatorConfig) :
    (a.address.isSome && a.changesKind c) = true ↔
      a.address ≠ none ∧ a.function.isFan ≠ c.function.isFan := by
  simp [Actuator.changesKind, Option.isSome_iff_ne_none]

theorem actuatorWritten_of_changed {a : Actuator} {c : ActuatorConfig} (h : a.address = c.address)
    (hs : a.address ≠ none) (hk : a.function.isFan ≠ c.function.isFan) :
    a.write c = { stored a c with acknowledged := none, echoed := none, mismatches := 0 } :=
  (if_neg (not_not.2 h)).trans (if_pos ((changesKind_iff a c).2 ⟨hs, hk⟩))

theorem actuatorWritten_of_kept {a : Actuator} {c : ActuatorConfig} (h : a.address = c.address)
    (hk : a.function.isFan = c.function.isFan ∨ a.address = none) : a.write c = stored a c :=
  (if_neg (not_not.2 h)).trans (if_neg fun hn =>
    hk.elim ((changesKind_iff a c).1 hn).2 ((changesKind_iff a c).1 hn).1)

/-! ## The record judged (R142, R183) -/

/-- The function of a code up to 3 and a zone. -/
def functionAt (f z : Byte) : ActFunction :=
  if f.toNat = 0 then .heat (max 1 (min 4 z.toNat))
  else if f.toNat = 1 then .vent
  else if f.toNat = 2 then .spray
  else .fan

/-- A value field names a fan state. -/
def FanByte (b : Byte) : Prop := b = 0xF0#8 ∨ b = 0xF1#8 ∨ b = 0xF2#8

/-- The value of a field, for FAN or for a percent function. -/
def valueAt (f b : Byte) : ActValue :=
  if f.toNat = 3 then .fan (if b = 0xF0#8 then .stop else if b = 0xF1#8 then .forward else .reverse)
  else .percent (min 100 b.toNat)

theorem functionAt_isFan {f z : Byte} (h : f.toNat ≤ 3) : (functionAt f z).isFan = true ↔ f.toNat = 3 := by
  unfold functionAt
  (repeat' split) <;> simp only [ActFunction.isFan, true_iff, Bool.false_eq_true, false_iff] <;> omega

theorem parseFunction_eq (f z : Byte) :
    parseFunction f z =
      if f.toNat ≤ 3 then
        some (functionAt f z, decide (f.toNat = 0 ∧ (z.toNat < 1 ∨ 4 < z.toNat)))
      else none := by
  unfold parseFunction functionAt
  split <;> simp_all [clampField_fst, clampField_snd]
  omega

theorem fanOf_of_fanByte {b : Byte} (h : FanByte b) :
    fanOf b = some (if b = 0xF0#8 then .stop else if b = 0xF1#8 then .forward else .reverse) := by
  rcases h with rfl | rfl | rfl <;> rfl

theorem fanOf_of_not_fanByte {b : Byte} (h : ¬FanByte b) : fanOf b = none := by
  unfold fanOf
  split <;> rename_i hb
  · exact absurd (.inl (BitVec.eq_of_toNat_eq hb)) h
  · exact absurd (.inr (.inl (BitVec.eq_of_toNat_eq hb))) h
  · exact absurd (.inr (.inr (BitVec.eq_of_toNat_eq hb))) h
  · rfl

theorem parseValue_eq {f z : Byte} (hf : f.toNat ≤ 3) (b : Byte) :
    ((f.toNat = 3 ↔ FanByte b) →
      parseValue (functionAt f z) b =
        some (valueAt f b, decide (f.toNat ≠ 3 ∧ 100 < b.toNat))) ∧
    (¬(f.toNat = 3 ↔ FanByte b) → parseValue (functionAt f z) b = none) := by
  have hfan := functionAt_isFan (z := z) hf
  unfold parseValue valueAt
  by_cases h3 : f.toNat = 3 <;> by_cases hb : FanByte b
  · simp [hfan.2 h3, fanOf_of_fanByte hb, h3, hb]
  · simp [hfan.2 h3, fanOf_of_not_fanByte hb, h3, hb]
  · simp [Bool.eq_false_iff.2 (mt hfan.1 h3), fanOf_of_fanByte hb, h3, hb]
  · simp [Bool.eq_false_iff.2 (mt hfan.1 h3), fanOf_of_not_fanByte hb, h3, hb, clampField_fst, clampField_snd]

/-- The override of a mode up to 2. -/
def overrideAt (f mode force : Byte) : Override :=
  if mode.toNat = 0 then .none else if mode.toNat = 1 then .hold else .force (valueAt f force)

theorem parseOverride_eq {f z : Byte} (hf : f.toNat ≤ 3) (mode force : Byte) :
    (mode.toNat ≤ 2 ∧ (mode.toNat = 2 → (f.toNat = 3 ↔ FanByte force)) →
      parseOverride (functionAt f z) mode force =
        some (overrideAt f mode force, decide (f.toNat ≠ 3 ∧ mode.toNat = 2 ∧ 100 < force.toNat))) ∧
    (¬(mode.toNat ≤ 2 ∧ (mode.toNat = 2 → (f.toNat = 3 ↔ FanByte force))) →
      parseOverride (functionAt f z) mode force = none) := by
  obtain ⟨hvalue, hnone⟩ := parseValue_eq (z := z) hf force
  unfold parseOverride overrideAt
  split
  · next h => simp [h]
  · next h => simp [h]
  · next h =>
    refine ⟨fun hok => ?_, fun hbad => ?_⟩
    · rw [hvalue (hok.2 h)]; simp [h]
    · rw [hnone fun hn => hbad ⟨by omega, fun _ => hn⟩]; rfl
  · next h0 h1 h2 =>
    have h0 : mode.toNat ≠ 0 := h0
    have h1 : mode.toNat ≠ 1 := h1
    have h2 : mode.toNat ≠ 2 := h2
    have hgt : ¬mode.toNat ≤ 2 := by omega
    exact ⟨fun h => absurd h.1 hgt, fun _ => rfl⟩

theorem overrideAt_hold {f mode force : Byte} :
    overrideAt f mode force = .hold ↔ mode.toNat = 1 := by
  unfold overrideAt
  (repeat' split) <;> simp_all

theorem isFan_iff (f : ActFunction) : f.isFan = true ↔ f = .fan := by
  cases f <;> simp [ActFunction.isFan]

/-- The faults of R142. -/
def ActuatorFault (present : Actuator) (a f safe mode force : Byte) : Prop :=
  126 < a.toNat ∨ 3 < f.toNat ∨ 2 < mode.toNat ∨ ¬(f.toNat = 3 ↔ FanByte safe) ∨
    (mode.toNat = 2 ∧ ¬(f.toNat = 3 ↔ FanByte force)) ∨
    (mode.toNat = 1 ∧ ¬(f.toNat = 3 ↔ present.function = .fan))

section Judged

variable {present : Actuator} {a f z safe mode force : Byte} {rest : List Byte}

/-- A record that is judged is so field by field. -/
theorem parseActuator_some {v : ActuatorConfig × Bool}
    (h : parseActuator present ([a, f, z, safe, mode, force] ++ rest) = some v) :
    (parseAddress a).isSome = true ∧
      ∃ fn, parseFunction f z = some fn ∧ (parseValue fn.1 safe).isSome = true ∧
        ∃ o, parseOverride fn.1 mode force = some o ∧
          ¬(o.1 = .hold ∧ fn.1.isFan ≠ present.function.isFan) := by
  unfold parseActuator at h
  split at h
  · next address fn adj1 haddress hfunction =>
    split at h
    · next safe' adj2 o adj3 hvalue hoverride =>
      split at h
      · cases h
      · next hhold =>
        exact ⟨Option.isSome_of_eq_some haddress, _, hfunction, Option.isSome_of_eq_some hvalue, _, hoverride, hhold⟩
    · cases h
  · cases h

theorem parseActuator_of_fault (h : ActuatorFault present a f safe mode force) :
    parseActuator present ([a, f, z, safe, mode, force] ++ rest) = none := by
  refine Option.eq_none_iff_forall_ne_some.2 fun v hv => ?_
  obtain ⟨haddress, fn, hfunction, hvalue, o, hoverride, hhold⟩ := parseActuator_some hv
  rw [parseFunction_eq, Option.ite_none_right_eq_some] at hfunction
  obtain ⟨hf, hfunction⟩ := hfunction
  cases hfunction
  have hfields : mode.toNat ≤ 2 ∧ (mode.toNat = 2 → (f.toNat = 3 ↔ FanByte force)) := by
    by_contra hbad
    rw [(parseOverride_eq hf mode force).2 hbad] at hoverride
    cases hoverride
  rw [(parseOverride_eq hf mode force).1 hfields] at hoverride
  cases hoverride
  rcases h with h | h | h | h | h | h
  · rw [parseAddress_of_gt h] at haddress; cases haddress
  · omega
  · exact absurd hfields.1 (by omega)
  · rw [(parseValue_eq hf safe).2 h] at hvalue; cases hvalue
  · exact h.2 (hfields.2 h.1)
  · refine hhold ⟨overrideAt_hold.2 h.1, fun heq => h.2 ?_⟩
    rw [← functionAt_isFan (z := z) hf, ← isFan_iff, heq]

theorem parseActuator_of_no_fault (h : ¬ActuatorFault present a f safe mode force) :
    parseActuator present ([a, f, z, safe, mode, force] ++ rest) =
      some
        ({ address := if a.toNat = 0 then none else some a.toNat, function := functionAt f z,
           safe := valueAt f safe, override := overrideAt f mode force },
          decide
            ((f.toNat = 0 ∧ (z.toNat < 1 ∨ 4 < z.toNat)) ∨ (f.toNat ≠ 3 ∧ 100 < safe.toNat) ∨
              (f.toNat ≠ 3 ∧ mode.toNat = 2 ∧ 100 < force.toNat))) := by
  simp only [ActuatorFault, not_or, Nat.not_lt, not_not, not_and] at h
  obtain ⟨ha, hf, hm, hsafe, hforce, hhold⟩ := h
  have haddress : parseAddress (byteAt ([a, f, z, safe, mode, force] ++ rest) 0) =
      some (if a.toNat = 0 then none else some a.toNat) := parseAddress_of_le ha
  have hfunction : parseFunction (byteAt ([a, f, z, safe, mode, force] ++ rest) 1)
      (byteAt ([a, f, z, safe, mode, force] ++ rest) 2) = _ := (parseFunction_eq f z).trans (if_pos hf)
  have hvalue : parseValue (functionAt f z) (byteAt ([a, f, z, safe, mode, force] ++ rest) 3) = _ :=
    (parseValue_eq hf safe).1 hsafe
  have hoverride : parseOverride (functionAt f z) (byteAt ([a, f, z, safe, mode, force] ++ rest) 4)
      (byteAt ([a, f, z, safe, mode, force] ++ rest) 5) = _ := (parseOverride_eq hf mode force).1 ⟨hm, hforce⟩
  have hkept : ¬(overrideAt f mode force = .hold ∧ (functionAt f z).isFan ≠ present.function.isFan) := by
    rintro ⟨ho, hne⟩
    refine hne (Bool.eq_iff_iff.2 ?_)
    rw [functionAt_isFan hf, isFan_iff]
    exact hhold (overrideAt_hold.1 ho)
  rw [parseActuator, haddress, hfunction]
  dsimp only
  rw [hvalue, hoverride]
  dsimp only
  rw [if_neg hkept]
  simp only [Bool.decide_or, Bool.or_assoc]

end Judged

/-- Settles O48: the write by what becomes of the address and the kind, and the judgment field by field. -/
theorem actuatorRecordWritten : Obligations.ActuatorRecordWritten := by
  refine ⟨fun s src tag i bytes a c adjusted hc hb hi ha => ?_, fun present a f z safe mode force rest => ?_⟩
  · intro stored unique inFlight changesKind
    have hrow := next_of_carries (src := src) hc actuatorWrite
    refine ⟨fun h => ?_, fun h hsame hk hu => ?_, fun h hsame hs hk => ?_, fun h hother => ?_⟩
    · exact hrow.trans (next_finish (actuatorWrite_of_fault hi hb ha h))
    · have hwritten : a.write c = stored := actuatorWritten_of_kept hsame hk
      refine hrow.trans (next_finish ((actuatorWrite_of_config hi hb ha h (by rw [hwritten]; exact hu)).trans ?_))
      rw [writeActuators_of_same ha hsame, hwritten]
    · intro changed hu
      have hwritten : a.write c = changed := actuatorWritten_of_changed hsame hs hk
      refine hrow.trans (next_finish ((actuatorWrite_of_config hi hb ha h (by rw [hwritten]; exact hu)).trans ?_))
      rw [writeActuators_of_same ha hsame, hwritten, decide_eq_true hk, Bool.true_and]
    · intro fresh hu
      have hwritten : a.write c = fresh := actuatorWritten_of_other hother
      refine hrow.trans (next_finish ((actuatorWrite_of_config hi hb ha h (by rw [hwritten]; exact hu)).trans ?_))
      rw [writeActuators_of_other ha hother, hwritten]
  · exact ⟨parseActuator_of_fault, parseActuator_of_no_fault⟩

end Sys2Proof.Machine.TableWrites
end

section
/-! Sweeps (R24 to R27, R80, R83, R91): their start, their completion, and the test for it. -/

namespace Sys2Proof.Machine.Sweeps

open Sys2Proof.Machine.OutcomeDelivery Sys2Proof.Machine.LineSelection Sys2Proof.Machine.LineSurvey

/-! ## The completion test (R27) -/

/-- No slot at or above a position is pollable. -/
def Spent (position : Nat) (probes : List ProbeRecord) : Prop :=
  ∀ (j : Nat) (p : ProbeRecord), position ≤ j → probes[j]? = some p → p.node.pollable = false

theorem nextSlot_isNone_iff (t : NodeTables) (position : Nat) :
    (t.nextSlot position).isNone = true ↔ Spent position t.probes := by
  rw [Option.isNone_iff_eq_none, NodeTables.nextSlot, firstIndex_eq_none_iff]
  simp only [not_hasAt, Bool.and_eq_false_iff, decide_eq_false_iff_not]
  exact ⟨fun h j p hj hp => (h j p hp).resolve_left (not_not.2 hj),
    fun h j p hp => or_iff_not_imp_left.2 fun hj => h j p (not_not.1 hj) hp⟩

theorem sweepReadInFlight_of_idle {s : State} (h : s.line.condition = .idle) : s.sweepReadInFlight = false := by
  rw [State.sweepReadInFlight, h]
  rfl

theorem sweepDone_iff {s : State} (h : s.line.condition = .idle) :
    s.sweepDone = true ↔ s.line.sweeping = true ∧ Spent s.line.sweepPosition s.nodes.probes := by
  rw [State.sweepDone, sweepReadInFlight_of_idle h, Bool.not_false, Bool.and_true, Bool.and_eq_true,
    nextSlot_isNone_iff]

theorem not_sweepDone {s : State} (h : ¬Spent s.line.sweepPosition s.nodes.probes) : s.sweepDone = false := by
  rw [State.sweepDone, Bool.eq_false_iff.2 (mt (nextSlot_isNone_iff _ _).1 h), Bool.and_false]

theorem not_spent_zero {probes : List ProbeRecord} (h : ∃ p ∈ probes, p.node.pollable = true) :
    ¬Spent 0 probes := by
  obtain ⟨p, hp, hpoll⟩ := h
  obtain ⟨j, hj⟩ := List.mem_iff_getElem?.1 hp
  intro hs
  rw [hs j p (Nat.zero_le j) hj] at hpoll
  cases hpoll

theorem spent_of_none {probes : List ProbeRecord} (h : ∀ p ∈ probes, p.node.pollable = false) (position : Nat) :
    Spent position probes :=
  fun _ p _ hp => h p (List.mem_of_getElem? hp)

/-! ## The completion (R27, R80, R83, R91) -/

/-- The machine `t` holds the evaluation of the sweep of `s`: it is the latest, it has joined the history, and
BLIND_EVAL is latched where it is blind and only there. -/
def Evaluated (s t : State) : Prop :=
  let e :=
    evaluate t.nodes.probes s.schedule.params s.schedule.charge s.evaluator.history s.line.sweepNumber
  t.evaluator =
      { latest := some e, history := joinHistory s.evaluator.history s.schedule.charge e } ∧
    (e.blind = true → s.events.flags.length = 25 → t.events.latched 12 = true) ∧
    (e.blind = false → t.events.flags[12]? = s.events.flags[12]?)

/-- What the evaluation reads and leaves behind. -/
theorem Evaluated.congr {s s' t t' : State} (h : Evaluated s t) (hsched : s'.schedule = s.schedule)
    (heval : s'.evaluator = s.evaluator) (hnum : s'.line.sweepNumber = s.line.sweepNumber)
    (hlen : s'.events.flags.length = s.events.flags.length)
    (hflag : s'.events.flags[12]? = s.events.flags[12]?) (hprobes : t'.nodes.probes = t.nodes.probes)
    (heval' : t'.evaluator = t.evaluator) (hevents : t'.events = t.events) : Evaluated s' t' := by
  unfold Evaluated at h ⊢
  rw [hsched, heval, hnum, hlen, hflag, hprobes, heval', hevents]
  exact h

theorem Evaluated.withLine {s t : State} (h : Evaluated s t) (l : Arbiter) :
    Evaluated s { t with line := l } :=
  h.congr rfl rfl rfl rfl rfl rfl rfl rfl

theorem completeSweep_line (s : State) : (completeSweep s).line = { s.line with sweeping := false } := by
  simp [completeSweep]

theorem completeSweep_probes (s : State) :
    (completeSweep s).nodes.probes = ageReadings s.line.sweepNumber s.nodes.probes := by
  simp [completeSweep, runEvaluation_nodes]

theorem completeSweep_evaluated (s : State) : Evaluated s (completeSweep s) := by
  obtain ⟨hblind, hsighted⟩ := runEvaluation_blind s.line.sweepNumber s
  unfold Evaluated
  rw [completeSweep_probes]
  refine ⟨?_, fun hb hlen => hblind hb (by omega), hsighted⟩
  simp [completeSweep, runEvaluation]

theorem ageReadings_pollable (sweep : Nat) (probes : List ProbeRecord) :
    (ageReadings sweep probes).map (·.node) = probes.map (·.node) := by
  rw [ageReadings, List.map_map]
  rfl

theorem exists_pollable_congr {l m : List ProbeRecord} (h : l.map (·.node) = m.map (·.node)) :
    (∃ p ∈ l, p.node.pollable = true) ↔ ∃ p ∈ m, p.node.pollable = true := by
  have hnode (l : List ProbeRecord) :
      (∃ p ∈ l, p.node.pollable = true) ↔ ∃ n ∈ l.map (·.node), n.pollable = true := by simp
  rw [hnode, hnode, h]

/-! ## The start (R26, R27) -/

/-- The next sweep begins at position 0. -/
def started (l : Arbiter) : Arbiter :=
  { l with sweepNumber := (l.sweepNumber + 1) % 2 ^ 32, sweeping := true, sweepPosition := 0 }

theorem startSweep_of_pollable {s : State} (h : ∃ p ∈ s.nodes.probes, p.node.pollable = true) :
    startSweep s = { s with line := started s.line } := by
  have hgoing : ({ s with line := started s.line } : State).sweepDone = false :=
    not_sweepDone (not_spent_zero h)
  unfold startSweep
  exact if_neg (Bool.eq_false_iff.1 hgoing)

theorem startSweep_of_none {s : State} (hi : s.line.condition = .idle)
    (h : ∀ p ∈ s.nodes.probes, p.node.pollable = false) :
    startSweep s = completeSweep { s with line := started s.line } := by
  have hdone : ({ s with line := started s.line } : State).sweepDone = true :=
    (sweepDone_iff (s := { s with line := started s.line }) hi).2 ⟨rfl, spent_of_none h 0⟩
  unfold startSweep
  exact if_pos hdone

theorem startSweep_pending (s : State) : (startSweep s).line.sweepPending = s.line.sweepPending := by
  unfold startSweep
  dsimp only
  split
  · rw [completeSweep_line]
  · rfl

theorem evaluate_sweep (probes : List ProbeRecord) (params : ChargeParams) (c : Charge)
    (history : List EvalRecord) (sweep : Nat) : (evaluate probes params c history sweep).sweep = sweep := by
  unfold evaluate
  dsimp only
  split <;> rfl

/-- With no slot pollable no slot is usable, and the evaluation is blind (R85, R86). -/
theorem evaluate_of_none_pollable {probes : List ProbeRecord}
    (h : ∀ p ∈ probes, p.node.pollable = false) (params : ChargeParams) (c : Charge)
    (history : List EvalRecord) (sweep : Nat) :
    (evaluate probes params c history sweep).sweep = sweep ∧
      (evaluate probes params c history sweep).n = 0 ∧
      (evaluate probes params c history sweep).blind = true := by
  have hunusable (p : ProbeRecord) (hp : p ∈ probes) : p.usableMc params.stale = none := by
    have hstate : p.node.state ≠ .active := fun hs => by
      have hpoll := h p hp
      rw [NodeRecord.pollable, hs] at hpoll
      exact absurd hpoll (by decide)
    unfold ProbeRecord.usableMc
    split
    · rfl
    · rw [if_neg (by simp [hstate])]
  have hnone : usableSlots probes params.stale = [] := by
    refine List.filterMap_eq_nil_iff.2 fun x hx => ?_
    obtain ⟨j, hj⟩ := List.mem_iff_getElem?.1 hx
    rw [indexed_getElem?] at hj
    obtain ⟨p, hp, rfl⟩ := Option.map_eq_some_iff.1 hj
    rw [hunusable p (List.mem_of_getElem? hp)]
    rfl
  simp [evaluate, hnone]

/-! ## The test (R27) -/

theorem testSweep_of_alone {s : State} (hd : s.sweepDone = true) (hp : s.line.sweepPending = false) :
    testSweep s = completeSweep s := by
  have hpending : (completeSweep s).line.sweepPending = false := by rw [completeSweep_line]; exact hp
  simp only [testSweep, hd, if_true, hpending, Bool.false_eq_true, if_false]

theorem testSweep_of_pending {s : State} (hd : s.sweepDone = true) (hp : s.line.sweepPending = true) :
    testSweep s =
      startSweep
        { completeSweep s with line := { s.line with sweeping := false, sweepPending := false } } := by
  simp only [testSweep, hd, if_true, completeSweep_line, hp]

/-- No sweep is pending after a completion (R27). -/
theorem testSweep_not_pending {s : State} (hd : s.sweepDone = true) : (testSweep s).line.sweepPending = false := by
  cases hp : s.line.sweepPending with
  | false => rw [testSweep_of_alone hd hp, completeSweep_line, hp]
  | true => rw [testSweep_of_pending hd hp, startSweep_pending]

/-- A pending sweep starts where a slot is pollable. -/
theorem testSweep_goes_on {s : State} (hd : s.sweepDone = true) (hp : s.line.sweepPending = true)
    (h : ∃ p ∈ s.nodes.probes, p.node.pollable = true) :
    testSweep s =
      { completeSweep s with line := started { s.line with sweeping := false, sweepPending := false } } := by
  rw [testSweep_of_pending hd hp, startSweep_of_pollable]
  show ∃ p ∈ (completeSweep s).nodes.probes, _
  rw [completeSweep_probes]
  exact (exists_pollable_congr (ageReadings_pollable _ _)).2 h

/-- A pending sweep starts and completes where none is. -/
theorem testSweep_completes {s : State} (hi : s.line.condition = .idle) (hd : s.sweepDone = true)
    (hp : s.line.sweepPending = true) (h : ∀ p ∈ s.nodes.probes, p.node.pollable = false) :
    testSweep s =
      completeSweep
        { completeSweep s with line := started { s.line with sweeping := false, sweepPending := false } } := by
  rw [testSweep_of_pending hd hp]
  refine startSweep_of_none hi ?_
  show ∀ p ∈ (completeSweep s).nodes.probes, _
  rw [completeSweep_probes]
  intro p hpm
  by_contra hpoll
  have hex := (exists_pollable_congr (ageReadings_pollable _ _)).1 ⟨p, hpm, Bool.eq_true_of_not_eq_false hpoll⟩
  obtain ⟨q, hq, hqp⟩ := hex
  rw [h q hq] at hqp
  cases hqp

/-! ## A sweep timer expiry (R24, R25) -/

theorem exec_sweepTimerExpiry {s : State} (hr : s.resetHeld = false) :
    exec .sweepTimerExpiry s = .next (sweepExpiry s) :=
  congrArg Host.Outcome.next (awake_of_high hr _)

theorem sweepExpiry_of_none {s : State} (h : s.line.sweeping = false) :
    sweepExpiry s = startSweep { s with line := { s.line with sweepTimer := s.lineParams.sweepPeriod } } := by
  rw [sweepExpiry, if_neg (by simp [h])]

theorem sweepExpiry_of_one {s : State} (h : s.line.sweeping = true) (hp : s.line.sweepPending = false) :
    sweepExpiry s =
      { s with line := { s.line with sweepTimer := s.lineParams.sweepPeriod, sweepPending := true } } := by
  rw [sweepExpiry, if_pos h, if_neg (by simp [hp])]

theorem sweepExpiry_of_two {s : State} (h : s.line.sweeping = true) (hp : s.line.sweepPending = true) :
    sweepExpiry s =
      raise (.sweepOverrun, none) { s with line := { s.line with sweepTimer := s.lineParams.sweepPeriod } } := by
  rw [sweepExpiry, if_pos h, if_pos hp]

/-! ## A selection -/

/-- Issuing a request leaves the sweep, the readings, the evaluations and the events. -/
theorem issue_sweep (r : Request) (s : State) :
    (issue r s).line.sweeping = s.line.sweeping ∧ (issue r s).line.sweepPending = s.line.sweepPending ∧
      (issue r s).line.sweepNumber = s.line.sweepNumber ∧
      (issue r s).nodes.probes = s.nodes.probes ∧ (issue r s).evaluator = s.evaluator ∧
      (issue r s).events = s.events := by
  unfold issue Arbiter.issue NodeTables.issue
  cases r.owner <;> exact ⟨rfl, rfl, rfl, rfl, rfl, rfl⟩

theorem select_sweep {s : State} (h : s.line.condition = .idle) :
    (select s).line.sweeping = (testSweep s).line.sweeping ∧
      (select s).line.sweepPending = (testSweep s).line.sweepPending ∧
      (select s).line.sweepNumber = (testSweep s).line.sweepNumber ∧
      (select s).nodes.probes = (testSweep s).nodes.probes ∧
      (select s).evaluator = (testSweep s).evaluator ∧ (select s).events = (testSweep s).events := by
  rw [select, if_pos h]
  dsimp only
  split
  · exact issue_sweep _ _
  · exact ⟨rfl, rfl, rfl, rfl, rfl, rfl⟩

/-! ## The delivery of a probe's outcome -/

/-- The machine as the completion test finds it at the delivery of a probe's outcome. -/
def beforeTest (i : Nat) (o : OutcomeRecord) (s : State) : State :=
  { ownerTook o s with line := searchProbe s.nodes i o.outcome { s.line with condition := .idle } }

theorem deliver_probe {o : OutcomeRecord} {i : Nat} (s : State) (h : o.request.owner = .probe i) :
    deliver o s = testSweep (beforeTest i o s) := by
  rw [beforeTest, ← ownerTook_line o s]
  simp [deliver, arbiterTake, ownerTook, monitored, h]

theorem searchProbe_line (t : NodeTables) (i : Nat) (o : LineOutcome) (l : Arbiter) :
    searchProbe t i o l = { l with probeSearch := (searchProbe t i o l).probeSearch } := by
  unfold searchProbe
  (repeat' split) <;> rfl

theorem beforeTest_line (i : Nat) (o : OutcomeRecord) (s : State) :
    (beforeTest i o s).line =
      { s.line with condition := .idle, probeSearch := (beforeTest i o s).line.probeSearch } :=
  searchProbe_line _ _ _ _

theorem beforeTest_schedule (i : Nat) (o : OutcomeRecord) (s : State) :
    (beforeTest i o s).schedule = s.schedule := by
  simp [beforeTest, ownerTook]

theorem beforeTest_evaluator (i : Nat) (o : OutcomeRecord) (s : State) :
    (beforeTest i o s).evaluator = s.evaluator := by
  simp [beforeTest, ownerTook, monitored]

theorem passThrough_flags_length (o : OutcomeRecord) (s : State) :
    (passThrough o s).events.flags.length = s.events.flags.length := by
  obtain ⟨ev, lp, heq, hev⟩ := passThrough_cases o s
  rw [heq]
  rcases hev with rfl | rfl
  · rfl
  · exact latch_flags_length _ _

/-- The owner's raises are those of supervision. -/
theorem ownerProbe_events (i : Nat) (o : OutcomeRecord) (s : State) :
    (ownerProbe i o s).events.flags.length = s.events.flags.length ∧
      (ownerProbe i o s).events.flags[12]? = s.events.flags[12]? := by
  unfold ownerProbe
  split
  · exact ⟨rfl, rfl⟩
  · split
    · exact ⟨rfl, rfl⟩
    · rw [raiseAll_events]
      refine ⟨foldl_latch_flags_length _ _, foldl_latch_other _ _ _ fun r hr => ?_⟩
      have hle := (Supervision.take_event_number hr).2
      omega

theorem beforeTest_events {i : Nat} {o : OutcomeRecord} (s : State) (h : o.request.owner = .probe i) :
    (beforeTest i o s).events.flags.length = s.events.flags.length ∧
      (beforeTest i o s).events.flags[12]? = s.events.flags[12]? := by
  obtain ⟨hlen, hflag⟩ := ownerProbe_events i o (monitored o s)
  have hdeliver : deliverToOwner o (monitored o s) = ownerProbe i o (monitored o s) := by
    rw [deliverToOwner, h]
  refine ⟨?_, ?_⟩
  · show (passThrough o (deliverToOwner o (monitored o s))).events.flags.length = _
    rw [passThrough_flags_length, hdeliver, hlen, monitored_flags_length]
  · show (ownerTook o s).events.flags[12]? = _
    rw [ownerTook_flags o s (by decide), hdeliver, hflag, monitored_flags o s (by decide)]

/-- The delivery acts on the polled slot alone before the test. -/
theorem beforeTest_probe {i j : Nat} {o : OutcomeRecord} (s : State) (h : o.request.owner = .probe i)
    (hj : j ≠ i) : (beforeTest i o s).nodes.probes[j]? = s.nodes.probes[j]? := by
  show (ownerTook o s).nodes.probes[j]? = _
  have hm : (monitored o s).nodes.probes = s.nodes.probes := by rw [monitored_nodes]
  rw [ownerTook, passThrough_nodes, deliverToOwner, h]
  simp only [ownerProbe]
  split
  · rw [hm]
  · split
    · rw [hm]
    · rw [raiseAll_nodes, hm, List.getElem?_set_ne (Ne.symm hj)]

theorem beforeTest_evaluated {i : Nat} {o : OutcomeRecord} {s t : State} (h : o.request.owner = .probe i)
    (ht : Evaluated (beforeTest i o s) t) : Evaluated s t :=
  ht.congr (beforeTest_schedule i o s).symm (beforeTest_evaluator i o s).symm
    (by rw [beforeTest_line]) (beforeTest_events s h).1.symm (beforeTest_events s h).2.symm rfl rfl rfl

/-- The slots above the position are those of before, the polled one being below it. -/
theorem beforeTest_done {i : Nat} {o : OutcomeRecord} {s : State} (h : o.request.owner = .probe i)
    (hs : s.line.sweeping = true) (hi : i < s.line.sweepPosition) :
    (beforeTest i o s).sweepDone = true ↔ Spent s.line.sweepPosition s.nodes.probes := by
  rw [sweepDone_iff (by rw [beforeTest_line]), beforeTest_line]
  simp only [hs, true_and, Spent]
  refine forall_congr' fun j => forall_congr' fun p => forall_congr' fun hj => ?_
  rw [beforeTest_probe s h (by omega)]

/-- A record as the completion of the sweep numbered `sweep` leaves it (R80). -/
def agedBy (sweep : Nat) (p : ProbeRecord) : ProbeRecord :=
  { p with reading := p.reading.map fun r => if r.sweep = sweep then r else { r with age := min 255 (r.age + 1) } }

theorem ageReadings_eq (sweep : Nat) (probes : List ProbeRecord) :
    ageReadings sweep probes = probes.map (agedBy sweep) := rfl

/-- Settles O27: the expiry by the sweeps in hand, then the completion test at a selection and at a delivery. -/
theorem sweepTimerExpires : Obligations.SweepTimerExpires := by
  refine ⟨fun s hr => ?_, fun s hr hs => ?_⟩
  · rw [exec_sweepTimerExpiry hr]
    refine ⟨fun h hp => ?_, fun h hp hi => ?_, fun h hp => ?_, fun h hp => ?_⟩
    · rw [sweepExpiry_of_none h]
      exact congrArg Host.Outcome.next (startSweep_of_pollable hp)
    · have hstart := startSweep_of_none
        (s := { s with line := { s.line with sweepTimer := s.lineParams.sweepPeriod } }) hi hp
      have hnone : ∀ p ∈ ageReadings ((s.line.sweepNumber + 1) % 2 ^ 32) s.nodes.probes,
          p.node.pollable = false := by
        rw [ageReadings_eq, List.forall_mem_map]
        exact hp
      obtain ⟨hsweep, hn, hblind⟩ := evaluate_of_none_pollable hnone s.schedule.params s.schedule.charge
        s.evaluator.history ((s.line.sweepNumber + 1) % 2 ^ 32)
      have heval := completeSweep_evaluated
        { s with line := started { s.line with sweepTimer := s.lineParams.sweepPeriod } }
      unfold Evaluated at heval
      rw [completeSweep_probes] at heval
      obtain ⟨hlatest, hlatched, _⟩ := heval
      refine ⟨_, rfl, ?_, ?_, ?_⟩
      · rw [sweepExpiry_of_none h, hstart, completeSweep_line]
        rfl
      · rw [sweepExpiry_of_none h, hstart, hlatest]
        exact congrArg some (Prod.ext hsweep (Prod.ext hn hblind))
      · rw [sweepExpiry_of_none h, hstart]
        exact hlatched hblind
    · rw [sweepExpiry_of_one h hp]
    · rw [sweepExpiry_of_two h hp]
  · intro spent aged evaluated next
    refine ⟨fun hi hspent => ?_, fun o i ho hlt => ?_⟩
    · have hd : s.sweepDone = true := (sweepDone_iff hi).2 ⟨hs, hspent⟩
      obtain ⟨hsweeping, hpending, hnumber, hprobes, heval, hevents⟩ := select_sweep hi
      have hevaluated : Evaluated s (completeSweep s) := completeSweep_evaluated s
      refine ⟨select s, exec_lineSelect hr, ?_, fun hp => ?_, fun hp hex => ?_, fun hp hno => ?_⟩
      · rw [hpending, testSweep_not_pending hd]
      · rw [testSweep_of_alone hd hp] at hsweeping hnumber hprobes heval hevents
        refine ⟨hsweeping.trans (by rw [completeSweep_line]), hnumber.trans (by rw [completeSweep_line]),
          hevaluated.congr rfl rfl rfl rfl rfl hprobes heval hevents, hprobes.trans (completeSweep_probes s)⟩
      · rw [testSweep_goes_on hd hp hex] at hsweeping hnumber hprobes heval hevents
        exact ⟨hsweeping, hnumber, hevaluated.congr rfl rfl rfl rfl rfl hprobes heval hevents,
          hprobes.trans (completeSweep_probes s)⟩
      · rw [testSweep_completes hi hd hp hno] at hsweeping hnumber heval
        rw [completeSweep_line] at hsweeping hnumber
        refine ⟨hsweeping, hnumber, ?_⟩
        rw [heval, (completeSweep_evaluated _).1]
        exact congrArg some (evaluate_sweep _ _ _ _ _)
    · intro t
      have ht : t = testSweep (beforeTest i o s) := deliver_probe s ho
      have hdone := beforeTest_done ho hs hlt
      refine ⟨fun hspent hp => ?_, fun hspent hp hex => ?_, fun hspent => ?_⟩
      · have hpb : (beforeTest i o s).line.sweepPending = false := by rw [beforeTest_line]; exact hp
        rw [ht, testSweep_of_alone (hdone.2 hspent) hpb]
        refine ⟨by rw [completeSweep_line], by rw [completeSweep_line, beforeTest_line],
          beforeTest_evaluated ho (completeSweep_evaluated _), fun j hj => ?_⟩
        rw [completeSweep_probes, ageReadings_eq, List.getElem?_map, beforeTest_probe s ho hj, beforeTest_line]
        rfl
      · have hpb : (beforeTest i o s).line.sweepPending = true := by rw [beforeTest_line]; exact hp
        obtain ⟨j, p, hj, hget, hpoll⟩ := hex
        have hexb : ∃ p ∈ (beforeTest i o s).nodes.probes, p.node.pollable = true :=
          ⟨p, List.mem_of_getElem? ((beforeTest_probe s ho hj).trans hget), hpoll⟩
        rw [ht, testSweep_goes_on (hdone.2 hspent) hpb hexb]
        refine ⟨rfl, rfl, rfl, ?_, ?_⟩
        · show ((beforeTest i o s).line.sweepNumber + 1) % 2 ^ 32 = next
          rw [beforeTest_line]
        · exact beforeTest_evaluated ho ((completeSweep_evaluated _).withLine _)
      · rw [ht, testSweep_of_going (Bool.eq_false_iff.2 (mt hdone.1 hspent)), beforeTest_line]
        exact ⟨hs, rfl, beforeTest_evaluator i o s⟩

end Sys2Proof.Machine.Sweeps
end

section
/-! A climate cycle expiry (R30, R55, R127, R130 to R132, R138): what it marks and ages, and the heat loops. -/

namespace Sys2Proof.Machine.ClimateControl

open Sys2Proof.Machine.LineSurvey

/-! ## Poll-due marks and ageing (R30, R55) -/

theorem markDue_getElem? {l : Arbiter} {airs : List AirRecord} {i : Nat} {a : AirRecord}
    (ha : airs[i]? = some a) :
    (l.markDue airs).pollDue[i]? =
      (l.pollDue[i]?).map fun d => d || (a.node.state != .empty && a.node.state != .isolated) := by
  simp only [Arbiter.markDue, List.getElem?_map, indexed_getElem?, Option.map_map, Function.comp_def,
    Nat.zero_add, ha]
  rfl

theorem ageAirs_getElem? {t : NodeTables} {i : Nat} {a : AirRecord} (ha : t.airs[i]? = some a) :
    t.ageAirs.airs[i]? =
      some { a with cycles := if a.node.address = none then a.cycles else min 255 (a.cycles + 1) } := by
  simp only [NodeTables.ageAirs, List.getElem?_map, ha, Option.map_some]
  cases a.node.address <;> rfl

theorem eachZone_getElem? (c : Climate) (f : Nat → ZoneLoop → ZoneLoop) (i : Nat) :
    (c.eachZone f)[i]? = (c.zones[i]?).map (f (1 + i)) := by
  simp only [Climate.eachZone, List.getElem?_map, indexed_getElem?, Option.map_map, Function.comp_def]

/-- The loop of a zone 1..4 after each zone has been acted on. -/
theorem eachZone_of_zone {c : Climate} {z : Nat} {l : ZoneLoop} (f : Nat → ZoneLoop → ZoneLoop) (h1 : 1 ≤ z)
    (hl : c.zones[z - 1]? = some l) : (c.eachZone f)[z - 1]? = some (f z l) := by
  rw [eachZone_getElem?, hl, Option.map_some, Nat.add_sub_cancel' h1]

theorem eachZone_length (c : Climate) (f : Nat → ZoneLoop → ZoneLoop) :
    (c.eachZone f).length = c.zones.length := by
  rw [Climate.eachZone, List.length_map, indexed_length]

/-! ## What the Climate Unit does by charge and fan state (R127) -/

theorem climateCycle_line (s : State) : (climateCycle s).line = s.line ∧ (climateCycle s).nodes = s.nodes := by
  unfold climateCycle
  (repeat' split) <;> simp [formAll]

theorem running_of_turning {f : FanState} (h : f = .forward ∨ f = .reverse) : f.running = true := by
  rcases h with rfl | rfl <;> rfl

theorem climateCycle_of_rest {s : State}
    (h : s.schedule.charge.state = .idle ∨ s.schedule.charge.state = .complete ∨ s.climate.fan = .coastR ∨
      s.climate.fan = .coastF) : climateCycle s = s := by
  unfold climateCycle
  split
  · next hrun =>
    rcases h with h | h | h | h
    · rw [h]
    · rw [h]
    · rw [h] at hrun; cases hrun
    · rw [h] at hrun; cases hrun
  · rfl

theorem climateCycle_of_cooldown {s : State} (hc : s.schedule.charge.state = .cooldown)
    (hf : s.climate.fan = .forward ∨ s.climate.fan = .reverse) :
    climateCycle s =
      formAll { s with climate := s.climate.cooldownCycle s.nodes s.schedule.params.coolVent } := by
  rw [climateCycle, if_pos (running_of_turning hf), hc]

theorem climateExpiry_of_cooldown {s : State} (hc : s.schedule.charge.state = .cooldown)
    (hf : s.climate.fan = .forward ∨ s.climate.fan = .reverse) :
    (climateExpiry s).climate = s.climate.cooldownCycle s.nodes.ageAirs s.schedule.params.coolVent ∧
      (climateExpiry s).outputs =
        { s.outputs with entries := s.outputs.entries.map (Actuator.form (climateExpiry s).climate) } := by
  rw [climateExpiry_eq, countStateReport_climate, countStateReport_outputs,
    climateCycle_of_cooldown (s := cycleMarked s) hc hf]
  exact ⟨rfl, rfl⟩

theorem climateExpiry_outputs {s : State} {sp : Setpoints} (h : LoopsRun s sp) :
    (climateExpiry s).outputs =
      { s.outputs with entries := s.outputs.entries.map (Actuator.form (climateExpiry s).climate) } := by
  rw [climateExpiry_climate h, climateExpiry_eq, countStateReport_outputs,
    climateCycle_of_loopsRun h.cycleMarked, raiseAll_outputs]
  rfl

/-- A zone's loop as COOLDOWN sets it (R138). -/
def cooledLoop (t : NodeTables) (z : Nat) (l : ZoneLoop) : ZoneLoop :=
  { l with demand := presentZero t z, value := 0, mode := .tracking, stale := 0 }

theorem presentZero_ageAirs (t : NodeTables) (z : Nat) :
    presentZero t.ageAirs z = if t.zoneDb z = none then none else some 0 := by
  rw [presentZero, zoneDb_ageAirs]
  cases t.zoneDb z <;> rfl

/-- Settles O28: the marks and counts, then the Climate Unit by its cases; the STATE REPORT touches none of them. -/
theorem climateExpiryMarksAndAges : Obligations.ClimateExpiryMarksAndAges := by
  intro s hr
  have hline : (climateExpiry s).line = (cycleMarked s).line := by
    rw [climateExpiry_eq, countStateReport_line, (climateCycle_line _).1]
  have hnodes : (climateExpiry s).nodes = s.nodes.ageAirs := by
    rw [climateExpiry_eq, countStateReport_nodes, (climateCycle_line _).2]
    rfl
  refine ⟨climateExpiry s, exec_climateCycleExpiry hr, by rw [hline]; rfl, by rw [hline]; rfl,
    fun i a ha => ?_, by rw [hnodes]; rfl, fun i a ha => by rw [hnodes, ageAirs_getElem? ha], ?_⟩
  · rw [hline]
    exact markDue_getElem? ha
  · intro c turning
    refine ⟨fun h => ?_, fun hc hf => ?_, fun hf h => ?_⟩
    · have hcycle := climateCycle_of_rest (s := cycleMarked s) h
      rw [climateExpiry_eq, countStateReport_climate, countStateReport_outputs,
        countStateReport_flags _ 18 (by decide), countStateReport_flags _ 19 (by decide), hcycle]
      exact ⟨rfl, rfl, rfl, rfl⟩
    · rw [(climateExpiry_of_cooldown hc hf).1]
      refine ⟨rfl, rfl, rfl, eachZone_length s.climate (cooledLoop s.nodes.ageAirs), fun z l h1 hl => ?_⟩
      rw [← presentZero_ageAirs]
      exact eachZone_of_zone (cooledLoop s.nodes.ageAirs) h1 hl
    · rcases h with hc | ⟨hc, hsp⟩
      · exact (climateExpiry_of_cooldown hc hf).2
      · obtain ⟨sp, hsp⟩ := Option.ne_none_iff_exists'.1 hsp
        exact climateExpiry_outputs ⟨hf, hc, hsp⟩

/-! ## The heat loop of a zone (R130 to R132) -/

section Zone

variable {t : NodeTables} {z : Nat} (l : ZoneLoop) (p : ClimateParams) (db : Nat)

theorem address_of_zoneDb {a : AirRecord} (h : t.zoneDb z = some a) : a.node.address ≠ none := by
  have hz := List.find?_some h
  intro hnone
  simp [AirRecord.isZoneDb, hnone] at hz

/-- The temperature of a zone's ZONE_DB entry is judged after the ageing (R55). -/
theorem freshTemp_of_zoneDb {a : AirRecord} (h : t.zoneDb z = some a) :
    ∃ b, t.ageAirs.zoneDb z = some b ∧ b.freshTemp = if a.cycles ≤ 1 then a.lastTemp else none := by
  refine ⟨_, by rw [zoneDb_ageAirs, h, Option.map_some], ?_⟩
  rw [freshTemp_aged, if_neg (address_of_zoneDb h)]
  exact if_congr (by omega) rfl rfl

theorem run_of_fresh {a : AirRecord} {m : Int} (h : t.zoneDb z = some a) (hm : a.lastTemp = some m)
    (hc : a.cycles ≤ 1) : l.run t.ageAirs p db z = l.track p db m := by
  obtain ⟨b, hb, hfresh⟩ := freshTemp_of_zoneDb h
  rw [if_pos hc, hm] at hfresh
  rw [ZoneLoop.run, hb]
  dsimp only
  rw [hfresh]

theorem freshTemp_of_stale {a : AirRecord} (h : t.zoneDb z = some a) (hs : a.lastTemp = none ∨ 2 ≤ a.cycles) :
    ∃ b, t.ageAirs.zoneDb z = some b ∧ b.freshTemp = none := by
  obtain ⟨b, hb, hfresh⟩ := freshTemp_of_zoneDb h
  refine ⟨b, hb, hfresh.trans ?_⟩
  split
  · next hc => exact hs.resolve_right (by omega)
  · rfl

theorem run_of_stale {a : AirRecord} (h : t.zoneDb z = some a) (hs : a.lastTemp = none ∨ 2 ≤ a.cycles) :
    l.run t.ageAirs p db z = l.goStale p := by
  obtain ⟨b, hb, hfresh⟩ := freshTemp_of_stale h hs
  rw [ZoneLoop.run, hb]
  dsimp only
  rw [hfresh]

theorem run_of_none (h : t.zoneDb z = none) : l.run t.ageAirs p db z = .safe := by
  rw [ZoneLoop.run, zoneDb_ageAirs, h]
  rfl

end Zone

theorem goStale_eq (l : ZoneLoop) (p : ClimateParams) :
    l.goStale p =
      if l.mode ≠ .dropped ∧ min 31 (l.stale + 1) ≤ p.staleHold then
        { demand := some l.value, value := l.value, mode := .holding, stale := min 31 (l.stale + 1),
          measured := none }
      else
        { demand := some 0, value := 0, mode := .dropped, stale := min 31 (l.stale + 1),
          measured := none } := by
  unfold ZoneLoop.goStale
  by_cases h : l.mode = .dropped ∨ p.staleHold < satSucc 31 l.stale
  · have hnot : ¬(l.mode ≠ .dropped ∧ min 31 (l.stale + 1) ≤ p.staleHold) := by
      rintro ⟨hm, hs⟩
      exact absurd (h.resolve_left hm) (Nat.not_lt.2 hs)
    rw [if_pos h, if_neg hnot]
    rfl
  · obtain ⟨hm, hs⟩ := not_or.1 h
    rw [if_neg h, if_pos ⟨hm, Nat.not_lt.1 hs⟩]
    rfl

/-! ## ZONE_BLIND (R131) -/

/-- The zone `y` is dropped at this expiry. -/
def Drops (s : State) (y : Nat) : Prop :=
  1 ≤ y ∧ ∃ a m, s.nodes.zoneDb y = some a ∧ (a.lastTemp = none ∨ 2 ≤ a.cycles) ∧
    s.climate.zones[y - 1]? = some m ∧ m.mode ≠ .dropped ∧ s.climate.params.staleHold < min 31 (m.stale + 1)

theorem dropsNow_iff (l : ZoneLoop) (p : ClimateParams) :
    l.dropsNow p = true ↔ l.mode ≠ .dropped ∧ p.staleHold < min 31 (l.stale + 1) := by
  simp only [ZoneLoop.dropsNow, Bool.and_eq_true, bne_iff_ne, decide_eq_true_eq]
  rfl

theorem mem_blindRaise {l : ZoneLoop} {t : NodeTables} {p : ClimateParams} {z : Nat} {r : Raise} :
    r ∈ l.blindRaise t.ageAirs p z ↔
      r = (.zoneBlind, some z) ∧ ∃ a, t.zoneDb z = some a ∧ (a.lastTemp = none ∨ 2 ≤ a.cycles) ∧
        l.mode ≠ .dropped ∧ p.staleHold < min 31 (l.stale + 1) := by
  unfold ZoneLoop.blindRaise
  cases hz : t.zoneDb z with
  | none => simp [zoneDb_ageAirs, hz]
  | some a =>
    obtain ⟨b, hb, hfresh⟩ := freshTemp_of_zoneDb hz
    have hstale : b.freshTemp = none ↔ a.lastTemp = none ∨ 2 ≤ a.cycles := by
      rw [hfresh]
      split
      · next hc => exact ⟨.inl, fun h => h.resolve_right (by omega)⟩
      · next hc => exact ⟨fun _ => .inr (by omega), fun _ => rfl⟩
    rw [hb]
    dsimp only
    by_cases hd : (b.freshTemp.isNone && l.dropsNow p) = true
    · rw [if_pos hd]
      rw [Bool.and_eq_true, Option.isNone_iff_eq_none, hstale, dropsNow_iff] at hd
      exact ⟨fun hr => ⟨List.mem_singleton.1 hr, a, rfl, hd⟩, fun hr => List.mem_singleton.2 hr.1⟩
    · rw [if_neg hd]
      rw [Bool.and_eq_true, Option.isNone_iff_eq_none, hstale, dropsNow_iff] at hd
      refine iff_of_false List.not_mem_nil ?_
      rintro ⟨_, c, hc, hdrops⟩
      cases hc
      exact hd hdrops

/-- The raises of an expiry at which the loops run: HUMIDITY_BLIND, and ZONE_BLIND for each zone dropped. -/
theorem mem_loopRaises {s : State} {r : Raise} (h : r.1.number = 19) :
    r ∈ s.climate.loopRaises s.nodes.ageAirs ↔ ∃ y, Drops s y ∧ r = (.zoneBlind, some y) := by
  have hnot : r ∉ (if (wetBulb s.nodes.ageAirs).2.isNone then [((Event.humidityBlind, none) : Raise)] else []) := by
    intro hr
    split at hr
    · cases List.mem_singleton.1 hr
      exact absurd h (by decide)
    · cases hr
  rw [Climate.loopRaises, List.mem_append, or_iff_left hnot, List.mem_flatMap]
  constructor
  · rintro ⟨⟨i, m⟩, hm, hr⟩
    obtain ⟨j, hj⟩ := List.mem_iff_getElem?.1 hm
    rw [indexed_getElem?] at hj
    obtain ⟨m', hm', heq⟩ := Option.map_eq_some_iff.1 hj
    cases heq
    obtain ⟨hr, a, hz, hs, hd⟩ := mem_blindRaise.1 hr
    exact ⟨1 + j, ⟨by omega, a, m, hz, hs, by rwa [Nat.add_sub_cancel_left], hd⟩, hr⟩
  · rintro ⟨y, ⟨h1, a, m, hz, hs, hm, hd⟩, hr⟩
    refine ⟨(y, m), List.mem_iff_getElem?.2 ⟨y - 1, ?_⟩, mem_blindRaise.2 ⟨hr, a, hz, hs, hd⟩⟩
    rw [indexed_getElem?, hm, Option.map_some, Nat.add_sub_cancel' h1]

/-- The first raise of a clear flag gives it its detail (R175). -/
theorem foldl_latch_first {rs : List Raise} {u : EventUnit} {n : Nat}
    (hu : u.flags[n]? = some { set := false, detail := none }) (h : ∃ r ∈ rs, r.1.number = n) :
    ∃ r ∈ rs, r.1.number = n ∧
      (rs.foldl EventUnit.latch u).flags[n]? = some { set := true, detail := r.2 } := by
  have hset (rs : List Raise) : ∀ (u : EventUnit) (d : Option Nat),
      u.flags[n]? = some { set := true, detail := d } →
        (rs.foldl EventUnit.latch u).flags[n]? = some { set := true, detail := d } := by
    induction rs with
    | nil => exact fun _ _ hd => hd
    | cons r rs ih =>
      intro u d hd
      refine ih _ d ?_
      by_cases hr : r.1.number = n
      · subst hr; simp [EventUnit.latch, hd]
      · rw [latch_other _ _ _ hr, hd]
  induction rs generalizing u with
  | nil => obtain ⟨r, hr, _⟩ := h; cases hr
  | cons r rs ih =>
    by_cases hr : r.1.number = n
    · subst hr
      exact ⟨r, List.mem_cons_self, rfl, hset rs _ _ (latch_of_clear hu)⟩
    · obtain ⟨x, hx, hxn⟩ := h
      have hx : x ∈ rs := (List.mem_cons.1 hx).resolve_left fun he => hr (he ▸ hxn)
      obtain ⟨y, hy, hyn, hflag⟩ := ih (u := u.latch r) (by rw [latch_other _ _ _ hr, hu]) ⟨x, hx, hxn⟩
      exact ⟨y, List.mem_cons_of_mem _ hy, hyn, hflag⟩

theorem climateExpiry_zoneBlind {s : State} {sp : Setpoints} (h : LoopsRun s sp) :
    (climateExpiry s).events.flags[19]? =
      ((s.climate.loopRaises s.nodes.ageAirs).foldl EventUnit.latch s.events).flags[19]? := by
  rw [climateExpiry_eq, countStateReport_flags _ 19 (by decide), climateCycle_of_loopsRun h.cycleMarked,
    raiseAll_events]
  rfl

/-- Settles O29: the loop of each zone by its ZONE_DB entry once aged, and ZONE_BLIND by the zones dropped. -/
theorem heatLoopRuns : Obligations.HeatLoopRuns := by
  intro s sp z l hr hf hc hsp h1 hl p
  have hrun : LoopsRun s sp := ⟨hf, hc, hsp⟩
  have hzone : (climateExpiry s).climate.zones[z - 1]? = some (l.run s.nodes.ageAirs p sp.activeDb z) := by
    rw [climateExpiry_climate hrun]
    exact eachZone_of_zone (fun z l => l.run s.nodes.ageAirs p sp.activeDb z) h1 hl
  refine ⟨climateExpiry s, exec_climateCycleExpiry hr, fun a m ha hm hcycles => ?_, fun a ha hs => ?_,
    fun hnone => ?_, ?_⟩
  · rw [hzone, run_of_fresh l p _ ha hm hcycles]
    rfl
  · rw [hzone, run_of_stale l p _ ha hs, goStale_eq]
  · rw [hzone, run_of_none l p _ hnone]
    rfl
  · intro drops
    rw [climateExpiry_zoneBlind hrun]
    refine ⟨fun hno => foldl_latch_other _ _ _ fun r hmem hnumber => ?_, fun hz hclear => ?_⟩
    · obtain ⟨y, hy, _⟩ := (mem_loopRaises hnumber).1 hmem
      exact hno y hy
    · obtain ⟨r, hmem, hnumber, hflag⟩ := foldl_latch_first hclear
        ⟨(.zoneBlind, some z), (mem_loopRaises rfl).2 ⟨z, hz, rfl⟩, rfl⟩
      obtain ⟨y, hy, rfl⟩ := (mem_loopRaises hnumber).1 hmem
      exact ⟨y, hy, hflag⟩

end Sys2Proof.Machine.ClimateControl
end

section
/-! A minute tick: counts and ramps, the quarantines, and the reversal timer (R53, R103, R135, R136). -/

namespace Sys2Proof.Machine.DryingSchedule

open Sys2Proof.Machine.ClimateControl

/-! ## Counts and ramps (R103) -/

theorem scheduleMinute_of_resting {s : State}
    (h : s.schedule.charge.state = .idle ∨ s.schedule.charge.state = .complete) :
    (scheduleMinute s).schedule = s.schedule := by
  rcases h with h | h <;>
    simp only [scheduleMinute, h, Schedule.countAndRamp, Charge.countMinute, ChargeState.ramps,
      Bool.false_eq_true, if_false]

theorem scheduleMinute_of_hold {s : State} (h : s.schedule.charge.state = .hold) :
    (scheduleMinute s).schedule =
      { s.schedule with
        charge :=
          { s.schedule.charge with
            minute := satSucc 16777215 s.schedule.charge.minute,
            setpoints := s.schedule.charge.setpoints.map s.schedule.ramp } } := by
  simp only [scheduleMinute, h, Schedule.countAndRamp, Charge.countMinute, ChargeState.ramps, if_true]

/-- The active values, DB and depression. -/
def actives (e : Schedule) : Option (Nat × Nat) :=
  e.charge.setpoints.map fun p => (p.activeDb, p.activeDep)

theorem target_actives (p : Setpoints) (r : Option StepRecord) :
    ((p.target r).activeDb, (p.target r).activeDep) = (p.activeDb, p.activeDep) := by
  cases r <;> rfl

theorem leave_actives (e : Schedule) : actives e.leave = actives e := by
  simp only [actives, Schedule.leave, Charge.leaveStep, writeAmendment_charge]

theorem goTo_actives (e : Schedule) (k : Nat) : actives (e.goTo k) = actives e := by
  simp only [actives, Schedule.goTo, Option.map_map, Function.comp_def, target_actives]

theorem transition_actives (s : State) : actives (transition s).schedule = actives s.schedule := by
  by_cases h : s.schedule.hasNext = true
  · rw [transition_of_hasNext h]
    exact (goTo_actives _ _).trans (leave_actives _)
  · rw [transition_of_not_hasNext h]
    exact leave_actives _

theorem warmupTests_actives (s : State) : actives (warmupTests s).schedule = actives s.schedule := by
  unfold warmupTests
  split
  · rfl
  · split <;> rfl

theorem runningTests_actives (s : State) : actives (runningTests s).schedule = actives s.schedule := by
  unfold runningTests
  split
  · exact transition_actives s
  · split
    · dsimp only
      split
      · exact transition_actives _
      · rfl
    · rfl

theorem cooldownTest_actives (s : State) : actives (cooldownTest s).schedule = actives s.schedule := by
  unfold cooldownTest
  split
  · simp only [actives, completeCharge_charge]
  · rfl

/-- The tests of a minute tick leave the active values as they were ramped. -/
theorem scheduleMinute_actives (s : State) :
    actives (scheduleMinute s).schedule = actives s.schedule.countAndRamp := by
  unfold scheduleMinute
  dsimp only
  split
  · exact warmupTests_actives _
  · exact runningTests_actives _
  · exact cooldownTest_actives _
  all_goals rfl

theorem countMinute_setpoints (c : Charge) : c.countMinute.setpoints = c.setpoints := by
  unfold Charge.countMinute; split <;> rfl

/-- The active values move by the ramp rate at most. -/
theorem countAndRamp_actives {e : Schedule} {sp : Setpoints} (h : e.charge.setpoints = some sp) :
    ∃ db dep, actives e.countAndRamp = some (db, dep) ∧
      (db ≤ sp.activeDb + e.params.dbRamp ∧ sp.activeDb ≤ db + e.params.dbRamp) ∧
      dep ≤ sp.activeDep + e.params.depRamp ∧ sp.activeDep ≤ dep + e.params.depRamp := by
  unfold Schedule.countAndRamp actives
  split
  · exact ⟨_, _, by rw [h]; rfl, moveToward_bounds _ _ _, moveToward_bounds _ _ _⟩
  · exact ⟨sp.activeDb, sp.activeDep, by rw [countMinute_setpoints, h]; rfl, by omega, by omega⟩

theorem minuteTick_setpoints {s : State} {sp : Setpoints} (h : s.schedule.charge.setpoints = some sp) :
    ∃ sp', (minuteTick s).schedule.charge.setpoints = some sp' ∧
      (sp'.activeDb ≤ sp.activeDb + s.schedule.params.dbRamp ∧
        sp.activeDb ≤ sp'.activeDb + s.schedule.params.dbRamp) ∧
      sp'.activeDep ≤ sp.activeDep + s.schedule.params.depRamp ∧
        sp.activeDep ≤ sp'.activeDep + s.schedule.params.depRamp := by
  obtain ⟨db, dep, hactives, hbounds⟩ := countAndRamp_actives h
  rw [← scheduleMinute_actives, ← minuteTick_schedule] at hactives
  obtain ⟨sp', hsp', heq⟩ := Option.map_eq_some_iff.1 hactives
  cases heq
  exact ⟨sp', hsp', hbounds⟩

/-! ## The quarantines (R53) -/

/-- The last minute of a quarantine. -/
theorem quarantineTick_of_last {n : NodeRecord} (hs : n.state = .isolated) (hq : n.quarantine = some 1) :
    n.quarantineTick =
      { n with state := .unseen, window := [], misses := 0, lastSequence := none, quarantine := none } := by
  simp only [NodeRecord.quarantineTick, hs, hq, Nat.le_refl, if_true]
  exact TimersAndReset.release_of_isolated hs

theorem quarantineTick_of_more {n : NodeRecord} {q : Nat} (hs : n.state = .isolated)
    (hq : n.quarantine = some (q + 2)) : n.quarantineTick = { n with quarantine := some (q + 1) } := by
  simp only [NodeRecord.quarantineTick, hs, hq]
  rw [if_neg (by omega)]
  rfl

theorem quarantineTick_of_none {n : NodeRecord} (h : n.state ≠ .isolated ∨ n.quarantine = none) :
    n.quarantineTick = n := by
  unfold NodeRecord.quarantineTick
  split
  · next q hs hq => exact (h.elim (absurd hs) fun hn => nomatch hq.symm.trans hn)
  · rfl

theorem minuteTick_nodes (s : State) : (minuteTick s).nodes = s.nodes.quarantineTick := by
  rw [minuteTick, reversalMinute_nodes, quarantineMinute, scheduleMinute_nodes]

/-! ## The reversal timer (R135, R136) -/

/-- The fans have begun to coast, and the commanded values are formed. -/
def HasTurned (p : ClimateParams) (coast : FanState) (t : State) : Prop :=
  t.climate.fan = coast ∧ t.climate.reversalTimer = none ∧ t.climate.coastTimer = some p.coast ∧
    t.climate.vent = some 0 ∧ t.climate.spray = some 0 ∧
    (∀ l ∈ t.climate.zones, l.demand = none ∨ l.demand = some 0) ∧
    t.outputs.entries.map (Actuator.form t.climate) = t.outputs.entries

theorem reversalMinute_of_running {s : State} {left : Nat}
    (h : s.climate.reversalTimer = some (left + 2)) :
    reversalMinute s = { s with climate := { s.climate with reversalTimer := some (left + 1) } } := by
  simp only [reversalMinute, h]
  rw [if_neg (by omega)]
  rfl

theorem zeroIfPresent_demand (d : Option Nat) : zeroIfPresent d = none ∨ zeroIfPresent d = some 0 := by
  cases d
  · exact .inl rfl
  · exact .inr rfl

theorem reversalMinute_of_ended {s : State} {coast : FanState} (h : s.climate.reversalTimer = some 1)
    (hfan : s.climate.fan.coast = some coast) : HasTurned s.climate.params coast (reversalMinute s) := by
  simp only [reversalMinute, h]
  rw [if_pos (Nat.le_refl 1), reversalExpiry_of_running hfan h]
  refine ⟨rfl, rfl, rfl, rfl, rfl, fun l hl => ?_, form_idem _ _⟩
  obtain ⟨m, _, rfl⟩ := List.mem_map.1 hl
  exact zeroIfPresent_demand _

/-- Settles O33: the Schedule Engine counts and ramps, then the quarantines tick, then the reversal timer. -/
theorem minuteTickRamps : Obligations.MinuteTickRamps := by
  intro s hr e
  refine ⟨minuteTick s, exec_minuteTick hr, fun h => ?_, fun sp hsp => ?_, ?_⟩
  · rw [minuteTick_schedule, scheduleMinute_of_resting h]
  · refine ⟨fun h => ?_, ?_⟩
    · rw [minuteTick_schedule, scheduleMinute_of_hold h, hsp]
      rfl
    · obtain ⟨sp', hsp', ⟨hdb, hdb'⟩, hdep, hdep'⟩ := minuteTick_setpoints hsp
      exact ⟨sp', hsp', hdb, hdb', hdep, hdep'⟩
  · intro ticked
    have hticked (n : NodeRecord) (h : n.quarantine ≠ some 0) : n.quarantineTick = ticked n := by
      dsimp only [ticked]
      split
      · next hs hq => exact quarantineTick_of_last hs hq
      · next q hs hq => exact quarantineTick_of_more hs hq
      · next hone hmore =>
        refine quarantineTick_of_none (or_iff_not_imp_left.2 fun hs => ?_)
        have hs := not_not.1 hs
        match hq : n.quarantine with
        | none => rfl
        | some 0 => exact absurd hq h
        | some 1 => exact absurd hq (hone hs)
        | some (q + 2) => exact absurd hq (hmore q hs)
    rw [minuteTick_nodes]
    refine ⟨rfl, fun i p hp hq => ?_, fun i a ha hq => ?_, fun hgoes => ?_⟩
    · rw [← hticked _ hq, NodeTables.quarantineTick, List.getElem?_map, hp]; rfl
    · rw [← hticked _ hq, NodeTables.quarantineTick, List.getElem?_map, ha]; rfl
    · rw [minuteTick_schedule] at hgoes
      obtain ⟨hfan, hreversal, hcoast, hparams⟩ := scheduleMinute_fans s hgoes
      intro f g turned
      refine ⟨fun h => ?_, fun left h => ?_, fun h hf => ?_, fun h hf => ?_⟩
      · have hstopped := hreversal.trans h
        rw [show g = _ from minuteTick_climate_of_stopped hstopped]
        exact ⟨hfan, hstopped, hcoast⟩
      · have hrun : minuteTick s = _ :=
          reversalMinute_of_running (s := quarantineMinute (scheduleMinute s)) (hreversal.trans h)
        rw [show g = _ from congrArg State.climate hrun]
        exact ⟨hfan, rfl, hcoast⟩
      · show HasTurned s.climate.params .coastR (minuteTick s)
        rw [← hparams]
        exact reversalMinute_of_ended (s := quarantineMinute (scheduleMinute s)) (hreversal.trans h)
          (congrArg FanState.coast (hfan.trans hf))
      · show HasTurned s.climate.params .coastF (minuteTick s)
        rw [← hparams]
        exact reversalMinute_of_ended (s := quarantineMinute (scheduleMinute s)) (hreversal.trans h)
          (congrArg FanState.coast (hfan.trans hf))

end Sys2Proof.Machine.DryingSchedule
end

section
/-! LINE RESET and the abandonment it begins (R18, R21, R38, R61, R68, R173). -/

namespace Sys2Proof.Machine.Resets

open Sys2Proof.Machine.ProbeReception

/-! ## The transaction abandoned (R18, R21) -/

theorem abandon_of_sending {p : Plp} (h : p.phase = .sending) :
    p.abandon = { p with request := none, responseTimer := none, poll := p.poll.take p.pollNext } := by
  rw [Plp.abandon, h]

theorem abandon_of_lag {p : Plp} (h : p.phase = .lag) :
    p.abandon = { p with request := none, responseTimer := none } := by
  rw [Plp.abandon, h]

theorem abandon_of_not_driven {p : Plp} (h : ¬(p.phase = .sending ∨ p.phase = .lag)) :
    p.abandon = p.toIdle := by
  unfold Plp.abandon
  split
  · next hs => exact absurd (.inl hs) h
  · next hl => exact absurd (.inr hl) h
  all_goals rfl

theorem abandonCondition_eq (p : Plp) (c : LineCondition) :
    abandonCondition p c =
      if c = .idle then .idle else if p.phase = .sending ∨ p.phase = .lag then .abandoning else .idle := by
  unfold abandonCondition
  cases p.phase <;> rfl

theorem abandon_phase (p : Plp) :
    p.abandon.phase = if p.phase = .sending ∨ p.phase = .lag then p.phase else .idle := by
  unfold Plp.abandon
  split <;> simp [*, Plp.toIdle]

theorem abandon_request (p : Plp) : p.abandon.request = none ∧ p.abandon.responseTimer = none := by
  unfold Plp.abandon
  split <;> exact ⟨rfl, rfl⟩

/-- In SENDING the character being sent is the last one left (R18). -/
theorem pollOut_of_abandoned {s t : State} (ht : t.plp = s.plp.abandon) (hheld : t.resetHeld = s.resetHeld)
    (h : s.plp.phase = .sending) (hplaced : s.pollPlaced) : t.pollOut = s.pollOut.take 1 := by
  have h1 : 1 ≤ s.plp.pollNext := (hplaced h).1
  rw [State.pollOut, State.pollOut, hheld, ht, abandon_of_sending h, if_pos h, if_pos h]
  split
  · rfl
  · rw [List.drop_take, Nat.sub_sub_self h1]

theorem pollPlaced_of_abandoned {s t : State} (ht : t.plp = s.plp.abandon) (h : s.plp.phase = .sending)
    (hplaced : s.pollPlaced) : t.pollPlaced := by
  obtain ⟨h1, hnext, hage⟩ := hplaced h
  intro _
  rw [ht, abandon_of_sending h]
  exact ⟨h1, by rw [List.length_take]; dsimp only; omega, hage⟩

/-! ## LINE RESET (R38, R61, R68, R173) -/

theorem exec_lineReset {s : State} {src tag : Byte} {args : List Byte}
    (h : s.carries (namedCommand src 14#8 tag args)) :
    exec (.lineReset src tag args) s = .next (finish src 14#8 tag (.ok (lineResetEffect s))) :=
  congrArg Host.Outcome.next (namedRow_of_carries h lineReset)

/-- A record under a reset command (R60, R61). -/
theorem renew_of_configured {n : NodeRecord} {a : Nat} (h : n.address = some a) :
    n.renew = { NodeRecord.blank with address := some a, state := .unseen } := by
  rw [NodeRecord.renew, h]
  rfl

theorem renew_of_empty {n : NodeRecord} (h : n.address = none) : n.renew = n := by
  rw [NodeRecord.renew, h]

theorem exec_abandonmentComplete {s : State} (h : s.resetHeld = false) :
    exec .abandonmentComplete s = .next (finishAbandonment s) :=
  congrArg Host.Outcome.next (awake_of_high h _)

/-- Settles O38: each block's part of LINE RESET, and the phases in which DE is kept. -/
theorem lineResetAndAbandonment : Obligations.LineResetAndAbandonment := by
  refine ⟨fun s src tag args hc => ?_, fun s hr => ⟨fun h => ?_, fun h => ?_⟩⟩
  · have hplp : (lineResetEffect s).plp = s.plp.abandon := rfl
    have hphase := abandon_phase s.plp
    refine ⟨lineResetEffect s, exec_lineReset hc, rfl, (abandon_request _).1, (abandon_request _).2, hphase,
      fun hs => ?_, fun hs hplaced => ⟨pollOut_of_abandoned hplp rfl hs hplaced, fun raw => ?_⟩, ?_, rfl, rfl,
      fun i p hp => ?_, fun i p hp => ?_⟩
    · have hno : s.plp.abandon.phase ≠ .sending := by
        rw [hphase]
        split
        · exact hs
        · nofun
      rw [State.pollOut, hplp, if_neg hno, ite_self]
    · rw [if_pos (.inl hs), hs] at hphase
      obtain ⟨u, hu, hframe, huphase, hout⟩ :=
        pollPhasesRun.1 (lineResetEffect s) raw hc.1 hphase (pollPlaced_of_abandoned hplp hs hplaced)
      have hheld : u.resetHeld = false := (congrArg State.resetHeld hframe).trans hc.1
      refine ⟨u, hu, by rw [de_eq hheld, huphase]; rfl, ?_⟩
      rw [hout, pollOut_of_abandoned hplp rfl hs hplaced, hplp, abandon_of_sending hs]
    · show s.line.lineReset s.plp s.lineParams.sweepPeriod = _
      rw [Arbiter.lineReset, abandonCondition_eq]
      rfl
    · show (s.nodes.probes.map ProbeRecord.lineReset)[i]? = _
      rw [List.getElem?_map, hp]
      cases ha : p.node.address with
      | none => exact congrArg (fun n => some { p with node := n }) (renew_of_empty ha)
      | some a => exact congrArg (fun n => some { p with node := n }) (renew_of_configured ha)
    · show (s.nodes.airs.map AirRecord.lineReset)[i]? = _
      rw [List.getElem?_map, hp]
      cases ha : p.node.address with
      | none => exact congrArg (fun n => some { p with node := n }) (renew_of_empty ha)
      | some a => exact congrArg (fun n => some { p with node := n }) (renew_of_configured ha)
  · rw [exec_abandonmentComplete hr, finishAbandonment, if_pos h]
    rfl
  · rw [exec_abandonmentComplete hr, finishAbandonment, if_neg h]

end Sys2Proof.Machine.Resets
end

section
/-! RESTART: the REPLY it offers, the moment it takes effect, and its scope (R158, R165, R172). -/

namespace Sys2Proof.Machine.Resets

/-! ## The row and RESTART_EFFECT (R158, R172) -/

theorem exec_restart {s : State} {src tag : Byte} {args : List Byte}
    (h : s.carries (namedCommand src 15#8 tag args)) :
    exec (.restart src tag args) s =
      .next (takeRestart (namedCommand src 15#8 tag args) src 15#8 tag s) :=
  congrArg Host.Outcome.next (commandRow_of_carries h _)

theorem roomForReply_iff (p : LoopPort) : p.roomForReply = true ↔ p.insertQueue.length < 16 :=
  decide_eq_true_iff

theorem exec_restartEffect {s : State} (h : s.resetHeld = false) :
    exec .restartEffect s = .next (restartNow s) :=
  congrArg Host.Outcome.next (awake_of_high h _)

theorem restartNow_of_reply {s : State} {f : LoopFrame} {e : InsertEntry} {more : List InsertEntry}
    (h : s.command.restarting = true) (hout : s.loop.out = .sending f .inserted)
    (hq : s.loop.insertQueue = e :: more) (he : e.restartReply = true) :
    restartNow s = restartEffect { s with loop := { s.loop with out := .spacing } } := by
  rw [restartNow, if_pos h, hout, hq]
  simp only [List.head?_cons, Option.map_some, he, if_true]

theorem restartNow_of_idle {s : State} (h : s.command.restarting = true) (hout : s.loop.out = .idle) :
    restartNow s = restartEffect s := by
  rw [restartNow, if_pos h, hout]

/-! ## The effect (R39, R60, R149, R151, R165) -/

/-- The whole machine once RESTART has taken effect with a valid strap. -/
theorem restartEffect_of_valid {s : State} (h1 : 1 ≤ s.loop.strap) (h2 : s.loop.strap ≤ 30) :
    restartEffect s =
      formAll
        { s with
          plp := s.plp.abandon, line := s.line.restart s.plp s.lineParams s.outputs.entries,
          nodes := s.nodes.restart, survey := s.survey.cut, evaluator := { latest := none, history := [] },
          schedule := { s.schedule with charge := s.schedule.charge.restart },
          climate := s.climate.safeMode,
          outputs := { s.outputs with entries := s.outputs.entries.map Actuator.restart },
          loop := s.loop.restart, command := s.command.restart, events := s.events.restart } := by
  have hno : ¬(s.loop.strap = 0 ∨ s.loop.strap = Config.broadcast) := by
    rw [show Config.broadcast = 31 from rfl]
    omega
  rw [restartEffect, strapRaise, if_neg hno, raiseAll_nil]

theorem stationOf_of_valid {n : Nat} (h1 : 1 ≤ n) (h2 : n ≤ 30) : stationOf n = n := by
  rw [stationOf, show Config.broadcast = 31 from rfl, if_neg (by omega)]

theorem loopIn_restart (rx : LoopRx) (i : LoopIn) :
    i.restart rx = if i = .ready ∧ rx.inCharacter = false then .ready else .waiting := by
  cases i with
  | ready => cases hc : rx.inCharacter <;> simp [LoopIn.restart, hc]
  | waiting => rfl
  | frame chars framing => rfl

theorem loop_restart {p : LoopPort} (h1 : 1 ≤ p.strap) (h2 : p.strap ≤ 30) :
    p.restart =
      { p with
        station := p.strap, repeatQueue := [], insertQueue := [], run := 0, reportCount := 0,
        reportGap := false, passGap := false,
        loopIn := if p.loopIn = .ready ∧ p.loopRx.inCharacter = false then .ready else .waiting,
        out := p.out.restart } := by
  rw [LoopPort.restart, stationOf_of_valid h1 h2, loopIn_restart]

theorem restartTimers_getElem? {acts : List Actuator} {i : Nat} {a : Actuator} (ha : acts[i]? = some a)
    (timers : List (Option Nat)) (interval : Nat) :
    (restartTimers acts timers interval)[i]? =
      (timers[i]?).map fun w => if a.address = none then w else some interval := by
  rw [restartTimers, List.getElem?_map, indexed_getElem?, Option.map_map]
  congr 1
  funext w
  simp only [Function.comp_apply, Nat.zero_add, ha]
  cases a.address <;> rfl

theorem restartRetries_getElem? {acts : List Actuator} {i : Nat} {a : Actuator} (ha : acts[i]? = some a)
    (waits : List Bool) :
    (restartRetries acts waits)[i]? =
      (waits[i]?).map fun w => if a.address = none then w else false := by
  rw [restartRetries, List.getElem?_map, indexed_getElem?, Option.map_map]
  congr 1
  funext w
  simp only [Function.comp_apply, Nat.zero_add, ha]
  cases a.address <;> rfl

theorem restart_probe {p : ProbeRecord} {a : Nat} (h : p.node.address = some a) :
    p.restart =
      { p with
        node := { NodeRecord.blank with address := some a, state := .unseen }, reading := none } := by
  rw [ProbeRecord.restart, h, renew_of_configured h]
  rfl

theorem restart_air {p : AirRecord} {a : Nat} (h : p.node.address = some a) :
    p.restart =
      { p with
        node := { NodeRecord.blank with address := some a, state := .unseen }, lastTemp := none,
        cycles := 255 } := by
  rw [AirRecord.restart, h, renew_of_configured h]
  rfl

/-- Safe mode with the fans stopped makes no demand (R128, R143). -/
theorem safeMode_demandOf (c : Climate) (f : ActFunction) : c.safeMode.demandOf f = none := by
  cases f with
  | heat z =>
    have hzone : c.safeMode.heatDemand z = none := by
      unfold Climate.heatDemand
      split
      · next l hl => rw [List.eq_of_mem_replicate (List.mem_of_getElem? hl)]; rfl
      · rfl
    rw [Climate.demandOf, hzone]
    rfl
  | vent => rfl
  | spray => rfl
  | fan => rfl

/-- Settles O37: the row, RESTART_EFFECT by loop-out, and the effect block by block. -/
theorem restartTakesEffect : Obligations.RestartTakesEffect := by
  refine ⟨fun s src tag args hc => ⟨fun h => ?_, fun h => ?_⟩, fun s f e more hr h hout hq he => ?_,
    fun s hr h hout => ?_, fun s h1 h2 => ?_⟩
  · rw [exec_restart hc, takeRestart, if_pos ((roomForReply_iff _).2 h)]
    rfl
  · rw [exec_restart hc, takeRestart, if_neg (mt (roomForReply_iff _).1 (Nat.not_lt.2 h))]
  · rw [exec_restartEffect hr, restartNow_of_reply h hout hq he]
  · rw [exec_restartEffect hr, restartNow_of_idle h hout]
  · rw [restartEffect_of_valid h1 h2]
    refine ⟨rfl, rfl, rfl, ?_, rfl, rfl, rfl, rfl, ?_, ?_, ?_, ⟨fun h => abandon_of_sending h,
      fun h => abandon_of_lag h, fun h => abandon_of_not_driven h, ?_⟩,
      fun i a ha => ⟨restartTimers_getElem? ha _ _, restartRetries_getElem? ha _⟩, rfl, rfl, rfl,
      fun i p a hp ha => ?_, fun i p a hp ha => ?_, fun i a ha => ?_⟩
    · show s.loop.restart = _
      rw [loop_restart h1 h2]
      cases s.loop.out <;> rfl
    · show s.survey.cut.map = _
      unfold Survey.cut
      split <;> rfl
    · show s.survey.cut.condition = _
      unfold Survey.cut
      split
      · assumption
      · rfl
    · show s.survey.cut.count = _
      unfold Survey.cut
      split <;> rfl
    · show s.line.restart s.plp s.lineParams s.outputs.entries = _
      rw [Arbiter.restart, abandonCondition_eq]
      rfl
    · show (s.nodes.probes.map ProbeRecord.restart)[i]? = _
      rw [List.getElem?_map, hp, Option.map_some, restart_probe ha]
    · show (s.nodes.airs.map AirRecord.restart)[i]? = _
      rw [List.getElem?_map, hp, Option.map_some, restart_air ha]
    · show ((s.outputs.entries.map Actuator.restart).map (Actuator.form s.climate.safeMode))[i]? = _
      rw [List.getElem?_map, List.getElem?_map, ha, Option.map_some, Option.map_some, ActuatorOutputs.form_eq,
        ActuatorOutputs.form_commanded_safe rfl (safeMode_demandOf _ _)]
      rfl

end Sys2Proof.Machine.Resets
end

section
/-! The glitch filter and the receiver of the probe line, sixteenth by sixteenth (R1 to R3, R19). -/

namespace Sys2Proof.Machine.GlitchFilter

open Sys2Proof.Machine.ProbeReception

/-! ## The filter (R2) -/

section Filter

variable (w : Nat)

theorem filterStep_same (f : FilterState) : filterStep w f f.level = { level := f.level, held := 0 } :=
  if_pos rfl

theorem filterStep_short {w k : Nat} (l : Bool) (h : k + 1 < w) :
    filterStep w { level := l, held := k } (!l) = { level := l, held := k + 1 } := by
  rw [filterStep, if_neg (Bool.not_ne_self _), if_neg (Nat.not_le.2 h)]

theorem filterStep_full {w k : Nat} (l : Bool) (h : w ≤ k + 1) :
    filterStep w { level := l, held := k } (!l) = { level := !l, held := 0 } := by
  rw [filterStep, if_neg (Bool.not_ne_self _), if_pos h]

/-- The filter after all the sixteenths. -/
def settled (f : FilterState) (raw : List Bool) : FilterState := raw.foldl (filterStep w) f

theorem filtered_append (f : FilterState) (l m : List Bool) :
    filtered w f (l ++ m) = filtered w f l ++ filtered w (settled w f l) m := by
  induction l generalizing f with
  | nil => rfl
  | cons raw l ih => rw [List.cons_append, filtered, filtered, ih]; rfl

theorem settled_append (f : FilterState) (l m : List Bool) :
    settled w f (l ++ m) = settled w (settled w f l) m := List.foldl_append

theorem settled_same (l : Bool) (n : Nat) :
    settled w { level := l, held := 0 } (List.replicate n l) = { level := l, held := 0 } := by
  induction n with
  | zero => rfl
  | succ n ih =>
    rw [List.replicate_succ]
    exact (congrArg (settled w · _) (filterStep_same w { level := l, held := 0 })).trans ih

theorem filtered_same (l : Bool) (n : Nat) :
    filtered w { level := l, held := 0 } (List.replicate n l) = List.replicate n l := by
  induction n with
  | zero => rfl
  | succ n ih =>
    rw [List.replicate_succ, filtered, filterStep_same w { level := l, held := 0 }, ih]

/-- While a pulse is shorter than the width it is held. -/
theorem settled_pulse {w : Nat} (l : Bool) {k : Nat} (h : k < w) :
    settled w { level := l, held := 0 } (List.replicate k (!l)) = { level := l, held := k } := by
  induction k with
  | zero => rfl
  | succ k ih =>
    rw [List.replicate_succ', settled_append, ih (by omega)]
    exact filterStep_short l h

theorem filtered_pulse {w : Nat} (l : Bool) {k : Nat} (h : k < w) :
    filtered w { level := l, held := 0 } (List.replicate k (!l)) = List.replicate k l := by
  induction k with
  | zero => rfl
  | succ k ih =>
    rw [List.replicate_succ', filtered_append, ih (by omega), settled_pulse l (by omega), filtered,
      filterStep_short l h, List.replicate_succ']
    rfl

/-- A pulse of the full width is accepted, and what follows it at the new level shows at once. -/
theorem settled_accepted {w : Nat} (hw : 1 ≤ w) (l : Bool) (m : Nat) :
    settled w { level := l, held := 0 } (List.replicate (w + m) (!l)) = { level := !l, held := 0 } := by
  rw [show w + m = (w - 1) + (m + 1) by omega, List.replicate_add, settled_append,
    settled_pulse l (by omega), List.replicate_succ]
  exact (congrArg (settled w · _) (filterStep_full l (k := w - 1) (by omega))).trans
    (settled_same w _ m)

theorem filtered_accepted {w : Nat} (hw : 1 ≤ w) (l : Bool) (m : Nat) :
    filtered w { level := l, held := 0 } (List.replicate (w + m) (!l)) =
      List.replicate (w - 1) l ++ List.replicate (m + 1) (!l) := by
  rw [show w + m = (w - 1) + (m + 1) by omega, List.replicate_add, filtered_append,
    filtered_pulse l (by omega), settled_pulse l (by omega), List.replicate_succ, filtered,
    filterStep_full l (k := w - 1) (by omega), filtered_same]

/-- A level held for the width or more: the filter delays it by the width less one. -/
theorem settled_level {w : Nat} (hw : 1 ≤ w) (p b : Bool) (m : Nat) :
    settled w { level := p, held := 0 } (List.replicate (w + m) b) = { level := b, held := 0 } := by
  by_cases h : b = p
  · rw [h, settled_same]
  · rw [Bool.eq_not_of_ne h, settled_accepted hw]

theorem filtered_level {w : Nat} (hw : 1 ≤ w) (p b : Bool) (m : Nat) :
    filtered w { level := p, held := 0 } (List.replicate (w + m) b) =
      List.replicate (w - 1) p ++ List.replicate (m + 1) b := by
  by_cases h : b = p
  · rw [h, filtered_same, List.replicate_append_replicate]
    congr 1
    omega
  · rw [Bool.eq_not_of_ne h, filtered_accepted hw]

/-- Bits of sixteen sixteenths each, and a last level for the width and more, reach the receiver delayed. -/
theorem filtered_bits {w : Nat} (hw : 1 ≤ w) (hw' : w ≤ 8) (p : Bool) (bits : List Bool) (e : Bool) (m : Nat) :
    filtered w { level := p, held := 0 } (bits.flatMap (List.replicate 16) ++ List.replicate (w + m) e) =
        List.replicate (w - 1) p ++ bits.flatMap (List.replicate 16) ++ List.replicate (m + 1) e ∧
      settled w { level := p, held := 0 } (bits.flatMap (List.replicate 16) ++ List.replicate (w + m) e) =
        { level := e, held := 0 } := by
  induction bits generalizing p with
  | nil => exact ⟨by simpa using filtered_level hw p e m, settled_level hw p e m⟩
  | cons b bits ih =>
    have h16 : 16 = w + (16 - w) := by omega
    have hlevel : settled w { level := p, held := 0 } (List.replicate 16 b) = { level := b, held := 0 } := by
      rw [h16, settled_level hw]
    have hblock : List.replicate (16 - w + 1) b ++ List.replicate (w - 1) b = List.replicate 16 b := by
      rw [List.replicate_append_replicate]
      congr 1
      omega
    rw [List.flatMap_cons, List.append_assoc, filtered_append, settled_append, hlevel]
    refine ⟨?_, (ih b).2⟩
    rw [(ih b).1, show filtered w _ (List.replicate 16 b) = _ by rw [h16, filtered_level hw], ← hblock]
    simp only [List.append_assoc]

end Filter

/-! ## Runs in which no character is received -/

/-- From a state over these levels to a state, with nothing given out on the way. -/
inductive Quiet {σ γ : Type} (step : σ → Bool → σ × Option γ) : σ → List Bool → σ → Prop
  | nil (x : σ) : Quiet step x [] x
  | cons {x y z : σ} {b : Bool} {l : List Bool} (h : step x b = (y, none)) (t : Quiet step y l z) :
    Quiet step x (b :: l) z

namespace Quiet

variable {σ γ : Type} {step : σ → Bool → σ × Option γ} {x y z : σ}

theorem one {b : Bool} (h : step x b = (y, none)) : Quiet step x [b] y := .cons h (.nil y)

theorem append {l m : List Bool} (h : Quiet step x l y) (t : Quiet step y m z) : Quiet step x (l ++ m) z := by
  induction h with
  | nil => exact t
  | cons h _ ih => exact .cons h (ih t)

theorem stays {b : Bool} (h : step x b = (x, none)) (n : Nat) : Quiet step x (List.replicate n b) x := by
  induction n with
  | zero => exact .nil x
  | succ n ih => exact .cons h ih

end Quiet

/-! ## The phases of the receiver over filtered levels (R1, R3) -/

/-- The receiver's phase at one filtered level. -/
def phaseStep (muted : Bool) (p : RxPhase) (level : Bool) : RxPhase × Option (LineBits × Bool) :=
  p.next level muted

theorem phase_hunting (muted : Bool) (n : Nat) :
    Quiet (phaseStep muted) .hunting (List.replicate n true) .hunting := .stays rfl n

theorem phase_skipping (muted : Bool) (levels : List Bool) {age : Nat} (h : age + levels.length < 168) :
    Quiet (phaseStep muted) (.skipping age) levels (.skipping (age + levels.length)) := by
  induction levels generalizing age with
  | nil => exact .nil _
  | cons level levels ih =>
    rw [List.length_cons, show age + (levels.length + 1) = age + 1 + levels.length by omega]
    rw [List.length_cons] at h
    refine .cons ?_ (ih (by omega))
    rw [phaseStep, RxPhase.next, if_neg (by rw [show stopAge = 168 from rfl]; omega)]

theorem character_next {age : Nat} (h : age + 1 < 168) (bits : List Bool) (level muted : Bool) :
    phaseStep muted (.character age bits) level =
      (.character (age + 1) (if samplesAt (age + 1) then bits ++ [level] else bits), none) := by
  rw [phaseStep, RxPhase.next, if_neg (by rw [show stopAge = 168 from rfl]; omega)]

/-- Between two samples the character's age alone changes. -/
theorem phase_unsampled (muted level : Bool) (bits : List Bool) {age n : Nat} (h : age + n < 168)
    (hs : ∀ j < n, samplesAt (age + 1 + j) = false) :
    Quiet (phaseStep muted) (.character age bits) (List.replicate n level) (.character (age + n) bits) := by
  induction n generalizing age with
  | zero => exact .nil _
  | succ n ih =>
    rw [show age + (n + 1) = age + 1 + n by omega]
    refine .cons ?_ (ih (by omega) fun j hj => ?_)
    · rw [character_next (by omega), hs 0 (by omega), if_neg Bool.false_ne_true]
    · rw [show age + 1 + 1 + j = age + 1 + (j + 1) by omega]
      exact hs _ (by omega)

theorem samplesAt_eq_false {age : Nat} (h : age < 16 ∨ age % 16 ≠ 8) : samplesAt age = false := by
  rw [samplesAt, Bool.and_eq_false_iff, decide_eq_false_iff_not, beq_eq_false_iff_ne]
  omega

theorem samplesAt_eq_true {age : Nat} (h : 16 ≤ age) (h8 : age % 16 = 8) : samplesAt age = true := by
  rw [samplesAt, h8, decide_eq_true h]
  rfl

/-- A data or parity bit is sampled eight sixteenths into it (R1). -/
theorem phase_bit (muted b : Bool) (bits : List Bool) {k : Nat} (h : k < 9) :
    Quiet (phaseStep muted) (.character (16 * k + 15) bits) (List.replicate 16 b)
      (.character (16 * (k + 1) + 15) (bits ++ [b])) := by
  have hbefore := phase_unsampled muted b bits (age := 16 * k + 15) (n := 8) (by omega)
    fun j hj => samplesAt_eq_false (by omega)
  have hafter := phase_unsampled muted b (bits ++ [b]) (age := 16 * k + 15 + 8 + 1) (n := 7) (by omega)
    fun j hj => samplesAt_eq_false (by omega)
  have hsample := character_next (age := 16 * k + 15 + 8) (by omega) bits b muted
  rw [samplesAt_eq_true (by omega) (by omega), if_pos rfl] at hsample
  exact hbefore.append (.cons hsample hafter)

theorem phase_bits (muted : Bool) (done bits : List Bool) {k : Nat} (h : k + bits.length ≤ 9) :
    Quiet (phaseStep muted) (.character (16 * k + 15) done) (bits.flatMap (List.replicate 16))
      (.character (16 * (k + bits.length) + 15) (done ++ bits)) := by
  induction bits generalizing k done with
  | nil => simpa using Quiet.nil _
  | cons b bits ih =>
    rw [List.length_cons] at h
    have hrest := ih (done ++ [b]) (k := k + 1) (by omega)
    rw [List.append_assoc, List.singleton_append, show k + 1 + bits.length = k + (b :: bits).length by
      rw [List.length_cons]; omega] at hrest
    exact (phase_bit muted b done (by omega)).append hrest

/-- From the start edge to the sixteenth before the stop bit is sampled, with DE low. -/
theorem phase_character (bits : List Bool) (e : Bool) (h : bits.length = 9) :
    Quiet (phaseStep false) .hunting (([false] ++ bits).flatMap (List.replicate 16) ++ List.replicate 8 e)
      (.character 167 bits) := by
  have hstart : Quiet (phaseStep false) .hunting (List.replicate 16 false) (.character 15 []) :=
    .cons rfl (phase_unsampled false false [] (age := 0) (n := 15) (by omega)
      fun j hj => samplesAt_eq_false (by omega))
  have hbits := phase_bits false [] bits (k := 0) (by omega)
  rw [List.nil_append, h] at hbits
  have hstop := phase_unsampled false e bits (age := 159) (n := 8) (by omega)
    fun j hj => samplesAt_eq_false (by omega)
  rw [List.flatMap_append, List.append_assoc]
  exact hstart.append (hbits.append hstop)

/-- The same drawing with DE high (R3). -/
theorem phase_skipped (bits : List Bool) (e : Bool) (h : bits.length = 9) :
    Quiet (phaseStep true) .hunting (([false] ++ bits).flatMap (List.replicate 16) ++ List.replicate 8 e)
      (.skipping 167) := by
  have hlen : (List.replicate 15 false ++ (bits.flatMap (List.replicate 16) ++ List.replicate 8 e)).length =
      167 := by
    simp [h]
  have hrun := phase_skipping true
    (List.replicate 15 false ++ (bits.flatMap (List.replicate 16) ++ List.replicate 8 e)) (age := 0)
    (by rw [hlen]; omega)
  rw [hlen] at hrun
  exact .cons (y := .skipping 0) rfl hrun

/-! ## The receiver (R1, R2, R19) -/

/-- The receiver at one raw level. -/
def rxStep (width : Nat) (muted : Bool) (r : Receiver) (raw : Bool) : Receiver × Option (LineBits × Bool) :=
  r.step width muted raw

/-- Looks for a start bit on an idle line. -/
def ready : Receiver := { filter := .atIdle, phase := .hunting }

theorem rxStep_of_phase {p : RxPhase} (h : p ≠ .powerOn) (width : Nat) (muted raw : Bool) (f : FilterState) :
    rxStep width muted { filter := f, phase := p } raw =
      ({ filter := filterStep width f raw, phase := (phaseStep muted p (filterStep width f raw).level).1 },
        (phaseStep muted p (filterStep width f raw).level).2) := by
  cases p with
  | powerOn => exact absurd rfl h
  | waiting => rfl
  | hunting => rfl
  | character age bits => rfl
  | skipping age => rfl

theorem phaseStep_ne_powerOn {p : RxPhase} (h : p ≠ .powerOn) (muted level : Bool) :
    (phaseStep muted p level).1 ≠ .powerOn := by
  unfold phaseStep RxPhase.next afterStop
  cases p with
  | powerOn => exact absurd rfl h
  | waiting => dsimp only; split <;> nofun
  | hunting =>
    dsimp only
    split
    · nofun
    · split <;> nofun
  | character age bits =>
    dsimp only
    split
    · split <;> nofun
    · nofun
  | skipping age =>
    dsimp only
    split
    · split <;> nofun
    · nofun

/-- The receiver over raw levels, from its phase over the filtered ones. -/
theorem rx_of_phase {w : Nat} {muted : Bool} {p q : RxPhase} {f : FilterState} {raw levels : List Bool}
    (hp : p ≠ .powerOn) (hl : filtered w f raw = levels) (h : Quiet (phaseStep muted) p levels q) :
    Quiet (rxStep w muted) { filter := f, phase := p } raw { filter := settled w f raw, phase := q } := by
  induction raw generalizing f p levels with
  | nil => subst hl; cases h; exact .nil _
  | cons b raw ih =>
    subst hl
    cases h with
    | cons hstep hrest =>
      refine .cons ?_ (ih ?_ rfl hrest)
      · rw [rxStep_of_phase hp, hstep]
      · have hnext := phaseStep_ne_powerOn hp muted (filterStep w f b).level
        rwa [hstep] at hnext

end Sys2Proof.Machine.GlitchFilter
end

section
/-! The raw line at the Probe Line Port: characters drawn on it, pulses, framing faults, DE and power-on (R1 to R3,
R19). -/

namespace Sys2Proof.Machine.GlitchFilter

open Sys2Proof.Machine.ProbeReception Sys2Proof.Machine.OutcomeDelivery

/-! ## Runs of the receiver -/

section Runs

variable (w : Nat) (muted : Bool)

theorem ready_idle (n : Nat) : Quiet (rxStep w muted) ready (List.replicate n true) ready := .stays rfl n

/-- One idle sixteenth ends the power-on wait (R19). -/
theorem powerOn_idle {n : Nat} (h : 1 ≤ n) :
    Quiet (rxStep w muted) .powerOn (List.replicate n true) ready := by
  obtain ⟨m, rfl⟩ := Nat.exists_eq_add_of_le' h
  exact .cons rfl (ready_idle w muted m)

theorem powerOn_active (n : Nat) :
    Quiet (rxStep w muted) .powerOn (List.replicate n false) .powerOn := .stays rfl n

theorem filtered_glitch {w : Nat} (l : Bool) {k : Nat} (h : k < w) (m : Nat) :
    filtered w { level := l, held := 0 } (List.replicate k (!l) ++ List.replicate (m + 1) l) =
        List.replicate (k + (m + 1)) l ∧
      settled w { level := l, held := 0 } (List.replicate k (!l) ++ List.replicate (m + 1) l) =
        { level := l, held := 0 } := by
  have hback : filterStep w { level := l, held := k } l = { level := l, held := 0 } := if_pos rfl
  rw [filtered_append, settled_append, filtered_pulse l h, settled_pulse l h, List.replicate_succ, filtered, hback,
    filtered_same, List.replicate_add]
  exact ⟨rfl, (congrArg (settled w · _) hback).trans (settled_same w l m)⟩

theorem ready_glitch {w k : Nat} (h : k < w) (m : Nat) :
    Quiet (rxStep w muted) ready (List.replicate k false ++ List.replicate (m + 1) true) ready := by
  obtain ⟨hlevels, hfilter⟩ := filtered_glitch true h m
  have hrun := rx_of_phase (p := .hunting) nofun hlevels (phase_hunting muted _)
  rw [Bool.not_true] at hrun hfilter
  rwa [hfilter] at hrun

theorem broken_active (n : Nat) :
    Quiet (rxStep w muted) (.afterChar true) (List.replicate n false) (.afterChar true) := .stays rfl n

theorem broken_idle {w : Nat} (h : 1 ≤ w) :
    Quiet (rxStep w muted) (.afterChar true) (List.replicate w true) ready := by
  have hphase : Quiet (phaseStep muted) .waiting (List.replicate (w - 1) false ++ List.replicate 1 true) .hunting :=
    (Quiet.stays rfl _).append (.one rfl)
  have hrun := rx_of_phase (p := .waiting) nofun (filtered_accepted h false 0) hphase
  rwa [settled_accepted h] at hrun

theorem filtered_length (f : FilterState) (raw : List Bool) : (filtered w f raw).length = raw.length := by
  induction raw generalizing f with
  | nil => rfl
  | cons b raw ih => rw [filtered, List.length_cons, ih, List.length_cons]

theorem rx_skipping {r : Receiver} {age : Nat} (hr : r.phase = .skipping age) {raw : List Bool}
    (h : age + raw.length < 168) :
    Quiet (rxStep w muted) r raw
      { filter := settled w r.filter raw, phase := .skipping (age + raw.length) } := by
  obtain ⟨f, p⟩ := r
  subst hr
  have hphase := phase_skipping muted (filtered w f raw) (age := age) (by rwa [filtered_length])
  rw [filtered_length] at hphase
  exact rx_of_phase nofun rfl hphase

end Runs

/-! ## A character drawn on the line (R1) -/

/-- The levels of a character with either level of its stop bit, sixteen sixteenths each. -/
def drawing (bits : List Bool) (e : Bool) : List Bool :=
  ([false] ++ bits ++ [e]).flatMap (List.replicate 16)

/-- The levels up to the one at which the stop bit is sampled. -/
def beforeStop (w : Nat) (bits : List Bool) (e : Bool) : List Bool :=
  ([false] ++ bits).flatMap (List.replicate 16) ++ List.replicate (w + 7) e

theorem drawing_eq {w : Nat} (h : w ≤ 8) (bits : List Bool) (e : Bool) :
    drawing bits e = beforeStop w bits e ++ e :: List.replicate (8 - w) e := by
  have h16 : List.replicate 16 e = List.replicate (w + 7) e ++ e :: List.replicate (8 - w) e := by
    rw [← List.replicate_succ, List.replicate_append_replicate]
    congr 1
    omega
  rw [drawing, beforeStop, List.flatMap_append, List.flatMap_singleton, h16, List.append_assoc]

/-- From a ready receiver over a drawing, up to the sixteenth before the stop bit is sampled. -/
theorem rx_beforeStop {w : Nat} (hw : 1 ≤ w) (hw' : w ≤ 8) {bits : List Bool} {e muted : Bool} {p : RxPhase}
    (hp : Quiet (phaseStep muted) .hunting
      (([false] ++ bits).flatMap (List.replicate 16) ++ List.replicate 8 e) p) :
    Quiet (rxStep w muted) ready (beforeStop w bits e)
      { filter := { level := e, held := 0 }, phase := p } := by
  obtain ⟨hlevels, hfilter⟩ := filtered_bits hw hw' true ([false] ++ bits) e 7
  rw [List.append_assoc] at hlevels
  have hrun := rx_of_phase (p := .hunting) nofun hlevels ((phase_hunting muted (w - 1)).append hp)
  rwa [hfilter] at hrun

/-- After the stop bit has been sampled the rest of it changes nothing. -/
theorem afterChar_rest (w : Nat) (muted framing : Bool) (n : Nat) :
    Quiet (rxStep w muted) (.afterChar framing) (List.replicate n (!framing)) (.afterChar framing) := by
  cases framing
  · exact ready_idle w muted n
  · exact broken_active w muted n

/-- With DE high the whole drawing is skipped (R3). -/
theorem rx_muted {w : Nat} (hw : 1 ≤ w) (hw' : w ≤ 8) {bits : List Bool} (framing : Bool) (h : bits.length = 9) :
    Quiet (rxStep w true) ready (drawing bits (!framing)) (.afterChar framing) := by
  rw [drawing_eq hw']
  refine (rx_beforeStop hw hw' (phase_skipped bits _ h)).append (.cons ?_ (afterChar_rest w true framing _))
  rw [rxStep_of_phase (p := .skipping 167) nofun, filterStep_same w { level := !framing, held := 0 }]
  rfl

/-! ## The Probe Line Port at raw levels -/

/-- The machine with another receiver. -/
def hearing (s : State) (r : Receiver) : State := { s with plp := { s.plp with receiver := r } }

theorem hearLevel_quiet {s : State} {x y : Receiver} {b : Bool}
    (h : rxStep s.filterWidth s.de x b = (y, none)) : hearLevel (hearing s x) b = hearing s y := by
  have hstep : (hearing s x).plp.receiver.step (hearing s x).filterWidth (hearing s x).de b = (y, none) := h
  rw [hearLevel, hstep]
  rfl

theorem hearLevel_heard {s : State} {x y : Receiver} {b framing : Bool} {c : LineBits}
    (h : rxStep s.filterWidth s.de x b = (y, some (c, framing))) :
    hearLevel (hearing s x) b = takeCharacter c framing (hearing s y) := by
  have hstep : (hearing s x).plp.receiver.step (hearing s x).filterWidth (hearing s x).de b =
      (y, some (c, framing)) := h
  rw [hearLevel, hstep]
  rfl

theorem hearLevels_quiet {s : State} {x y : Receiver} {raw : List Bool}
    (h : Quiet (rxStep s.filterWidth s.de) x raw y) : raw.foldl hearLevel (hearing s x) = hearing s y := by
  induction h with
  | nil => rfl
  | cons hstep _ ih => rw [List.foldl_cons, hearLevel_quiet hstep, ih]

theorem sendFor_hearing (n : Nat) (p : Plp) (r : Receiver) :
    ({ p with receiver := r } : Plp).sendFor n = { p.sendFor n with receiver := r } := by
  unfold Plp.sendFor
  dsimp only
  (repeat' split) <;> rfl

/-- Levels at which no character is received change the receiver, and send on a poll. -/
theorem exec_raw_quiet {s : State} {r : Receiver} {raw : List Bool} (hr : s.resetHeld = false)
    (h : Quiet (rxStep s.filterWidth s.de) s.plp.receiver raw r) :
    exec (.characterReceived (.raw raw)) s =
      .next { s with plp := { s.plp.sendFor raw.length with receiver := r } } := by
  rw [exec_characterReceived hr, ← sendFor_hearing]
  have hrun : raw.foldl hearLevel s = hearing s r := hearLevels_quiet (s := s) h
  rw [characterReceived, hrun]
  rfl

/-! ## A character received (R1, R3, R20) -/

theorem takeChar_receiver (p : Plp) (bits : LineBits) (framing : Bool) :
    (p.takeChar bits framing).receiver = p.receiver := by
  unfold Plp.takeChar
  split
  · cases hs : syncPolarity bits framing with
    | none => rw [awaitChar_of_noise hs]
    | some q => rw [awaitChar_of_sync hs]
  · rw [receiveChar_eq]
  · rw [trailChar_eq]
  all_goals rfl

theorem decideOutcome_plp (jabbering : Bool) (s : State) :
    (decideOutcome jabbering s).plp = s.plp ∨ (decideOutcome jabbering s).plp = s.plp.toIdle := by
  unfold decideOutcome
  split
  · exact .inr (deliver_plp _ _)
  · exact .inl rfl

theorem takeCharacter_receiver (bits : LineBits) (framing : Bool) (s : State) :
    (takeCharacter bits framing s).plp.receiver = s.plp.receiver := by
  have htake := takeChar_receiver s.plp bits framing
  rw [takeCharacter]
  split
  · rcases decideOutcome_plp true { s with plp := s.plp.takeChar bits framing } with h | h <;> rw [h] <;>
      exact htake
  · exact htake

/-- No character begins a poll. -/
theorem takeCharacter_not_sending {s : State} (h : s.plp.phase ≠ .sending) (bits : LineBits) (framing : Bool) :
    (takeCharacter bits framing s).plp.phase ≠ .sending := by
  have htake : (s.plp.takeChar bits framing).phase ≠ .sending := by
    rcases takeChar_phase s.plp bits framing with ⟨_, heq⟩ | ⟨_, hl⟩
    · rw [heq]; exact h
    · intro hs; rw [hs] at hl; cases hl
  rw [takeCharacter]
  split
  · rcases decideOutcome_plp true { s with plp := s.plp.takeChar bits framing } with h | h <;> rw [h]
    · exact htake
    · nofun
  · exact htake

theorem sendFor_of_not_sending {p : Plp} (h : p.phase ≠ .sending) (n : Nat) : p.sendFor n = p := by
  unfold Plp.sendFor
  dsimp only
  split
  · next hs => exact absurd hs h
  all_goals rfl

theorem bitsToChar_levels (c : LineBits) : bitsToChar ((List.range 9).map c.getLsbD) = c := by
  have hall : ∀ c : LineBits, bitsToChar ((List.range 9).map c.getLsbD) = c := by decide +kernel
  exact hall c

theorem data_length (c : LineBits) : ((List.range 9).map c.getLsbD).length = 9 := by
  rw [List.length_map, List.length_range]

theorem character_stop (muted level : Bool) (bits : List Bool) :
    phaseStep muted (.character 167 bits) level = (afterStop level, some (bitsToChar bits, !level)) := rfl

/-- The level at which the stop bit is sampled gives out the character. -/
theorem hearLevel_stop {s : State} (c : LineBits) (framing : Bool) :
    hearLevel
        (hearing s
          { filter := { level := !framing, held := 0 },
            phase := .character 167 ((List.range 9).map c.getLsbD) }) (!framing) =
      takeCharacter c framing (s.heard framing) := by
  refine hearLevel_heard ?_
  rw [rxStep_of_phase (p := .character 167 _) nofun, filterStep_same _ { level := !framing, held := 0 },
    character_stop, bitsToChar_levels, Bool.not_not]
  rfl

theorem hearLevels_character {s : State} {n : Nat} (c : LineBits) (framing : Bool) (hde : s.de = false)
    (hw : 1 ≤ s.filterWidth) (hw' : s.filterWidth ≤ 8)
    (hready : Quiet (rxStep s.filterWidth false) s.plp.receiver (List.replicate n true) ready) :
    (List.replicate n true ++ drawing ((List.range 9).map c.getLsbD) (!framing)).foldl hearLevel s =
      takeCharacter c framing (s.heard framing) := by
  have hbefore := hready.append (rx_beforeStop hw hw' (phase_character _ (!framing) (data_length c)))
  rw [← hde] at hbefore
  have htaken : (takeCharacter c framing (s.heard framing)).plp.receiver = .afterChar framing :=
    takeCharacter_receiver _ _ _
  rw [drawing_eq hw', ← List.append_assoc, List.foldl_append,
    show List.foldl hearLevel s _ = _ from hearLevels_quiet hbefore, List.foldl_cons, hearLevel_stop]
  have hrest := hearLevels_quiet (s := takeCharacter c framing (s.heard framing))
    (afterChar_rest _ _ framing (8 - s.filterWidth))
  rw [← htaken] at hrest
  exact hrest

theorem not_sending_of_de {s : State} (hr : s.resetHeld = false) (h : s.de = false) : s.plp.phase ≠ .sending := by
  intro hs
  rw [de_eq hr, hs] at h
  cases h

/-- Settles O10: the filter's runs, and the receiver's over what the filter lets through. -/
theorem glitchFilterWidth : Obligations.GlitchFilterWidth := by
  refine ⟨fun w n l => ⟨fun h => (filtered_glitch l h 0).1, filtered_accepted (Nat.le_add_left 1 w) l 0⟩,
    fun s n m k c framing => ?_⟩
  intro bits drawn hears with_ becomes start hr hw hw'
  have hdata := data_length c
  refine ⟨fun hde hrx => ?_, fun hrx => ?_, fun hde hrx => ?_, fun raw age hrx hage => ?_, fun hrx => ?_⟩
  · have hidle : Quiet (rxStep s.filterWidth false) s.plp.receiver (List.replicate n true) ready := by
      rcases hrx with hrx | ⟨hrx, hn⟩ <;> rw [hrx]
      · exact ready_idle _ _ n
      · exact powerOn_idle _ _ hn
    refine ⟨?_, fun hk => ?_⟩
    · have hsend : (takeCharacter c framing (s.heard framing)).plp.phase ≠ .sending :=
        takeCharacter_not_sending (s := s.heard framing) (not_sending_of_de hr hde) c framing
      show exec (.characterReceived (.raw drawn)) s = _
      rw [exec_characterReceived hr, exec_char hr, characterReceived,
        show drawn.foldl hearLevel s = _ from hearLevels_character c framing hde hw hw' hidle]
      rw [sendFor_of_not_sending hsend]
    · refine exec_raw_quiet hr ?_
      rw [List.append_assoc, hde]
      exact hidle.append (ready_glitch false hk m)
  · refine ⟨exec_raw_quiet hr ?_, exec_raw_quiet hr ?_⟩
    · rw [hrx]
      exact broken_active _ _ n
    · rw [hrx]
      exact (broken_active _ _ n).append (broken_idle _ hw)
  · refine exec_raw_quiet hr ?_
    rw [hrx, hde]
    exact (ready_idle _ _ n).append (rx_muted hw hw' framing hdata)
  · refine ⟨settled s.filterWidth s.plp.receiver.filter raw, exec_raw_quiet hr (rx_skipping _ _ hrx hage)⟩
  · refine exec_raw_quiet hr ?_
    rw [hrx]
    exact powerOn_active _ _ n

end Sys2Proof.Machine.GlitchFilter
end
